-- ==== Sys2Proof/Word.lean ====
section
/-! DEFINITION. The bit-vector types of the machine: bytes, words, physical addresses (R8, R10, R14). -/

namespace Sys2Proof

/-- A byte, 8 bits (R10). -/
abbrev Byte := BitVec 8

/-- A word, 16 bits (R10): registers, offsets, PC, port numbers. -/
abbrev Word := BitVec 16

/-- A 20-bit physical address of the 1-Mbyte memory space (R8, R100). -/
abbrev PhysAddr := BitVec 20

end Sys2Proof
end

