-- ==== Sys2Proof/Config.lean ====
section
/-! DEFINITION. What the spec leaves to the implementation or leaves undefined. Every constant is opaque: nothing in
Lean can evaluate it, so a theorem about the model holds whatever its value is. -/

namespace Sys2Proof.Config

/-- The `n`-th value the rules do not fix: `UNDEF` of R13 and the values the environment chooses (R77, R140).
DESIGN CHOICE, safe: log 8. -/
opaque freeWord : Nat → BitVec 16

/-- `SAVEDPC_DIVERR` of R501: true if a divide error saves the offset of the next instruction, false if it saves the
offset of the dividing instruction with its prefixes. DESIGN CHOICE, safe: log 10. -/
opaque divErrorSavesNext : Bool

/-- `SAVEDPC_IOTRAP` of R501. DESIGN CHOICE, safe: log 10. -/
opaque ioTrapSavesNext : Bool

/-- `SAVEDPC_FPO` of R501. DESIGN CHOICE, safe: log 10. -/
opaque fpoSavesNext : Bool

/-- `SAVEDPC_CHKIND` of R501. DESIGN CHOICE, safe: log 10. -/
opaque chkindSavesNext : Bool

/-- `SHIFT_COUNT_MASK` of R340: true for 1FH, false for FFH. DESIGN CHOICE, safe: log 11. -/
opaque shiftCountMasked : Bool

/-- `PUSH_SP_VALUE` of R402: true if PUSH SP stores the decremented SP, false if the old one. DESIGN CHOICE, safe: log 12. -/
opaque pushSpStoresNew : Bool

/-- Whether PREPARE takes a level above 31 modulo 32 (R414). DESIGN CHOICE, safe: log 13. -/
opaque prepareLevelMasked : Bool

/-- Whether DIV raises the divide error on a quotient equal to the most negative value (R286). DESIGN CHOICE, safe:
log 14. -/
opaque divMostNegativeTraps : Bool

/-- Whether a repeated I/O instruction whose count is 0 is an attempted one when IBRK = 0 (R257). DESIGN CHOICE, safe:
log 16. -/
opaque ioTrapAtZeroCount : Bool

/-- Whether a vectored or bank-switching request ends HALT while IE = 0: R430 has it resume at the next instruction, and has
it never end (R430). DESIGN CHOICE, safe: log 25. -/
opaque haltEndsWithoutIe : Bool

/-- Whether the single-step trap is taken between the iterations of a repeated block instruction (R503). DESIGN CHOICE,
safe: log 17. -/
opaque stepTrapBetweenIterations : Bool

/-- Whether the instruction byte after offset FFFFH is the one at the next physical address (true) or the one at offset
0000H of the segment (false) (R44). DESIGN CHOICE, safe: log 18. -/
opaque fetchCrossesSegmentEnd : Bool

/-- How many bytes a BCD string instruction processes when CL is 0 or odd (R310). DESIGN CHOICE: log 22. -/
opaque bcdOpenLength : BitVec 8 → Fin 129

/-- One byte that macro service writes (R538): in external memory, in a special function register, or in register bank 0
or 1, whose 64 bytes are the first of the on-chip RAM. -/
inductive ServiceWrite where
  | memory (a : PhysAddr) (v : Byte)
  | sfr (offset : Byte) (v : Byte)
  | bank (offset : BitVec 6) (v : Byte)
  deriving DecidableEq, Repr

/-- What the macro service response of a given index writes, in order; it may depend on all it can read: external memory,
the on-chip RAM, the cells of the special function registers (R538). DESIGN CHOICE, safe: log 41. -/
opaque macroService : Nat → List (Nat × Byte) → List (Nat × Byte) → List (Nat × Byte) → List ServiceWrite

end Sys2Proof.Config
end

