-- ==== Sys2Proof/Syntax.lean ====
section
/-! DEFINITION. The instructions: one constructor of `Instr` for each row of `spec/opcode_table.json`, with the operands
the row's encoding names (R151 to R169). Operand bytes are kept whole, so that encoding loses nothing. -/

namespace Sys2Proof

/-- The 16-bit registers, in the order of their encoding numbers 0 to 7 (R154). -/
inductive Reg16 where
  | aw | cw | dw | bw | sp | bp | ix | iy
  deriving DecidableEq, Repr

/-- The 8-bit registers, in the order of their encoding numbers 0 to 7 (R155). -/
inductive Reg8 where
  | al | cl | dl | bl | ah | ch | dh | bh
  deriving DecidableEq, Repr

/-- `STOP_OPCODE` of R9: the second byte of STOP, one of the two that R431 names, or not fixed. -/
inductive StopOpcode where
  | byte9E | byteBE | unset
  deriving DecidableEq, Repr

/-- The segment registers, in the order of their encoding numbers 0 to 3 (R156). -/
inductive SReg where
  | ds1 | ps | ss | ds0
  deriving DecidableEq, Repr

/-- The register part of an effective address, in the order of the mem field 000 to 111 (R160). -/
inductive Base where
  | bwIx | bwIy | bpIx | bpIy | ix | iy | bp | bw
  deriving DecidableEq, Repr

/-- A memory operand of the mod-r/m byte, mod = 00, 01 or 10 (R157, R160). `based0 .bp` has no encoding: that pattern is
the direct address. -/
inductive MemOp where
  | direct (addr : Word)
  | based0 (b : Base)
  | based8 (b : Base) (disp : Byte)
  | based16 (b : Base) (disp : Word)
  deriving DecidableEq, Repr

/-- A register-or-memory operand (R157): mod = 11 names a register, every other mod a memory operand. -/
inductive RM (ρ : Type) where
  | reg (r : ρ)
  | mem (m : MemOp)
  deriving DecidableEq, Repr

/-- The instruction set (R165, R167). The rows with operands stand first, each group in the order of the table: Lean bounds
the number of constructors that hold a field. A prefix is an instruction of its own here as in the table (log 7): it leaves its
mark in the state for the instruction that follows. -/
inductive Instr where
  /-- ADD eb,rb, R271. -/
  | addEbRb (e : RM Reg8) (r : Reg8)
  /-- ADD ew,rw, R271. -/
  | addEwRw (e : RM Reg16) (r : Reg16)
  /-- ADD rb,eb, R271. -/
  | addRbEb (r : Reg8) (e : RM Reg8)
  /-- ADD rw,ew, R271. -/
  | addRwEw (r : Reg16) (e : RM Reg16)
  /-- ADD AL,imm8, R271. -/
  | addAlImm8 (imm : Byte)
  /-- ADD AW,imm16, R271. -/
  | addAwImm16 (imm : Word)
  /-- ADD eb,imm8, R271. -/
  | addEbImm8 (e : RM Reg8) (imm : Byte)
  /-- ADD ew,imm16, R271. -/
  | addEwImm16 (e : RM Reg16) (imm : Word)
  /-- ADD eb,imm8 (duplicate opcode 82H), R271. -/
  | addEbImm8Dup (e : RM Reg8) (imm : Byte)
  /-- ADD ew,sext imm8, R271. -/
  | addEwSextImm8 (e : RM Reg16) (imm : Byte)
  /-- OR eb,rb, R322. -/
  | orEbRb (e : RM Reg8) (r : Reg8)
  /-- OR ew,rw, R322. -/
  | orEwRw (e : RM Reg16) (r : Reg16)
  /-- OR rb,eb, R322. -/
  | orRbEb (r : Reg8) (e : RM Reg8)
  /-- OR rw,ew, R322. -/
  | orRwEw (r : Reg16) (e : RM Reg16)
  /-- OR AL,imm8, R322. -/
  | orAlImm8 (imm : Byte)
  /-- OR AW,imm16, R322. -/
  | orAwImm16 (imm : Word)
  /-- OR eb,imm8, R322. -/
  | orEbImm8 (e : RM Reg8) (imm : Byte)
  /-- OR ew,imm16, R322. -/
  | orEwImm16 (e : RM Reg16) (imm : Word)
  /-- OR eb,imm8 (duplicate opcode 82H), R322. -/
  | orEbImm8Dup (e : RM Reg8) (imm : Byte)
  /-- OR ew,sext imm8, R322. -/
  | orEwSextImm8 (e : RM Reg16) (imm : Byte)
  /-- ADDC eb,rb, R272. -/
  | addcEbRb (e : RM Reg8) (r : Reg8)
  /-- ADDC ew,rw, R272. -/
  | addcEwRw (e : RM Reg16) (r : Reg16)
  /-- ADDC rb,eb, R272. -/
  | addcRbEb (r : Reg8) (e : RM Reg8)
  /-- ADDC rw,ew, R272. -/
  | addcRwEw (r : Reg16) (e : RM Reg16)
  /-- ADDC AL,imm8, R272. -/
  | addcAlImm8 (imm : Byte)
  /-- ADDC AW,imm16, R272. -/
  | addcAwImm16 (imm : Word)
  /-- ADDC eb,imm8, R272. -/
  | addcEbImm8 (e : RM Reg8) (imm : Byte)
  /-- ADDC ew,imm16, R272. -/
  | addcEwImm16 (e : RM Reg16) (imm : Word)
  /-- ADDC eb,imm8 (duplicate opcode 82H), R272. -/
  | addcEbImm8Dup (e : RM Reg8) (imm : Byte)
  /-- ADDC ew,sext imm8, R272. -/
  | addcEwSextImm8 (e : RM Reg16) (imm : Byte)
  /-- SUBC eb,rb, R274. -/
  | subcEbRb (e : RM Reg8) (r : Reg8)
  /-- SUBC ew,rw, R274. -/
  | subcEwRw (e : RM Reg16) (r : Reg16)
  /-- SUBC rb,eb, R274. -/
  | subcRbEb (r : Reg8) (e : RM Reg8)
  /-- SUBC rw,ew, R274. -/
  | subcRwEw (r : Reg16) (e : RM Reg16)
  /-- SUBC AL,imm8, R274. -/
  | subcAlImm8 (imm : Byte)
  /-- SUBC AW,imm16, R274. -/
  | subcAwImm16 (imm : Word)
  /-- SUBC eb,imm8, R274. -/
  | subcEbImm8 (e : RM Reg8) (imm : Byte)
  /-- SUBC ew,imm16, R274. -/
  | subcEwImm16 (e : RM Reg16) (imm : Word)
  /-- SUBC eb,imm8 (duplicate opcode 82H), R274. -/
  | subcEbImm8Dup (e : RM Reg8) (imm : Byte)
  /-- SUBC ew,sext imm8, R274. -/
  | subcEwSextImm8 (e : RM Reg16) (imm : Byte)
  /-- AND eb,rb, R321. -/
  | andEbRb (e : RM Reg8) (r : Reg8)
  /-- AND ew,rw, R321. -/
  | andEwRw (e : RM Reg16) (r : Reg16)
  /-- AND rb,eb, R321. -/
  | andRbEb (r : Reg8) (e : RM Reg8)
  /-- AND rw,ew, R321. -/
  | andRwEw (r : Reg16) (e : RM Reg16)
  /-- AND AL,imm8, R321. -/
  | andAlImm8 (imm : Byte)
  /-- AND AW,imm16, R321. -/
  | andAwImm16 (imm : Word)
  /-- AND eb,imm8, R321. -/
  | andEbImm8 (e : RM Reg8) (imm : Byte)
  /-- AND ew,imm16, R321. -/
  | andEwImm16 (e : RM Reg16) (imm : Word)
  /-- AND eb,imm8 (duplicate opcode 82H), R321. -/
  | andEbImm8Dup (e : RM Reg8) (imm : Byte)
  /-- AND ew,sext imm8, R321. -/
  | andEwSextImm8 (e : RM Reg16) (imm : Byte)
  /-- SUB eb,rb, R273. -/
  | subEbRb (e : RM Reg8) (r : Reg8)
  /-- SUB ew,rw, R273. -/
  | subEwRw (e : RM Reg16) (r : Reg16)
  /-- SUB rb,eb, R273. -/
  | subRbEb (r : Reg8) (e : RM Reg8)
  /-- SUB rw,ew, R273. -/
  | subRwEw (r : Reg16) (e : RM Reg16)
  /-- SUB AL,imm8, R273. -/
  | subAlImm8 (imm : Byte)
  /-- SUB AW,imm16, R273. -/
  | subAwImm16 (imm : Word)
  /-- SUB eb,imm8, R273. -/
  | subEbImm8 (e : RM Reg8) (imm : Byte)
  /-- SUB ew,imm16, R273. -/
  | subEwImm16 (e : RM Reg16) (imm : Word)
  /-- SUB eb,imm8 (duplicate opcode 82H), R273. -/
  | subEbImm8Dup (e : RM Reg8) (imm : Byte)
  /-- SUB ew,sext imm8, R273. -/
  | subEwSextImm8 (e : RM Reg16) (imm : Byte)
  /-- XOR eb,rb, R323. -/
  | xorEbRb (e : RM Reg8) (r : Reg8)
  /-- XOR ew,rw, R323. -/
  | xorEwRw (e : RM Reg16) (r : Reg16)
  /-- XOR rb,eb, R323. -/
  | xorRbEb (r : Reg8) (e : RM Reg8)
  /-- XOR rw,ew, R323. -/
  | xorRwEw (r : Reg16) (e : RM Reg16)
  /-- XOR AL,imm8, R323. -/
  | xorAlImm8 (imm : Byte)
  /-- XOR AW,imm16, R323. -/
  | xorAwImm16 (imm : Word)
  /-- XOR eb,imm8, R323. -/
  | xorEbImm8 (e : RM Reg8) (imm : Byte)
  /-- XOR ew,imm16, R323. -/
  | xorEwImm16 (e : RM Reg16) (imm : Word)
  /-- XOR eb,imm8 (duplicate opcode 82H), R323. -/
  | xorEbImm8Dup (e : RM Reg8) (imm : Byte)
  /-- XOR ew,sext imm8, R323. -/
  | xorEwSextImm8 (e : RM Reg16) (imm : Byte)
  /-- CMP eb,rb, R275. -/
  | cmpEbRb (e : RM Reg8) (r : Reg8)
  /-- CMP ew,rw, R275. -/
  | cmpEwRw (e : RM Reg16) (r : Reg16)
  /-- CMP rb,eb, R275. -/
  | cmpRbEb (r : Reg8) (e : RM Reg8)
  /-- CMP rw,ew, R275. -/
  | cmpRwEw (r : Reg16) (e : RM Reg16)
  /-- CMP AL,imm8, R275. -/
  | cmpAlImm8 (imm : Byte)
  /-- CMP AW,imm16, R275. -/
  | cmpAwImm16 (imm : Word)
  /-- CMP eb,imm8, R275. -/
  | cmpEbImm8 (e : RM Reg8) (imm : Byte)
  /-- CMP ew,imm16, R275. -/
  | cmpEwImm16 (e : RM Reg16) (imm : Word)
  /-- CMP eb,imm8 (duplicate opcode 82H), R275. -/
  | cmpEbImm8Dup (e : RM Reg8) (imm : Byte)
  /-- CMP ew,sext imm8, R275. -/
  | cmpEwSextImm8 (e : RM Reg16) (imm : Byte)
  /-- INC reg16, R277. -/
  | incReg16 (r : Reg16)
  /-- DEC reg16, R279. -/
  | decReg16 (r : Reg16)
  /-- PUSH reg16, R402. -/
  | pushReg16 (r : Reg16)
  /-- POP reg16, R403. -/
  | popReg16 (r : Reg16)
  /-- CHKIND reg16,mem32, R425. -/
  | chkind (r : Reg16) (m : MemOp)
  /-- FPO2, R447. -/
  | fpo2 (op : BitVec 1) (reg : BitVec 3) (e : RM Reg16)
  /-- PUSH imm16, R410. -/
  | pushImm16 (imm : Word)
  /-- MUL reg16,ew,imm16, R287. -/
  | mulReg16EwImm16 (r : Reg16) (e : RM Reg16) (imm : Word)
  /-- PUSH imm8, R411. -/
  | pushImm8 (imm : Byte)
  /-- MUL reg16,ew,imm8, R287. -/
  | mulReg16EwImm8 (r : Reg16) (e : RM Reg16) (imm : Byte)
  /-- BV short-label, R381. -/
  | bv (disp : Byte)
  /-- BNV short-label, R382. -/
  | bnv (disp : Byte)
  /-- BC/BL short-label, R383. -/
  | bc (disp : Byte)
  /-- BNC/BNL short-label, R384. -/
  | bnc (disp : Byte)
  /-- BE/BZ short-label, R385. -/
  | be (disp : Byte)
  /-- BNE/BNZ short-label, R386. -/
  | bne (disp : Byte)
  /-- BNH short-label, R387. -/
  | bnh (disp : Byte)
  /-- BH short-label, R388. -/
  | bh (disp : Byte)
  /-- BN short-label, R389. -/
  | bn (disp : Byte)
  /-- BP short-label, R390. -/
  | bp (disp : Byte)
  /-- BPE short-label, R391. -/
  | bpe (disp : Byte)
  /-- BPO short-label, R392. -/
  | bpo (disp : Byte)
  /-- BLT short-label, R393. -/
  | blt (disp : Byte)
  /-- BGE short-label, R394. -/
  | bge (disp : Byte)
  /-- BLE short-label, R395. -/
  | ble (disp : Byte)
  /-- BGT short-label, R396. -/
  | bgt (disp : Byte)
  /-- TEST eb,rb, R324. -/
  | testEbRb (e : RM Reg8) (r : Reg8)
  /-- TEST ew,rw, R324. -/
  | testEwRw (e : RM Reg16) (r : Reg16)
  /-- XCH eb,rb, R210. -/
  | xchEbRb (e : RM Reg8) (r : Reg8)
  /-- XCH ew,rw, R210. -/
  | xchEwRw (e : RM Reg16) (r : Reg16)
  /-- MOV eb,rb, R201. -/
  | movEbRb (e : RM Reg8) (r : Reg8)
  /-- MOV ew,rw, R201. -/
  | movEwRw (e : RM Reg16) (r : Reg16)
  /-- MOV rb,eb, R201. -/
  | movRbEb (r : Reg8) (e : RM Reg8)
  /-- MOV rw,ew, R201. -/
  | movRwEw (r : Reg16) (e : RM Reg16)
  /-- MOV ew,sreg, R206. -/
  | movEwSreg (e : RM Reg16) (s : SReg)
  /-- LDEA reg16,mem16, R209. -/
  | ldea (r : Reg16) (m : MemOp)
  /-- MOV sreg,ew, R205. -/
  | movSregEw (s : SReg) (e : RM Reg16)
  /-- POP ew, R407. -/
  | popEw (e : RM Reg16)
  /-- XCH AW,reg16, R210. -/
  | xchAwReg16 (r : Reg16)
  /-- CALL far-proc, R368. -/
  | callFar (off : Word) (seg : Word)
  /-- MOV AL,[addr16], R204. -/
  | movAlMem (addr : Word)
  /-- MOV AW,[addr16], R204. -/
  | movAwMem (addr : Word)
  /-- MOV [addr16],AL, R204. -/
  | movMemAl (addr : Word)
  /-- MOV [addr16],AW, R204. -/
  | movMemAw (addr : Word)
  /-- TEST AL,imm8, R324. -/
  | testAlImm8 (imm : Byte)
  /-- TEST AW,imm16, R324. -/
  | testAwImm16 (imm : Word)
  /-- MOV reg8,imm8, R203. -/
  | movReg8Imm8 (r : Reg8) (imm : Byte)
  /-- MOV reg16,imm16, R203. -/
  | movReg16Imm16 (r : Reg16) (imm : Word)
  /-- ROL eb,imm8, R346. -/
  | rolEbImm8 (e : RM Reg8) (imm : Byte)
  /-- ROR eb,imm8, R347. -/
  | rorEbImm8 (e : RM Reg8) (imm : Byte)
  /-- ROLC eb,imm8, R348. -/
  | rolcEbImm8 (e : RM Reg8) (imm : Byte)
  /-- RORC eb,imm8, R349. -/
  | rorcEbImm8 (e : RM Reg8) (imm : Byte)
  /-- SHL eb,imm8, R341. -/
  | shlEbImm8 (e : RM Reg8) (imm : Byte)
  /-- SHR eb,imm8, R342. -/
  | shrEbImm8 (e : RM Reg8) (imm : Byte)
  /-- SHRA eb,imm8, R343. -/
  | shraEbImm8 (e : RM Reg8) (imm : Byte)
  /-- ROL ew,imm8, R346. -/
  | rolEwImm8 (e : RM Reg16) (imm : Byte)
  /-- ROR ew,imm8, R347. -/
  | rorEwImm8 (e : RM Reg16) (imm : Byte)
  /-- ROLC ew,imm8, R348. -/
  | rolcEwImm8 (e : RM Reg16) (imm : Byte)
  /-- RORC ew,imm8, R349. -/
  | rorcEwImm8 (e : RM Reg16) (imm : Byte)
  /-- SHL ew,imm8, R341. -/
  | shlEwImm8 (e : RM Reg16) (imm : Byte)
  /-- SHR ew,imm8, R342. -/
  | shrEwImm8 (e : RM Reg16) (imm : Byte)
  /-- SHRA ew,imm8, R343. -/
  | shraEwImm8 (e : RM Reg16) (imm : Byte)
  /-- ROL eb,1, R346. -/
  | rolEb1 (e : RM Reg8)
  /-- ROR eb,1, R347. -/
  | rorEb1 (e : RM Reg8)
  /-- ROLC eb,1, R348. -/
  | rolcEb1 (e : RM Reg8)
  /-- RORC eb,1, R349. -/
  | rorcEb1 (e : RM Reg8)
  /-- SHL eb,1, R341. -/
  | shlEb1 (e : RM Reg8)
  /-- SHR eb,1, R342. -/
  | shrEb1 (e : RM Reg8)
  /-- SHRA eb,1, R343. -/
  | shraEb1 (e : RM Reg8)
  /-- ROL ew,1, R346. -/
  | rolEw1 (e : RM Reg16)
  /-- ROR ew,1, R347. -/
  | rorEw1 (e : RM Reg16)
  /-- ROLC ew,1, R348. -/
  | rolcEw1 (e : RM Reg16)
  /-- RORC ew,1, R349. -/
  | rorcEw1 (e : RM Reg16)
  /-- SHL ew,1, R341. -/
  | shlEw1 (e : RM Reg16)
  /-- SHR ew,1, R342. -/
  | shrEw1 (e : RM Reg16)
  /-- SHRA ew,1, R343. -/
  | shraEw1 (e : RM Reg16)
  /-- ROL eb,CL, R346. -/
  | rolEbCl (e : RM Reg8)
  /-- ROR eb,CL, R347. -/
  | rorEbCl (e : RM Reg8)
  /-- ROLC eb,CL, R348. -/
  | rolcEbCl (e : RM Reg8)
  /-- RORC eb,CL, R349. -/
  | rorcEbCl (e : RM Reg8)
  /-- SHL eb,CL, R341. -/
  | shlEbCl (e : RM Reg8)
  /-- SHR eb,CL, R342. -/
  | shrEbCl (e : RM Reg8)
  /-- SHRA eb,CL, R343. -/
  | shraEbCl (e : RM Reg8)
  /-- ROL ew,CL, R346. -/
  | rolEwCl (e : RM Reg16)
  /-- ROR ew,CL, R347. -/
  | rorEwCl (e : RM Reg16)
  /-- ROLC ew,CL, R348. -/
  | rolcEwCl (e : RM Reg16)
  /-- RORC ew,CL, R349. -/
  | rorcEwCl (e : RM Reg16)
  /-- SHL ew,CL, R341. -/
  | shlEwCl (e : RM Reg16)
  /-- SHR ew,CL, R342. -/
  | shrEwCl (e : RM Reg16)
  /-- SHRA ew,CL, R343. -/
  | shraEwCl (e : RM Reg16)
  /-- RET pop-value (near), R371. -/
  | retNearPop (imm : Word)
  /-- MOV DS1,reg16,mem32, R208. -/
  | movDs1Mem32 (r : Reg16) (m : MemOp)
  /-- MOV DS0,reg16,mem32, R207. -/
  | movDs0Mem32 (r : Reg16) (m : MemOp)
  /-- MOV eb,imm8, R202. -/
  | movEbImm8 (e : RM Reg8) (imm : Byte)
  /-- MOV ew,imm16, R202. -/
  | movEwImm16 (e : RM Reg16) (imm : Word)
  /-- PREPARE imm16,imm8, R414. -/
  | prepare (size : Word) (level : Byte)
  /-- RET pop-value (far), R373. -/
  | retFarPop (imm : Word)
  /-- BRK imm8, R422. -/
  | brkImm8 (imm : Byte)
  /-- FPO1, R446. -/
  | fpo1 (op : BitVec 3) (reg : BitVec 3) (e : RM Reg16)
  /-- DBNZNE short-label, R374. -/
  | dbnzne (disp : Byte)
  /-- DBNZE short-label, R375. -/
  | dbnze (disp : Byte)
  /-- DBNZ short-label, R376. -/
  | dbnz (disp : Byte)
  /-- BCWZ short-label, R377. -/
  | bcwz (disp : Byte)
  /-- IN AL,imm8, R251. -/
  | inAlImm8 (imm : Byte)
  /-- IN AW,imm8, R251. -/
  | inAwImm8 (imm : Byte)
  /-- OUT imm8,AL, R253. -/
  | outImm8Al (imm : Byte)
  /-- OUT imm8,AW, R253. -/
  | outImm8Aw (imm : Byte)
  /-- CALL near-proc, R366. -/
  | callNear (disp : Word)
  /-- BR near-label, R361. -/
  | brNear (disp : Word)
  /-- BR far-label, R363. -/
  | brFar (off : Word) (seg : Word)
  /-- BR short-label, R362. -/
  | brShort (disp : Byte)
  /-- TEST eb,imm8, R324. -/
  | testEbImm8 (e : RM Reg8) (imm : Byte)
  /-- NOT eb, R325. -/
  | notEb (e : RM Reg8)
  /-- NEG eb, R281. -/
  | negEb (e : RM Reg8)
  /-- MULU eb, R282. -/
  | muluEb (e : RM Reg8)
  /-- MUL eb, R283. -/
  | mulEb (e : RM Reg8)
  /-- DIVU eb, R285. -/
  | divuEb (e : RM Reg8)
  /-- DIV eb, R286. -/
  | divEb (e : RM Reg8)
  /-- TEST ew,imm16, R324. -/
  | testEwImm16 (e : RM Reg16) (imm : Word)
  /-- NOT ew, R325. -/
  | notEw (e : RM Reg16)
  /-- NEG ew, R281. -/
  | negEw (e : RM Reg16)
  /-- MULU ew, R282. -/
  | muluEw (e : RM Reg16)
  /-- MUL ew, R283. -/
  | mulEw (e : RM Reg16)
  /-- DIVU ew, R285. -/
  | divuEw (e : RM Reg16)
  /-- DIV ew, R286. -/
  | divEw (e : RM Reg16)
  /-- INC eb, R278. -/
  | incEb (e : RM Reg8)
  /-- DEC eb, R280. -/
  | decEb (e : RM Reg8)
  /-- INC ew, R278. -/
  | incEw (e : RM Reg16)
  /-- DEC ew, R280. -/
  | decEw (e : RM Reg16)
  /-- CALL regptr16/memptr16, R367. -/
  | callEw (e : RM Reg16)
  /-- CALL memptr32, R369. -/
  | callMem32 (m : MemOp)
  /-- BR regptr16/memptr16, R364. -/
  | brEw (e : RM Reg16)
  /-- BR memptr32, R365. -/
  | brMem32 (m : MemOp)
  /-- PUSH ew, R406. -/
  | pushEw (e : RM Reg16)
  /-- TEST1 eb,CL, R330. -/
  | test1EbCl (e : RM Reg8)
  /-- TEST1 ew,CL, R330. -/
  | test1EwCl (e : RM Reg16)
  /-- TEST1 eb,imm3, R330. -/
  | test1EbImm3 (e : RM Reg8) (imm : Byte)
  /-- TEST1 ew,imm4, R330. -/
  | test1EwImm4 (e : RM Reg16) (imm : Byte)
  /-- CLR1 eb,CL, R331. -/
  | clr1EbCl (e : RM Reg8)
  /-- CLR1 ew,CL, R331. -/
  | clr1EwCl (e : RM Reg16)
  /-- CLR1 eb,imm3, R331. -/
  | clr1EbImm3 (e : RM Reg8) (imm : Byte)
  /-- CLR1 ew,imm4, R331. -/
  | clr1EwImm4 (e : RM Reg16) (imm : Byte)
  /-- SET1 eb,CL, R332. -/
  | set1EbCl (e : RM Reg8)
  /-- SET1 ew,CL, R332. -/
  | set1EwCl (e : RM Reg16)
  /-- SET1 eb,imm3, R332. -/
  | set1EbImm3 (e : RM Reg8) (imm : Byte)
  /-- SET1 ew,imm4, R332. -/
  | set1EwImm4 (e : RM Reg16) (imm : Byte)
  /-- NOT1 eb,CL, R333. -/
  | not1EbCl (e : RM Reg8)
  /-- NOT1 ew,CL, R333. -/
  | not1EwCl (e : RM Reg16)
  /-- NOT1 eb,imm3, R333. -/
  | not1EbImm3 (e : RM Reg8) (imm : Byte)
  /-- NOT1 ew,imm4, R333. -/
  | not1EwImm4 (e : RM Reg16) (imm : Byte)
  /-- ROL4 eb, R315. -/
  | rol4Eb (e : RM Reg8)
  /-- ROR4 eb, R316. -/
  | ror4Eb (e : RM Reg8)
  /-- BRKCS reg16, R461. -/
  | brkcsReg16 (r : Reg16)
  /-- INS reg8,reg8, R260. -/
  | insReg8Reg8 (off : Reg8) (len : Reg8)
  /-- EXT reg8,reg8, R261. -/
  | extReg8Reg8 (off : Reg8) (len : Reg8)
  /-- INS reg8,imm4, R260. -/
  | insReg8Imm4 (off : Reg8) (imm : Byte)
  /-- EXT reg8,imm4, R261. -/
  | extReg8Imm4 (off : Reg8) (imm : Byte)
  /-- TSKSW reg16, R462. -/
  | tskswReg16 (r : Reg16)
  /-- MOVSPB reg16, R466. -/
  | movspbReg16 (r : Reg16)
  /-- BTCLR sfr,imm3,short-label, R380. -/
  | btclr (sfr : Byte) (imm : Byte) (disp : Byte)
  /-- PUSH DS1, R404. -/
  | pushDs1
  /-- PUSH PS, R404. -/
  | pushPs
  /-- PUSH SS, R404. -/
  | pushSs
  /-- PUSH DS0, R404. -/
  | pushDs0
  /-- POP DS1, R405. -/
  | popDs1
  /-- POP SS, R405. -/
  | popSs
  /-- POP DS0, R405. -/
  | popDs0
  /-- DS1: (segment override prefix), R457. -/
  | prefixDs1
  /-- PS: (segment override prefix), R457. -/
  | prefixPs
  /-- SS: (segment override prefix), R457. -/
  | prefixSs
  /-- DS0: (segment override prefix), R457. -/
  | prefixDs0
  /-- ADJ4A, R301. -/
  | adj4a
  /-- ADJ4S, R302. -/
  | adj4s
  /-- ADJBA, R303. -/
  | adjba
  /-- ADJBS, R304. -/
  | adjbs
  /-- PUSH R, R412. -/
  | pushR
  /-- POP R, R413. -/
  | popR
  /-- REPNC (prefix), R233. -/
  | prefixRepnc
  /-- REPC (prefix), R232. -/
  | prefixRepc
  /-- INMB, R255. -/
  | inmb
  /-- INMW, R255. -/
  | inmw
  /-- OUTMB, R256. -/
  | outmb
  /-- OUTMW, R256. -/
  | outmw
  /-- NOP, R448. -/
  | nop
  /-- CVTBW, R288. -/
  | cvtbw
  /-- CVTWL, R289. -/
  | cvtwl
  /-- POLL, R449. -/
  | poll
  /-- PUSH PSW, R408. -/
  | pushPsw
  /-- POP PSW, R409. -/
  | popPsw
  /-- MOV PSW,AH, R213. -/
  | movPswAh
  /-- MOV AH,PSW, R212. -/
  | movAhPsw
  /-- MOVBKB, R240. -/
  | movbkb
  /-- MOVBKW, R240. -/
  | movbkw
  /-- CMPBKB, R241. -/
  | cmpbkb
  /-- CMPBKW, R241. -/
  | cmpbkw
  /-- STMB, R244. -/
  | stmb
  /-- STMW, R244. -/
  | stmw
  /-- LDMB, R243. -/
  | ldmb
  /-- LDMW, R243. -/
  | ldmw
  /-- CMPMB, R242. -/
  | cmpmb
  /-- CMPMW, R242. -/
  | cmpmw
  /-- RET (near), R370. -/
  | retNear
  /-- DISPOSE, R415. -/
  | dispose
  /-- RET (far), R372. -/
  | retFar
  /-- BRK 3, R421. -/
  | brk3
  /-- BRKV, R423. -/
  | brkv
  /-- RETI, R424. -/
  | reti
  /-- CVTBD, R305. -/
  | cvtbd
  /-- CVTDB, R306. -/
  | cvtdb
  /-- TRANS, R211. -/
  | trans
  /-- IN AL,DW, R252. -/
  | inAlDw
  /-- IN AW,DW, R252. -/
  | inAwDw
  /-- OUT DW,AL, R254. -/
  | outDwAl
  /-- OUT DW,AW, R254. -/
  | outDwAw
  /-- BUSLOCK (prefix), R445. -/
  | prefixBuslock
  /-- REPNE/REPNZ (prefix), R231. -/
  | prefixRepne
  /-- REP/REPE/REPZ (prefix), R230. -/
  | prefixRep
  /-- HALT, R430. -/
  | halt
  /-- NOT1 CY, R454. -/
  | not1Cy
  /-- CLR1 CY, R452. -/
  | clr1Cy
  /-- SET1 CY, R453. -/
  | set1Cy
  /-- DI, R450. -/
  | di
  /-- EI, R451. -/
  | ei
  /-- CLR1 DIR, R455. -/
  | clr1Dir
  /-- SET1 DIR, R456. -/
  | set1Dir
  /-- ADD4S, R311. -/
  | add4s
  /-- SUB4S, R312. -/
  | sub4s
  /-- MOVSPA, R463. -/
  | movspa
  /-- CMP4S, R313. -/
  | cmp4s
  /-- RETRBI, R464. -/
  | retrbi
  /-- FINT, R465. -/
  | fint
  /-- STOP, R431. -/
  | stop
  deriving DecidableEq, Repr

end Sys2Proof
end

