-- ==== Sys2Proof/Machine/State.lean ====
section
/-! DEFINITION. The state of the machine as plain data, the reasons a step can stop, and the state right after reset. -/

namespace Sys2Proof.Machine

/-! ### Why a step stops -/

/-- The machine stops: the spec forbids the access and names no result (R114 to R118, R124, R130). Every one is safe: the
hardware goes on, the model proves nothing of that run. -/
inductive Fault where
  /-- A data access to external memory outside `MEMMAP` (R115, R116, R124). Raised by every data read or write. Safe. -/
  | unmappedData
  /-- A data access to the reserved external ranges FFF00H to FFFEFH, FFFFCH to FFFFEH (R114). Safe. -/
  | reservedData
  /-- A fetch from memory outside `MEMMAP` (R118). Raised by the fetch. Safe. -/
  | unmappedFetch
  /-- A fetch from FFF00H to FFFEFH or FFFFCH to FFFFFH (R118, R605). Raised by the fetch. Safe. -/
  | reservedFetch
  /-- An access to a port outside `IOMAP` (R130). Raised by IN, OUT, INM, OUTM. Safe. -/
  | unmappedPort
  /-- A byte access to a special function register whose only access unit is 16 bits (R117). Safe. -/
  | sfrAccessUnit
  deriving DecidableEq, Repr

/-- The spec gives the situation no meaning (`REFUSE`, R13) and no effect among its choices. Every one is safe. -/
inductive Refusal where
  /-- An instruction that has no meaning in the model yet. Raised by `exec`. Safe. -/
  | notModelled (mnemonic : String)
  /-- An undefined encoding (R168). Raised by the step when the decoder rejects the bytes. Safe. -/
  | undefinedEncoding
  /-- 0FH 9EH or 0FH BEH while `STOP_OPCODE` is not fixed (R431). Raised by the step. Safe. -/
  | stopEncodingUnknown
  /-- A second prefix of one class (R164). Raised by the prefixes. Safe. -/
  | repeatedPrefix
  /-- A repeat prefix in front of an instruction that is not a block instruction (R234). Raised by the step. Safe. -/
  | repeatOnNonBlock
  /-- REPC or REPNC in front of a block instruction that compares nothing (R232, R233). Raised by those. Safe. -/
  | repcOnNonCompare
  /-- A PSW image with bit 15 = 0 (R47). Raised by POP PSW, RETI, RETRBI. Safe. -/
  | psw15Zero
  /-- A bank switch to the current bank (R461, R462, R536). Raised by BRKCS, TSKSW and the acceptance of a request
  answered by bank switching. Safe. -/
  | switchToCurrentBank
  /-- A 32-bit operand whose second word would lie at an offset above FFFFH (R106). Raised by MOV DS0 and MOV DS1 from
  memory, BR and CALL through a far pointer in memory, CHKIND. Safe. -/
  | operandPastSegmentEnd
  deriving DecidableEq, Repr

/-- A stop inside a computation, of either kind. -/
inductive Stop where
  | fault (f : Fault)
  | refused (r : Refusal)
  deriving DecidableEq, Repr

/-! ### The parts of the state -/

/-- Memory as a list of cells, addresses strictly rising, no cell equal to 00H, which is what an unlisted address reads
as (log 4). -/
abbrev Memory := List Host.Cell

/-- What `MEMMAP` says of a range (R9, D5). -/
inductive RegionKind where
  | ram | rom
  deriving DecidableEq, Repr

/-- One range of `MEMMAP`, both ends included (R9). -/
structure Region where
  first : PhysAddr
  last : PhysAddr
  kind : RegionKind
  deriving DecidableEq, Repr

/-- One range of `IOMAP`, both ends included (R9). -/
structure PortRange where
  first : Word
  last : Word
  deriving DecidableEq, Repr

/-- The repeat prefixes (R230 to R233). -/
inductive Rep where
  | rep | repne | repc | repnc
  deriving DecidableEq, Repr

/-- The prefixes already taken of the instruction under way (R164). -/
structure Prefixes where
  /-- The segment override (R457). -/
  seg : Option SReg
  /-- The repeat prefix (R230 to R233). -/
  rep : Option Rep
  /-- BUSLOCK (R445). -/
  lock : Bool
  deriving DecidableEq, Repr

/-- The block instructions (R240 to R244, R255, R256). -/
inductive BlockOp where
  | movbkb | movbkw | cmpbkb | cmpbkw | cmpmb | cmpmw | ldmb | ldmw | stmb | stmw | inmb | inmw | outmb | outmw
  deriving DecidableEq, Repr

/-- An instruction that goes on with the next step without being fetched again: a repeated block instruction between two
iterations (R234), or POLL waiting for its pin (R449). -/
inductive Resume where
  | block (b : BlockOp)
  | poll
  deriving DecidableEq, Repr

/-- Whether the CPU executes instructions (R430, R431). -/
inductive RunState where
  | running | halted | stopped
  deriving DecidableEq, Repr

/-- A maskable request as the interrupt controller presents it, with its response mode (R516, R519). -/
inductive IrqRequest where
  | vectored (v : Byte)
  | bankSwitch (bank : BitVec 3)
  | macroService
  deriving DecidableEq, Repr

/-- What the CPU does to its environment, or asks of it (R76, R77, R130, R140, R465, R538, D5). -/
inductive Event where
  | ioRead (port : Word) (v : Byte)
  | ioWrite (port : Word) (v : Byte)
  | sfrRead (offset : Byte) (v : Byte)
  | sfrReadWord (offset : Byte) (v : Word)
  | sfrWrite (offset : Byte) (v : Byte)
  | sfrWriteWord (offset : Byte) (v : Word)
  /-- A write to a ROM address, which changes nothing (R116). -/
  | romWrite (a : PhysAddr) (v : Byte)
  /-- FINT (R465). -/
  | finishInterrupt
  /-- A request answered by macro service (R538). -/
  | macroService
  deriving DecidableEq, Repr

/-! ### The state -/

/-- The state of the CPU with its memory and the inputs of its environment (R16, R20 to R90, R100). -/
structure State where
  /-- The program counter (R40). While an instruction executes it is the offset after the instruction (R41). -/
  pc : Word
  /-- The model's own: how often PC has counted past FFFFH since it was last loaded (R44, log 18). -/
  pcHigh : BitVec 4
  /-- The program status word (R45 to R49); bits 5 and 3 are also FLAG bits 5 and 3 (R72). -/
  psw : Word
  /-- The internal data area base register (R71). -/
  idb : Byte
  /-- The model's own: the IDB value whose mapping is in force for the instruction under way (R120, log 39). -/
  area : Byte
  /-- The processor control register; bit 6 is RAMEN (R73). -/
  prc : Byte
  /-- The standby control register (R76). -/
  stbc : Byte
  /-- The on-chip RAM: the eight register banks (R20 to R23). Keys below 256. -/
  iram : Memory
  /-- The other special function registers, by SFR offset (R75, R77). Keys below 256. -/
  sfr : Memory
  /-- The external memory, on-chip ROM included (R115, R118). Keys below 2^20. -/
  ext : Memory
  /-- The prefetch queue where a program can see it: the old values of bytes stored inside the prefetch window since the
  queue was last cleared (R80, R141, log 19). -/
  queueOld : List Host.Cell
  /-- The model's own: the offset of the first byte, prefixes included, of the instruction under way (R234, R501). -/
  start : Word
  /-- The prefixes of the instruction under way (R164). -/
  pre : Prefixes
  /-- What the next step resumes instead of fetching (R234, R449). -/
  resume : Option Resume
  /-- `halted` and `stopped` (R430, R431). -/
  run : RunState
  /-- No interrupt is accepted before the next instruction has run (R517 b). -/
  hold : Bool
  /-- A single-step trap is due after the instruction just completed (R503). -/
  trace : Bool
  /-- The NMI request latch, an input (R507). -/
  nmi : Bool
  /-- The maskable request presented, an input (R516, R519). -/
  irq : Option IrqRequest
  /-- RESET asserted, an input (R600). -/
  resetPin : Bool
  /-- The model's own: the index of the next free value (log 8). -/
  draws : Nat
  /-- What went out to the environment, newest first (log 36). -/
  events : List Event
  /-- `MEMMAP` (R9); no instruction changes it. -/
  memmap : List Region
  /-- `IOMAP` (R9); no instruction changes it. -/
  iomap : List PortRange
  /-- `STOP_OPCODE` (R9, R431); no instruction changes it. -/
  stopOpcode : StopOpcode
  deriving DecidableEq, Repr

/-- No prefix pending. -/
def Prefixes.none : Prefixes := ⟨.none, .none, false⟩

/-- The machine right after a power-on reset (R601). Registers and cells the spec gives no value hold 00H (log 3); memory
and ports are all mapped (log 5, 6); STOP has the second byte of the opcode table (log 26); nothing is pending (D7, log 40). -/
def State.reset : State where
  pc := 0x0000
  pcHigh := 0
  psw := 0xF002
  idb := 0xFF
  area := 0xFF
  prc := 0x4E
  stbc := 0x00
  iram := [(0xEC, 0xFF), (0xED, 0xFF)]
  sfr := [(0x01, 0xFF), (0x09, 0xFF), (0x11, 0xFF), (0x4C, 0x47), (0x4D, 0x47), (0x4E, 0x47), (0x6B, 0x60),
    (0x6C, 0x47), (0x6D, 0x47), (0x6E, 0x47), (0x7B, 0x60), (0x7C, 0x47), (0x7D, 0x47), (0x7E, 0x47), (0x9C, 0x47),
    (0x9D, 0x47), (0x9E, 0x47), (0xAC, 0x47), (0xAD, 0x47), (0xE1, 0xFC), (0xE8, 0xFF), (0xE9, 0xFF), (0xEC, 0x47)]
  ext := []
  queueOld := []
  start := 0x0000
  pre := Prefixes.none
  resume := none
  run := .running
  hold := false
  trace := false
  nmi := false
  irq := none
  resetPin := false
  draws := 0
  events := []
  memmap := [⟨0x00000, 0xFFFFF, .ram⟩]
  iomap := [⟨0x0000, 0xFFFF⟩]
  stopOpcode := .byte9E

end Sys2Proof.Machine
end

