-- ==== Sys2Proof/Machine/Flags.lean ====
section
/-! DEFINITION. The fields of the PSW and every flag computation of the spec (R45 to R70), as pure functions of the
operands and the result. A flag computation yields a word in the layout of the PSW and the mask of the bits it writes. -/

namespace Sys2Proof.Machine

/-! ### The fields of the PSW (R46) -/

/-- The one-bit flags of the PSW. -/
inductive Flag where
  | cy | ibrk | p | f0 | ac | f1 | z | s | brk | ie | dir | v
  deriving DecidableEq, Repr

/-- The bit of a flag (R46). -/
def Flag.bit : Flag → Nat
  | .cy => 0 | .ibrk => 1 | .p => 2 | .f0 => 3 | .ac => 4 | .f1 => 5 | .z => 6 | .s => 7 | .brk => 8 | .ie => 9
  | .dir => 10 | .v => 11

/-- A flag of a PSW value. -/
def flagOf (psw : Word) (f : Flag) : Bool := psw.getLsbD f.bit

/-- One bit set to a value. -/
def putBit {w : Nat} (x : BitVec w) (i : Nat) (b : Bool) : BitVec w :=
  if b then x ||| (1#w <<< i) else x &&& ~~~(1#w <<< i)

/-- A PSW value with one flag changed. -/
def withFlag (psw : Word) (f : Flag) (b : Bool) : Word := putBit psw f.bit b

/-- The bank field RB2 to RB0 (R46). -/
def bankOf (psw : Word) : BitVec 3 := psw.extractLsb' 12 3

/-- A PSW value with another bank field. -/
def withBank (psw : Word) (n : BitVec 3) : Word := psw.extractLsb' 15 1 ++ n ++ psw.extractLsb' 0 12

/-- The bits of `new` inside the mask, those of `old` outside it. -/
def merge {w : Nat} (old mask new : BitVec w) : BitVec w := (old &&& ~~~mask) ||| (new &&& mask)

/-- The six status flags in the layout of the PSW. -/
def statusWord (cy p ac z s v : Bool) : Word :=
  putBit (putBit (putBit (putBit (putBit (putBit 0 0 cy) 2 p) 4 ac) 6 z) 7 s) 11 v

/-! ### Masks, in the layout of the PSW -/

/-- CY, P, AC, Z, S, V. -/
def maskStatus : Word := 0x08D5

/-- The status flags but CY (increment and decrement, R50). -/
def maskStatusNoCy : Word := 0x08D4

/-- AC alone. -/
def maskAc : Word := 0x0010

/-- P, AC, Z, S (undefined after a multiplication, R55 to R58). -/
def maskMulUndefined : Word := 0x00D4

/-- CY, P, AC, Z, S (undefined after a division, R53, R55 to R58). -/
def maskDivUndefined : Word := 0x00D5

/-! ### Laws on results (R55, R57, R58) -/

/-- `parity8` of R11: true if the low-order eight bits hold an even number of 1 bits. -/
def parity8 {w : Nat} (r : BitVec w) : Bool :=
  !(r.getLsbD 0 ^^ r.getLsbD 1 ^^ r.getLsbD 2 ^^ r.getLsbD 3 ^^ r.getLsbD 4 ^^ r.getLsbD 5 ^^ r.getLsbD 6 ^^ r.getLsbD 7)

/-- The bit below the most significant one. -/
def secondMsb {w : Nat} (r : BitVec w) : Bool := r.getLsbD (w - 2)

/-! ### Binary addition and subtraction (R50, R55 to R59, R70) -/

/-- The sum of R70. -/
def addResult {w : Nat} (a b : BitVec w) (c : Bool) : BitVec w := a + b + (BitVec.ofBool c).setWidth w

/-- `AddFlags` of R70. -/
def addStatus {w : Nat} (a b : BitVec w) (c : Bool) : Word :=
  let r := addResult a b c
  statusWord (decide (2 ^ w ≤ a.toNat + b.toNat + c.toNat)) (parity8 r)
    (decide (16 ≤ a.toNat % 16 + b.toNat % 16 + c.toNat)) (r == 0) r.msb ((a ^^^ r) &&& (b ^^^ r)).msb

/-- The difference of R70. -/
def subResult {w : Nat} (a b : BitVec w) (c : Bool) : BitVec w := a - b - (BitVec.ofBool c).setWidth w

/-- `SubFlags` of R70. -/
def subStatus {w : Nat} (a b : BitVec w) (c : Bool) : Word :=
  let r := subResult a b c
  statusWord (decide (a.toNat < b.toNat + c.toNat)) (parity8 r)
    (decide (a.toNat % 16 < b.toNat % 16 + c.toNat)) (r == 0) r.msb ((a ^^^ b) &&& (a ^^^ r)).msb

/-- `LogicFlags` of R70: CY and V reset, AC undefined, its value the free word's. -/
def logicStatus {w : Nat} (r : BitVec w) (free : Word) : Word :=
  statusWord false (parity8 r) (flagOf free .ac) (r == 0) r.msb false

/-! ### Multiplication and division (R52, R53, R61, R62) -/

/-- CY = V = `overflow`; P, AC, Z, S undefined, their values the free word's. -/
def mulStatus (overflow : Bool) (free : Word) : Word :=
  merge (statusWord overflow false false false false overflow) maskMulUndefined free

/-- V reset; CY, P, AC, Z, S undefined, their values the free word's. -/
def divStatus (free : Word) : Word := merge 0 maskDivUndefined free

/-! ### Shift and rotate (R54, R55, R57, R58, R63, R345) -/

/-- V after a one-bit left operation: CY differs from the most significant bit, both after it (R63). -/
def leftV {w : Nat} (r : BitVec w) (cy : Bool) : Bool := cy ^^ r.msb

/-- V after a one-bit right operation: the two most significant bits differ (R63). -/
def rightV {w : Nat} (r : BitVec w) : Bool := r.msb ^^ secondMsb r

/-- Flags of a shift by `c ≥ 1` (R341 to R343): V undefined when `c > 1`, AC always. -/
def shiftStatus {w : Nat} (r : BitVec w) (cy v1 : Bool) (c : Nat) (free : Word) : Word :=
  statusWord cy (parity8 r) (flagOf free .ac) (r == 0) r.msb (if c = 1 then v1 else flagOf free .v)

/-- The flags a rotate writes: all but P (R345). -/
def maskRotate : Word := 0x08D1

/-- Flags of a rotate by `c ≥ 1` (R345): V undefined when `c > 1`; AC, Z, S always (log 51). -/
def rotateStatus (cy v1 : Bool) (c : Nat) (free : Word) : Word :=
  statusWord cy false (flagOf free .ac) (flagOf free .z) (flagOf free .s) (if c = 1 then v1 else flagOf free .v)

/-! ### Decimal and bit instructions (R301 to R306, R310, R330) -/

/-- ADJ4A, ADJ4S: V undefined (R301, R302). -/
def packedStatus (al : Byte) (cy ac : Bool) (free : Word) : Word :=
  statusWord cy (parity8 al) ac (al == 0) al.msb (flagOf free .v)

/-- ADJBA, ADJBS: V, S, Z, P undefined (R303, R304). -/
def unpackedStatus (carry : Bool) (free : Word) : Word :=
  statusWord carry (flagOf free .p) carry (flagOf free .z) (flagOf free .s) (flagOf free .v)

/-- CVTBD, CVTDB: CY, AC, V undefined (R305, R306). -/
def convertStatus (al : Byte) (free : Word) : Word :=
  statusWord (flagOf free .cy) (parity8 al) (flagOf free .ac) (al == 0) al.msb (flagOf free .v)

/-- ADD4S, SUB4S, CMP4S: AC, V, S, P undefined (R310). -/
def bcdStringStatus (cy z : Bool) (free : Word) : Word :=
  statusWord cy (flagOf free .p) (flagOf free .ac) z (flagOf free .s) (flagOf free .v)

/-- TEST1: CY and V reset; S, AC, P undefined (R330). -/
def testBitStatus (z : Bool) (free : Word) : Word :=
  statusWord false (flagOf free .p) (flagOf free .ac) z (flagOf free .s) false

/-! ### The PSW image (R47) -/

/-- Bit 15 of a PSW image (R47). -/
def bit15 (image : Word) : Bool := image.getLsbD 15

/-- POP PSW loads bits 11 to 0 and keeps the bank field and bit 15 (R409). -/
def popImage (psw image : Word) : Word := psw.extractLsb' 12 4 ++ image.extractLsb' 0 12

end Sys2Proof.Machine
end

