-- ==== Sys2Proof/Machine/Memory.lean ====
section
/-! DEFINITION. Reading and writing one byte of a `Memory`, and its canonical form. -/

namespace Sys2Proof.Machine

/-- What an address that is not listed reads as (DESIGN CHOICE, unsafe: log 3, 4). -/
def Memory.unlisted : Byte := 0x00

/-- The byte at an address. -/
def Memory.read : Memory → Nat → Byte
  | [], _ => Memory.unlisted
  | (k, v) :: rest, a => if k = a then v else Memory.read rest a

/-- The memory without the cells of one address. -/
def Memory.erase : Memory → Nat → Memory
  | [], _ => []
  | (k, v) :: rest, a => if k = a then Memory.erase rest a else (k, v) :: Memory.erase rest a

/-- A cell put in front of the first cell of a higher address. -/
def Memory.insert : Memory → Nat → Byte → Memory
  | [], a, v => [(a, v)]
  | (k, w) :: rest, a, v => if a < k then (a, v) :: (k, w) :: rest else (k, w) :: Memory.insert rest a v

/-- One byte written. Writing what an unlisted address reads as removes the cell, so that equal memories are equal
data. -/
def Memory.write (m : Memory) (a : Nat) (v : Byte) : Memory :=
  if v = Memory.unlisted then m.erase a else Memory.insert (m.erase a) a v

/-- Addresses rise strictly from `low` on and stay below `bound`, and no cell holds the unlisted value. -/
def Memory.risesFrom (bound : Nat) : Nat → Memory → Bool
  | _, [] => true
  | low, (k, v) :: rest =>
    decide (low ≤ k) && decide (k < bound) && v != Memory.unlisted && Memory.risesFrom bound (k + 1) rest

/-- The canonical form of a memory whose addresses lie below `bound`. -/
def Memory.wf (bound : Nat) (m : Memory) : Bool := Memory.risesFrom bound 0 m

end Sys2Proof.Machine
end

