-- ==== Sys2Proof/Machine/Sfr.lean ====
section
/-! DEFINITION. The special function register list of R75, Table 3-4: access rights, access units, and what reset leaves.
IDB, PRC, STBC and FLAG have homes of their own in `State`; the rest are cells of `State.sfr`. -/

namespace Sys2Proof.Machine

/-- The R/W column (R74). -/
inductive SfrAccess where
  | readWrite | readOnly | writeOnly
  deriving DecidableEq, Repr

/-- The access units column: 8 and perhaps 1, or 16 alone, or 16 and 8 (R75). -/
inductive SfrUnit where
  | byte | word | both
  deriving DecidableEq, Repr

/-- A row of the list: offset in the area, rights, units, the low byte after reset (00H where the column says Undefined,
log 3). -/
structure SfrRow where
  offset : Nat
  access : SfrAccess
  unit : SfrUnit
  reset : Byte
  deriving DecidableEq, Repr

/-- Ports, external interrupts and serial interface (R75). -/
def sfrPortsAndSerial : List SfrRow := [
  ⟨0x00, .readWrite, .byte, 0x00⟩,  -- P0
  ⟨0x01, .writeOnly, .byte, 0xFF⟩,  -- PM0
  ⟨0x02, .writeOnly, .byte, 0x00⟩,  -- PMC0
  ⟨0x08, .readWrite, .byte, 0x00⟩,  -- P1
  ⟨0x09, .writeOnly, .byte, 0xFF⟩,  -- PM1
  ⟨0x0A, .writeOnly, .byte, 0x00⟩,  -- PMC1
  ⟨0x10, .readWrite, .byte, 0x00⟩,  -- P2
  ⟨0x11, .writeOnly, .byte, 0xFF⟩,  -- PM2
  ⟨0x12, .writeOnly, .byte, 0x00⟩,  -- PMC2
  ⟨0x38, .readOnly, .byte, 0x00⟩,   -- PT
  ⟨0x3B, .readWrite, .byte, 0x00⟩,  -- PMT
  ⟨0x40, .readWrite, .byte, 0x00⟩,  -- INTM
  ⟨0x44, .readWrite, .byte, 0x00⟩,  -- EMS0
  ⟨0x45, .readWrite, .byte, 0x00⟩,  -- EMS1
  ⟨0x46, .readWrite, .byte, 0x00⟩,  -- EMS2
  ⟨0x4C, .readWrite, .byte, 0x47⟩,  -- EXIC0
  ⟨0x4D, .readWrite, .byte, 0x47⟩,  -- EXIC1
  ⟨0x4E, .readWrite, .byte, 0x47⟩,  -- EXIC2
  ⟨0x60, .readOnly, .byte, 0x00⟩,   -- RxB0
  ⟨0x62, .writeOnly, .byte, 0x00⟩,  -- TxB0
  ⟨0x65, .readWrite, .byte, 0x00⟩,  -- SRMS0
  ⟨0x66, .readWrite, .byte, 0x00⟩,  -- STMS0
  ⟨0x68, .readWrite, .byte, 0x00⟩,  -- SCM0
  ⟨0x69, .readWrite, .byte, 0x00⟩,  -- SCC0
  ⟨0x6A, .readWrite, .byte, 0x00⟩,  -- BRG0
  ⟨0x6B, .readOnly, .byte, 0x60⟩,   -- SCS0
  ⟨0x6C, .readWrite, .byte, 0x47⟩,  -- SEIC0
  ⟨0x6D, .readWrite, .byte, 0x47⟩,  -- SRIC0
  ⟨0x6E, .readWrite, .byte, 0x47⟩,  -- STIC0
  ⟨0x70, .readOnly, .byte, 0x00⟩,   -- RxB1
  ⟨0x72, .writeOnly, .byte, 0x00⟩,  -- TxB1
  ⟨0x75, .readWrite, .byte, 0x00⟩,  -- SRMS1
  ⟨0x76, .readWrite, .byte, 0x00⟩,  -- STMS1
  ⟨0x78, .readWrite, .byte, 0x00⟩,  -- SCM1
  ⟨0x79, .readWrite, .byte, 0x00⟩,  -- SCC1
  ⟨0x7A, .readWrite, .byte, 0x00⟩,  -- BRG1
  ⟨0x7B, .readOnly, .byte, 0x60⟩,   -- SCS1
  ⟨0x7C, .readWrite, .byte, 0x47⟩,  -- SEIC1
  ⟨0x7D, .readWrite, .byte, 0x47⟩,  -- SRIC1
  ⟨0x7E, .readWrite, .byte, 0x47⟩]  -- STIC1

/-- Timers and DMA (R75). -/
def sfrTimersAndDma : List SfrRow := [
  ⟨0x80, .readWrite, .word, 0x00⟩,  -- TM0
  ⟨0x82, .readWrite, .word, 0x00⟩,  -- MD0
  ⟨0x88, .readWrite, .word, 0x00⟩,  -- TM1
  ⟨0x8A, .readWrite, .word, 0x00⟩,  -- MD1
  ⟨0x90, .readWrite, .byte, 0x00⟩,  -- TMC0
  ⟨0x91, .readWrite, .byte, 0x00⟩,  -- TMC1
  ⟨0x94, .readWrite, .byte, 0x00⟩,  -- TMMS0
  ⟨0x95, .readWrite, .byte, 0x00⟩,  -- TMMS1
  ⟨0x96, .readWrite, .byte, 0x00⟩,  -- TMMS2
  ⟨0x9C, .readWrite, .byte, 0x47⟩,  -- TMIC0
  ⟨0x9D, .readWrite, .byte, 0x47⟩,  -- TMIC1
  ⟨0x9E, .readWrite, .byte, 0x47⟩,  -- TMIC2
  ⟨0xA0, .readWrite, .byte, 0x00⟩,  -- DMAC0
  ⟨0xA1, .readWrite, .byte, 0x00⟩,  -- DMAM0
  ⟨0xA2, .readWrite, .byte, 0x00⟩,  -- DMAC1
  ⟨0xA3, .readWrite, .byte, 0x00⟩,  -- DMAM1
  ⟨0xAC, .readWrite, .byte, 0x47⟩,  -- DIC0
  ⟨0xAD, .readWrite, .byte, 0x47⟩,  -- DIC1
  ⟨0xC0, .readWrite, .both, 0x00⟩,  -- SAR0L
  ⟨0xC1, .readWrite, .both, 0x00⟩,  -- SAR0M
  ⟨0xC2, .readWrite, .byte, 0x00⟩,  -- SAR0H
  ⟨0xC4, .readWrite, .both, 0x00⟩,  -- DAR0L
  ⟨0xC5, .readWrite, .both, 0x00⟩,  -- DAR0M
  ⟨0xC6, .readWrite, .byte, 0x00⟩,  -- DAR0H
  ⟨0xC8, .readWrite, .both, 0x00⟩,  -- TC0L
  ⟨0xC9, .readWrite, .both, 0x00⟩,  -- TC0H
  ⟨0xD0, .readWrite, .both, 0x00⟩,  -- SAR1L
  ⟨0xD1, .readWrite, .both, 0x00⟩,  -- SAR1M
  ⟨0xD2, .readWrite, .byte, 0x00⟩,  -- SAR1H
  ⟨0xD4, .readWrite, .both, 0x00⟩,  -- DAR1L
  ⟨0xD5, .readWrite, .both, 0x00⟩,  -- DAR1M
  ⟨0xD6, .readWrite, .byte, 0x00⟩,  -- DAR1H
  ⟨0xD8, .readWrite, .both, 0x00⟩,  -- TC1L
  ⟨0xD9, .readWrite, .both, 0x00⟩]  -- TC1H

/-- Control registers (R75). ISPR at FCH is a register whatever IDB holds, also where R114 calls FFFFCH reserved (DESIGN
CHOICE, log 58). -/
def sfrControl : List SfrRow := [
  ⟨0xE0, .readWrite, .byte, 0x00⟩,  -- STBC
  ⟨0xE1, .readWrite, .byte, 0xFC⟩,  -- RFM
  ⟨0xE8, .readWrite, .both, 0xFF⟩,  -- WTC
  ⟨0xEA, .readWrite, .byte, 0x00⟩,  -- FLAG
  ⟨0xEB, .readWrite, .byte, 0x4E⟩,  -- PRC
  ⟨0xEC, .readWrite, .byte, 0x47⟩,  -- TBIC
  ⟨0xEF, .readOnly, .byte, 0x00⟩,   -- IRQS
  ⟨0xFC, .readOnly, .byte, 0x00⟩,   -- ISPR
  ⟨0xFF, .readWrite, .byte, 0xFF⟩]  -- IDB

/-- The whole list (R75). -/
def sfrTable : List SfrRow := sfrPortsAndSerial ++ sfrTimersAndDma ++ sfrControl

/-- The row of an offset. -/
def sfrRow (o : Byte) : Option SfrRow := sfrTable.find? fun r => r.offset == o.toNat

/-- `Sfr16(o)` of R117: a word access that starts at this offset is one 16-bit access. -/
def sfr16 (o : Byte) : Bool :=
  match sfrRow o with
  | some r => r.unit != .byte
  | none => false

/-- How a byte access reaches an offset (R117): a register, the second byte of a 16-bit register, a place reachable by
words only, or a reserved address. -/
inductive SfrByteKind where
  | register (access : SfrAccess)
  | wordOnly
  | reserved
  deriving DecidableEq, Repr

/-- E9H, the high-order byte of WTC: the one second byte of a 16/8 register that the list does not name by itself (R75). -/
def sfrWtcHigh : Byte := 0xE9

/-- What a byte access at an offset meets (R117). E9H is read and written as WTC is. CAH and DAH are in no row, so they are
reserved for bytes (R74), though a word access at C9H or D9H reaches over them (DEDUCED, log 56). -/
def sfrByteKind (o : Byte) : SfrByteKind :=
  match sfrRow o with
  | some r => if r.unit = .word then .wordOnly else .register r.access
  | none =>
    match sfrRow (o - 1) with
    | some r =>
      if r.unit = .word then .wordOnly else if o = sfrWtcHigh then .register r.access else .reserved
    | none => .reserved

end Sys2Proof.Machine
end

