-- ==== Sys2Proof/Machine/Ops.lean ====
section
/-! DEFINITION. The named operations every meaning is written with: updates of the state, free values, registers, data
access, the special function registers, I/O, the stack, taking an exception and returning from one. -/

namespace Sys2Proof.Machine

/-! ### Computations that may stop -/

/-- A computation over the state that may stop with a fault or a refusal. -/
abbrev M := StateT State (Except Stop)

/-- The outcome of a computation as the host's interface has it. -/
def act (x : M Unit) (s : State) : Host.Outcome State Fault Refusal :=
  match x s with
  | .ok (_, t) => .next t
  | .error (.fault f) => .fault f
  | .error (.refused r) => .refused r

/-- A value read from the state. -/
def reads {α : Type} (f : State → α) : M α := fun s => .ok (f s, s)

/-- A change of the state. -/
def update (f : State → State) : M Unit := fun s => .ok ((), f s)

/-- The machine stops with a fault. -/
def faults {α : Type} (f : Fault) : M α := fun _ => .error (.fault f)

/-- The model gives the situation no meaning. -/
def refuses {α : Type} (r : Refusal) : M α := fun _ => .error (.refused r)

/-! ### Updates of the state -/

def State.withPsw (s : State) (v : Word) : State := { s with psw := v }
def State.withIdb (s : State) (v : Byte) : State := { s with idb := v }
def State.withPrc (s : State) (v : Byte) : State := { s with prc := v }
def State.withStbc (s : State) (v : Byte) : State := { s with stbc := v }
def State.withIram (s : State) (m : Memory) : State := { s with iram := m }
def State.withSfr (s : State) (m : Memory) : State := { s with sfr := m }
def State.withExt (s : State) (m : Memory) : State := { s with ext := m }
def State.withQueueOld (s : State) (q : List Host.Cell) : State := { s with queueOld := q }
def State.withPre (s : State) (p : Prefixes) : State := { s with pre := p }
def State.withResume (s : State) (r : Option Resume) : State := { s with resume := r }
def State.withRun (s : State) (r : RunState) : State := { s with run := r }
def State.withHold (s : State) (b : Bool) : State := { s with hold := b }
def State.withTrace (s : State) (b : Bool) : State := { s with trace := b }
def State.withDraws (s : State) (n : Nat) : State := { s with draws := n }

/-- An event goes out to the environment. -/
def State.record (s : State) (e : Event) : State := { s with events := e :: s.events }

/-- `pc <- target` (R42): PC is loaded and the prefetch queue emptied (R81). -/
def State.loadPc (s : State) (target : Word) : State := { s with pc := target, pcHigh := 0, queueOld := [] }

/-- One flag of the PSW. -/
def State.flag (s : State) (f : Flag) : Bool := flagOf s.psw f

/-- One flag of the PSW changed. -/
def State.setFlag (s : State) (f : Flag) (b : Bool) : State := s.withPsw (withFlag s.psw f b)

/-- The flags inside the mask take their values from `status`; the others keep theirs (R70). -/
def State.setStatus (s : State) (mask status : Word) : State := s.withPsw (merge s.psw mask status)

/-- The current register bank (R24). -/
def State.bank (s : State) : BitVec 3 := bankOf s.psw

/-- MOV sreg, POP sreg and EI: no interrupt is accepted and no single-step trap taken before the next instruction has run
(R503, R517 b). -/
def State.protectBoundary (s : State) : State := (s.withHold true).withTrace false

/-! ### Free values -/

/-- `UNDEF` of R13: a value no rule fixes, another at every use (log 8). -/
def draw : M Word := fun s => .ok (Config.freeWord s.draws, s.withDraws (s.draws + 1))

/-- A free byte. -/
def drawByte : M Byte := do
  let w ← draw
  pure (w.extractLsb' 0 8)

/-! ### Registers: the bytes of the register banks (R21 to R25) -/

/-- The on-chip RAM offset of a byte of a bank (R21, R22). -/
def bankKey (b : BitVec 3) (off : Nat) : Nat := 32 * b.toNat + off

/-- `Bank(b, off)` (R22). -/
def State.bankByte (s : State) (b : BitVec 3) (off : Nat) : Byte := s.iram.read (bankKey b off)

/-- The word at an offset of a bank, low byte first (R22). -/
def State.bankWord (s : State) (b : BitVec 3) (off : Nat) : Word := s.bankByte b (off + 1) ++ s.bankByte b off

/-- A byte of a bank written. -/
def State.setBankByte (s : State) (b : BitVec 3) (off : Nat) (v : Byte) : State :=
  s.withIram (s.iram.write (bankKey b off) v)

/-- A word of a bank written. -/
def State.setBankWord (s : State) (b : BitVec 3) (off : Nat) (v : Word) : State :=
  s.withIram ((s.iram.write (bankKey b off) (v.extractLsb' 0 8)).write (bankKey b (off + 1)) (v.extractLsb' 8 8))

/-- Vector PC, PSW save and PC save of a bank (R22). -/
def offVectorPc : Nat := 0x02
def offPswSave : Nat := 0x04
def offPcSave : Nat := 0x06

/-- The offset of a 16-bit register in its bank (R22, R27, R29). -/
def offReg16 : Reg16 → Nat
  | .aw => 0x1E | .cw => 0x1C | .dw => 0x1A | .bw => 0x18 | .sp => 0x16 | .bp => 0x14 | .ix => 0x12 | .iy => 0x10

/-- The offset of an 8-bit register in its bank (R22, R27). -/
def offReg8 : Reg8 → Nat
  | .al => 0x1E | .cl => 0x1C | .dl => 0x1A | .bl => 0x18 | .ah => 0x1F | .ch => 0x1D | .dh => 0x1B | .bh => 0x19

/-- The offset of a segment register in its bank (R22, R30). -/
def offSReg : SReg → Nat
  | .ds1 => 0x0E | .ps => 0x0C | .ss => 0x0A | .ds0 => 0x08

/-- The registers of the current bank (R23). -/
def State.reg16 (s : State) (r : Reg16) : Word := s.bankWord s.bank (offReg16 r)
def State.reg8 (s : State) (r : Reg8) : Byte := s.bankByte s.bank (offReg8 r)
def State.sreg (s : State) (r : SReg) : Word := s.bankWord s.bank (offSReg r)

/-- A register of the current bank written (R23). -/
def State.setReg16 (s : State) (r : Reg16) (v : Word) : State := s.setBankWord s.bank (offReg16 r) v
def State.setReg8 (s : State) (r : Reg8) (v : Byte) : State := s.setBankByte s.bank (offReg8 r) v
def State.setSreg (s : State) (r : SReg) (v : Word) : State := s.setBankWord s.bank (offSReg r) v

/-! ### Addresses -/

/-- `Phys(seg, off)` (R103, R105). -/
def phys (seg off : Word) : PhysAddr := (seg.setWidth 20 <<< 4) + off.setWidth 20

/-- The physical address of the byte `k` places ahead of PC in the instruction stream. Past offset FFFFH it is the next
physical address or offset 0000H of the segment, which the spec leaves open (R44, log 18). -/
def State.fetchAddr (s : State) (k : Nat) : PhysAddr :=
  let off := s.pc.toNat + k
  if (s.pcHigh = 0 ∧ off < 0x10000) ∨ Config.fetchCrossesSegmentEnd = false then
    phys (s.sreg .ps) (BitVec.ofNat 16 off)
  else
    (s.sreg .ps).setWidth 20 * 16 + BitVec.ofNat 20 (0x10000 * s.pcHigh.toNat + off)

/-- What `MEMMAP` says of an address (R9, R124). -/
def State.kindAt (s : State) (a : PhysAddr) : Option RegionKind :=
  (s.memmap.find? fun r => decide (r.first ≤ a) && decide (a ≤ r.last)).map Region.kind

/-- Whether a port is in `IOMAP` (R130). -/
def State.portMapped (s : State) (port : Word) : Bool :=
  s.iomap.any fun r => decide (r.first ≤ port) && decide (port ≤ r.last)

/-- The reserved external ranges, for a data access (R114, R123). -/
def reservedData (a : PhysAddr) : Bool :=
  (decide (0xFFF00#20 ≤ a) && decide (a ≤ 0xFFFEF#20)) || (decide (0xFFFFC#20 ≤ a) && decide (a ≤ 0xFFFFE#20))

/-- The reserved ranges for a fetch: the same and FFFFFH (R118). -/
def reservedFetch (a : PhysAddr) : Bool :=
  (decide (0xFFF00#20 ≤ a) && decide (a ≤ 0xFFFEF#20)) || decide (0xFFFFC#20 ≤ a)

/-- RAMEN, bit 6 of PRC (R73). -/
def State.ramen (s : State) : Bool := s.prc.getLsbD 6

/-- `InIRAM(a)` (R110), by the mapping in force (R120). -/
def State.inIram (s : State) (a : PhysAddr) : Bool := a.extractLsb' 12 8 == s.area && a.extractLsb' 8 4 == 0xE#4

/-- `InSFR(a)` (R110), by the mapping in force (R120). -/
def State.inSfr (s : State) (a : PhysAddr) : Bool := a.extractLsb' 12 8 == s.area && a.extractLsb' 8 4 == 0xF#4

/-- What a data access meets. -/
inductive Target where
  | idbReg
  | sfr (offset : Byte)
  | iram (offset : Byte)
  | ext
  deriving DecidableEq, Repr

/-- `Target(a)` (R113). -/
def State.target (s : State) (a : PhysAddr) : Target :=
  if a = 0xFFFFF#20 then .idbReg
  else if s.inSfr a then .sfr (a.extractLsb' 0 8)
  else if s.inIram a && s.ramen then .iram (a.extractLsb' 0 8)
  else .ext

/-! ### Special function registers (R71 to R77, R117) -/

/-- Offsets of the registers with rules of their own. -/
def sfrStbc : Byte := 0xE0
def sfrFlag : Byte := 0xEA
def sfrPrc : Byte := 0xEB
def sfrIdb : Byte := 0xFF

/-- The function bits of FLAG, F1 and F0 (R72). -/
def maskFlag : Byte := 0x28

/-- A byte read of a peripheral's register: the value is the environment's, and the register now holds it (R77, log 36). -/
def readPeripheral (o : Byte) : M Byte := do
  let v ← drawByte
  update fun s => (s.withSfr (s.sfr.write o.toNat v)).record (.sfrRead o v)
  pure v

/-- `SfrRead(o, 8)` (R117). A read of STBC gives what the environment chooses, like every register but FLAG, PRC and IDB
(R77, log 37). -/
def readSfr (o : Byte) : M Byte := do
  if o = sfrIdb then
    reads State.idb
  else if o = sfrPrc then
    reads State.prc
  else if o = sfrFlag then
    let free ← drawByte
    reads fun s => merge free maskFlag (s.psw.extractLsb' 0 8)
  else if o = sfrStbc then
    let v ← drawByte
    update fun s => s.record (.sfrRead o v)
    pure v
  else
    match sfrByteKind o with
    | .wordOnly => faults .sfrAccessUnit
    | .reserved => drawByte
    | .register .writeOnly => drawByte
    | .register _ => readPeripheral o

/-- `SfrRead(o, 16)` (R117): every 16-bit register is a peripheral's and may be read and written (R75). -/
def readSfrWord (o : Byte) : M Word := do
  let v ← draw
  update fun s => (s.withSfr ((s.sfr.write o.toNat (v.extractLsb' 0 8)).write (o + 1).toNat (v.extractLsb' 8 8))).record
    (.sfrReadWord o v)
  pure v

/-- A byte write of a peripheral's register, recorded for the environment (R77). -/
def writePeripheral (o : Byte) (v : Byte) : M Unit :=
  update fun s => (s.withSfr (s.sfr.write o.toNat v)).record (.sfrWrite o v)

/-- `SfrWrite(o, 8, v)` (R117). A write of STBC can set bits and never clear one (R76). -/
def writeSfr (o : Byte) (v : Byte) : M Unit := do
  if o = sfrIdb then
    update fun s => s.withIdb v
  else if o = sfrPrc then
    update fun s => s.withPrc v
  else if o = sfrFlag then
    update fun s => s.setStatus (maskFlag.setWidth 16) (v.setWidth 16)
  else if o = sfrStbc then
    update fun s => (s.withStbc (s.stbc ||| v)).record (.sfrWrite o v)
  else
    match sfrByteKind o with
    | .wordOnly => faults .sfrAccessUnit
    | .reserved => pure ()
    | .register .readOnly => pure ()
    | .register _ => writePeripheral o v

/-- `SfrWrite(o, 16, v)` (R117). -/
def writeSfrWord (o : Byte) (v : Word) : M Unit :=
  update fun s => (s.withSfr ((s.sfr.write o.toNat (v.extractLsb' 0 8)).write (o + 1).toNat (v.extractLsb' 8 8))).record
    (.sfrWriteWord o v)

/-! ### Data access (R106, R113 to R117) -/

/-- How many bytes the prefetch queue holds (R80). -/
def queueBytes : Nat := 6

/-- Whether an address lies in the six bytes after the instruction under way (R141). -/
def State.inPrefetchWindow (s : State) (a : PhysAddr) : Bool :=
  (List.range queueBytes).any fun k => s.fetchAddr k == a

/-- A byte stored in external memory. Inside the prefetch window the queue may hold the old byte (R141, log 19). -/
def State.storeExt (s : State) (a : PhysAddr) (v : Byte) : State :=
  let old := s.ext.read a.toNat
  let queue := if old ≠ v ∧ s.inPrefetchWindow a then (a.toNat, old) :: s.queueOld else s.queueOld
  (s.withExt (s.ext.write a.toNat v)).withQueueOld queue

/-- A data read of external memory (R114, R115). -/
def readExt (a : PhysAddr) : M Byte := fun s =>
  if reservedData a then .error (.fault .reservedData)
  else
    match s.kindAt a with
    | none => .error (.fault .unmappedData)
    | some _ => .ok (s.ext.read a.toNat, s)

/-- A data write of external memory (R114, R116): a write to ROM changes nothing and is recorded (D5, log 52). -/
def writeExt (a : PhysAddr) (v : Byte) : M Unit := fun s =>
  if reservedData a then .error (.fault .reservedData)
  else
    match s.kindAt a with
    | none => .error (.fault .unmappedData)
    | some .rom => .ok ((), s.record (.romWrite a v))
    | some .ram => .ok ((), s.storeExt a v)

/-- `MemRead(a, 1)` (R115). -/
def readByte (a : PhysAddr) : M Byte := do
  match ← reads fun s => s.target a with
  | .idbReg => reads State.idb
  | .sfr o => readSfr o
  | .iram o => reads fun s => s.iram.read o.toNat
  | .ext => readExt a

/-- `MemWrite(a, 1, v)` (R116). -/
def writeByte (a : PhysAddr) (v : Byte) : M Unit := do
  match ← reads fun s => s.target a with
  | .idbReg => update fun s => s.withIdb v
  | .sfr o => writeSfr o v
  | .iram o => update fun s => s.withIram (s.iram.write o.toNat v)
  | .ext => writeExt a v

/-- Whether a word access at this address is one access of a 16-bit SFR (R115, R117). -/
def State.isSfrWord (s : State) (a : PhysAddr) : Bool := s.inSfr a && sfr16 (a.extractLsb' 0 8)

/-- `MemRead(a, 2)` (R115): two byte accesses, low byte first, the second at the next physical address (R106). -/
def readWord (a : PhysAddr) : M Word := do
  if ← reads fun s => s.isSfrWord a then
    readSfrWord (a.extractLsb' 0 8)
  else
    let lo ← readByte a
    let hi ← readByte (a + 1)
    pure (hi ++ lo)

/-- `MemWrite(a, 2, v)` (R116). -/
def writeWord (a : PhysAddr) (v : Word) : M Unit := do
  if ← reads fun s => s.isSfrWord a then
    writeSfrWord (a.extractLsb' 0 8) v
  else
    writeByte a (v.extractLsb' 0 8)
    writeByte (a + 1) (v.extractLsb' 8 8)

/-- `ReadB(seg, off)` and `WriteB(seg, off, v)` (R106). -/
def readB (seg off : Word) : M Byte := readByte (phys seg off)
def writeB (seg off : Word) (v : Byte) : M Unit := writeByte (phys seg off) v

/-- `ReadW(seg, off)` and `WriteW(seg, off, v)` (R106). -/
def readW (seg off : Word) : M Word := readWord (phys seg off)
def writeW (seg off : Word) (v : Word) : M Unit := writeWord (phys seg off) v

/-- A 32-bit operand: two word references at `off` and `off + 2`, the low word first. From offset FFFEH on, `off + 2` does
not fit in 16 bits, which R106 refuses. -/
def readPair (seg off : Word) : M (Word × Word) := do
  if off.toNat < 0xFFFE then
    let lo ← readW seg off
    let hi ← readW seg (off + 2)
    pure (lo, hi)
  else
    refuses .operandPastSegmentEnd

/-! ### What macro service writes (R26, R538; log 41) -/

/-- A special function register written by macro service: with the rights of Table 3-4, STBC by setting bits alone (R76),
and FLAG not at all, for its bits are the PSW's, which macro service does not change (R538). -/
def State.serviceSfr (s : State) (o v : Byte) : State :=
  if o = sfrIdb then s.withIdb v
  else if o = sfrPrc then s.withPrc v
  else if o = sfrFlag then s
  else if o = sfrStbc then s.withStbc (s.stbc ||| v)
  else
    match sfrByteKind o with
    | .reserved => s
    | .register .readOnly => s
    | _ => s.withSfr (s.sfr.write o.toNat v)

/-- One write of macro service. Outside RAM a write changes nothing. -/
def State.serviceWrite (s : State) : Config.ServiceWrite → State
  | .memory a v => if reservedData a = false ∧ s.kindAt a = some .ram then s.storeExt a v else s
  | .sfr o v => s.serviceSfr o v
  | .bank o v => s.withIram (s.iram.write o.toNat v)

/-- A whole macro service response: the writes the environment chooses, one after another, and the event. -/
def State.service (s : State) : State :=
  ((Config.macroService s.draws s.ext s.iram s.sfr).foldl State.serviceWrite (s.withDraws (s.draws + 1))).record
    .macroService

/-! ### The I/O space (R130) -/

/-- `IoRead(port, 1)`: the value is the device's (R140). -/
def ioReadByte (port : Word) : M Byte := do
  if ← reads fun s => s.portMapped port then
    let v ← drawByte
    update fun s => s.record (.ioRead port v)
    pure v
  else
    faults .unmappedPort

/-- `IoWrite(port, 1, v)`. -/
def ioWriteByte (port : Word) (v : Byte) : M Unit := do
  if ← reads fun s => s.portMapped port then
    update fun s => s.record (.ioWrite port v)
  else
    faults .unmappedPort

/-- `IoRead(port, 2)`: the low byte at `port`, the high byte at the next port (R130). That the low port is accessed first,
which the events show, is the model's choice (DEDUCED, log 20). -/
def ioReadWord (port : Word) : M Word := do
  let lo ← ioReadByte port
  let hi ← ioReadByte (port + 1)
  pure (hi ++ lo)

/-- `IoWrite(port, 2, v)`, in the same order (log 20). -/
def ioWriteWord (port : Word) (v : Word) : M Unit := do
  ioWriteByte port (v.extractLsb' 0 8)
  ioWriteByte (port + 1) (v.extractLsb' 8 8)

/-! ### The stack (R400, R401) -/

/-- `Push16(v)`. -/
def push16 (v : Word) : M Unit := do
  update fun s => s.setReg16 .sp (s.reg16 .sp - 2)
  let seg ← reads fun s => s.sreg .ss
  let off ← reads fun s => s.reg16 .sp
  writeW seg off v

/-- `Pop16()`. -/
def pop16 : M Word := do
  let seg ← reads fun s => s.sreg .ss
  let off ← reads fun s => s.reg16 .sp
  let v ← readW seg off
  update fun s => s.setReg16 .sp (s.reg16 .sp + 2)
  pure v

/-! ### Taking an exception, and returning from one -/

/-- IE and BRK are reset whenever interrupt servicing is started (R45). -/
def State.clearIeBrk (s : State) : State := (s.setFlag .ie false).setFlag .brk false

/-- What every entry leaves behind: no trap due, no instruction to resume, the CPU running (R503, R234, R430). -/
def State.entered (s : State) : State := ((s.withTrace false).withResume none).withRun .running

/-- `raise Interrupt(v, ret)`, the vectored entry (R530, R531): PSW, then PS, then the return offset are pushed; PC and PS
come from the vector at `4 * v`. -/
def raise (v : Byte) (ret : Word) : M Unit := do
  push16 (← reads State.psw)
  update State.clearIeBrk
  push16 (← reads fun s => s.sreg .ps)
  push16 ret
  let vector : PhysAddr := v.setWidth 20 * 4
  let o ← readWord vector
  let p ← readWord (vector + 2)
  update fun s => ((s.setSreg .ps p).loadPc o).entered

/-- The offset a trap of the instruction under way saves: the next instruction's or its own first byte's (R501, log 10). -/
def trapPc (savesNext : Bool) : M Word := reads fun s => if savesNext then s.pc else s.start

/-- `SwitchTo(n, ret)` (R460, R535): PSW and the return offset go to the save words of the new bank, RB becomes `n` and PC
the new bank's vector PC. A switch to the current bank has no meaning (R461, R536, log 31). -/
def switchTo (n : BitVec 3) (ret : Word) : M Unit := do
  if n = (← reads State.bank) then
    refuses .switchToCurrentBank
  else
    update fun s => s.setBankWord n offPswSave s.psw
    update fun s => s.setBankWord n offPcSave ret
    update fun s => s.withPsw (withBank s.psw n)
    update fun s => s.loadPc (s.bankWord n offVectorPc)

/-- Entry by register bank switching (R535). -/
def bankEntry (n : BitVec 3) (ret : Word) : M Unit := do
  switchTo n ret
  update fun s => s.clearIeBrk.entered

/-- The return from a vectored interrupt (R424, R532): PC, PS and PSW are popped; all sixteen PSW bits are loaded. -/
def returnFromInterrupt : M Unit := do
  let o ← pop16
  let p ← pop16
  let f ← pop16
  if bit15 f then
    update fun s => ((s.setSreg .ps p).withPsw f).loadPc o
  else
    refuses .psw15Zero

/-- The return from register bank switching (R464, R537): PSW and PC come from the save words of the bank being left. -/
def returnFromBank : M Unit := do
  let f ← reads fun s => s.bankWord s.bank offPswSave
  let o ← reads fun s => s.bankWord s.bank offPcSave
  if bit15 f then
    update fun s => (s.withPsw f).loadPc o
  else
    refuses .psw15Zero

end Sys2Proof.Machine
end

