-- ==== Sys2Proof/Machine/Operands.lean ====
section
/-! DEFINITION. The operand forms of the instructions: effective addresses, register-or-memory operands of either width,
and the shapes of one- and two-operand instructions (R157 to R163, R270). -/

namespace Sys2Proof.Machine

/-! ### Effective addresses (R160, R161, R163) -/

/-- The register part of an effective address. -/
def State.baseValue (s : State) : Base → Word
  | .bwIx => s.reg16 .bw + s.reg16 .ix
  | .bwIy => s.reg16 .bw + s.reg16 .iy
  | .bpIx => s.reg16 .bp + s.reg16 .ix
  | .bpIy => s.reg16 .bp + s.reg16 .iy
  | .ix => s.reg16 .ix
  | .iy => s.reg16 .iy
  | .bp => s.reg16 .bp
  | .bw => s.reg16 .bw

/-- The default segment of a base: SS with BP, else DS0. -/
def baseSegment : Base → SReg
  | .bpIx => .ss
  | .bpIy => .ss
  | .bp => .ss
  | _ => .ds0

/-- `EA`, modulo 2^16. -/
def State.ea (s : State) : MemOp → Word
  | .direct addr => addr
  | .based0 b => s.baseValue b
  | .based8 b disp => s.baseValue b + disp.signExtend 16
  | .based16 b disp => s.baseValue b + disp

/-- The default segment of a memory operand. -/
def memSegment : MemOp → SReg
  | .direct _ => .ds0
  | .based0 b => baseSegment b
  | .based8 b _ => baseSegment b
  | .based16 b _ => baseSegment b

/-- The value of the override segment if there is an override, else of the default segment (R163). -/
def State.segValue (s : State) (default : SReg) : Word := s.sreg (s.pre.seg.getD default)

/-- `seg` of a memory operand (R162). -/
def State.memSeg (s : State) (m : MemOp) : Word := s.segValue (memSegment m)

/-! ### Operands of either width -/

/-- A resolved operand: a register, or a logical address in memory. R162: computed once, before anything is written. -/
inductive Place (ρ : Type) where
  | reg (r : ρ)
  | mem (seg off : Word)
  deriving DecidableEq, Repr

/-- The place of a register-or-memory operand. -/
def State.place {ρ : Type} (s : State) : RM ρ → Place ρ
  | .reg r => .reg r
  | .mem m => .mem (s.memSeg m) (s.ea m)

/-- What the byte form and the word form of an instruction differ in (R153, R162). -/
structure Width (w : Nat) (ρ : Type) where
  getReg : State → ρ → BitVec w
  setReg : State → ρ → BitVec w → State
  readMem : Word → Word → M (BitVec w)
  writeMem : Word → Word → BitVec w → M Unit
  /-- AL or AW. -/
  acc : ρ
  /-- The size of an element in bytes (`n` of R235). -/
  bytes : Word
  ioRead : Word → M (BitVec w)
  ioWrite : Word → BitVec w → M Unit

/-- W = 8. -/
def byteOp : Width 8 Reg8 where
  getReg := State.reg8
  setReg := State.setReg8
  readMem := readB
  writeMem := writeB
  acc := .al
  bytes := 1
  ioRead := ioReadByte
  ioWrite := ioWriteByte

/-- W = 16. -/
def wordOp : Width 16 Reg16 where
  getReg := State.reg16
  setReg := State.setReg16
  readMem := readW
  writeMem := writeW
  acc := .aw
  bytes := 2
  ioRead := ioReadWord
  ioWrite := ioWriteWord

section
variable {w : Nat} {ρ : Type}

/-- A register read. -/
def getReg (k : Width w ρ) (r : ρ) : M (BitVec w) := reads fun s => k.getReg s r

/-- A register written. -/
def setReg (k : Width w ρ) (r : ρ) (v : BitVec w) : M Unit := update fun s => k.setReg s r v

/-- `ReadRM(W)` at a resolved place (R162). -/
def readPlace (k : Width w ρ) : Place ρ → M (BitVec w)
  | .reg r => getReg k r
  | .mem seg off => k.readMem seg off

/-- `WriteRM(W, v)` at a resolved place (R162). -/
def writePlace (k : Width w ρ) (p : Place ρ) (v : BitVec w) : M Unit :=
  match p with
  | .reg r => setReg k r v
  | .mem seg off => k.writeMem seg off v

/-- `ReadRM(W)`. -/
def readRM (k : Width w ρ) (e : RM ρ) : M (BitVec w) := do
  let p ← reads fun s => s.place e
  readPlace k p

/-- `WriteRM(W, v)`. -/
def writeRM (k : Width w ρ) (e : RM ρ) (v : BitVec w) : M Unit := do
  let p ← reads fun s => s.place e
  writePlace k p v

/-! ### Two-operand arithmetic and logic (R270 to R275, R321 to R324) -/

end

/-- The operations of the two-operand forms. -/
inductive AluOp where
  | add | or | addc | subc | and | sub | xor | cmp | test
  deriving DecidableEq, Repr

/-- Whether the operation is a logical one, which leaves AC undefined (R320). -/
def AluOp.isLogical : AluOp → Bool
  | .or => true
  | .and => true
  | .xor => true
  | .test => true
  | _ => false

/-- Whether the destination is written: CMP and TEST write none (R275, R324). -/
def AluOp.stores : AluOp → Bool
  | .cmp => false
  | .test => false
  | _ => true

/-- The result, from the two operands and CY. -/
def AluOp.result {w : Nat} (op : AluOp) (a b : BitVec w) (cy : Bool) : BitVec w :=
  match op with
  | .add => addResult a b false
  | .addc => addResult a b cy
  | .sub => subResult a b false
  | .subc => subResult a b cy
  | .cmp => subResult a b false
  | .and => a &&& b
  | .test => a &&& b
  | .or => a ||| b
  | .xor => a ^^^ b

/-- The status flags, from the two operands, CY and a free word. -/
def AluOp.status {w : Nat} (op : AluOp) (a b : BitVec w) (cy : Bool) (free : Word) : Word :=
  match op with
  | .add => addStatus a b false
  | .addc => addStatus a b cy
  | .sub => subStatus a b false
  | .subc => subStatus a b cy
  | .cmp => subStatus a b false
  | .and => logicStatus (a &&& b) free
  | .test => logicStatus (a &&& b) free
  | .or => logicStatus (a ||| b) free
  | .xor => logicStatus (a ^^^ b) free

section
variable {w : Nat} {ρ : Type}

/-- `a <- read d; b <- source; flags; write d`, the source already read (R270). -/
def aluAt (k : Width w ρ) (op : AluOp) (d : Place ρ) (source : M (BitVec w)) : M Unit := do
  let a ← readPlace k d
  let b ← source
  let cy ← reads fun s => s.flag .cy
  let free ← if op.isLogical then draw else pure 0
  update fun s => s.setStatus maskStatus (op.status a b cy free)
  if op.stores then writePlace k d (op.result a b cy) else pure ()

/-- Destination the mod-r/m operand, source the reg field. -/
def aluRmReg (k : Width w ρ) (op : AluOp) (e : RM ρ) (r : ρ) : M Unit := do
  let d ← reads fun s => s.place e
  aluAt k op d (getReg k r)

/-- Destination the reg field, source the mod-r/m operand. -/
def aluRegRm (k : Width w ρ) (op : AluOp) (r : ρ) (e : RM ρ) : M Unit :=
  aluAt k op (.reg r) (readRM k e)

/-- Destination the mod-r/m operand, source an immediate. -/
def aluRmImm (k : Width w ρ) (op : AluOp) (e : RM ρ) (imm : BitVec w) : M Unit := do
  let d ← reads fun s => s.place e
  aluAt k op d (pure imm)

/-- Destination the accumulator, source an immediate. -/
def aluAccImm (k : Width w ρ) (op : AluOp) (imm : BitVec w) : M Unit :=
  aluAt k op (.reg k.acc) (pure imm)

/-! ### One-operand read-modify-write -/

/-- `t <- ReadRM(W); WriteRM(W, f t)`: no flag (R325, R331 to R333). -/
def modifyPlace (k : Width w ρ) (d : Place ρ) (f : BitVec w → BitVec w) : M Unit := do
  let a ← readPlace k d
  writePlace k d (f a)

/-- `modifyPlace` of a mod-r/m operand. -/
def modifyRM (k : Width w ρ) (e : RM ρ) (f : BitVec w → BitVec w) : M Unit := do
  let d ← reads fun s => s.place e
  modifyPlace k d f

/-- INC: the operand plus one, CY kept (R277, R278). -/
def incPlace (k : Width w ρ) (d : Place ρ) : M Unit := do
  let a ← readPlace k d
  writePlace k d (addResult a 1 false)
  update fun s => s.setStatus maskStatusNoCy (addStatus a 1 false)

/-- DEC: the operand minus one, CY kept (R279, R280). -/
def decPlace (k : Width w ρ) (d : Place ρ) : M Unit := do
  let a ← readPlace k d
  writePlace k d (subResult a 1 false)
  update fun s => s.setStatus maskStatusNoCy (subStatus a 1 false)

/-- NEG: zero minus the operand (R281). -/
def negPlace (k : Width w ρ) (d : Place ρ) : M Unit := do
  let a ← readPlace k d
  writePlace k d (subResult 0 a false)
  update fun s => s.setStatus maskStatus (subStatus 0 a false)

/-! ### Shifts and rotates (R340 to R349) -/

end

/-- The shift group. -/
inductive ShiftOp where
  | rol | ror | rolc | rorc | shl | shr | shra
  deriving DecidableEq, Repr

/-- Whether the operation is a rotate (R345). -/
def ShiftOp.isRotate : ShiftOp → Bool
  | .shl => false
  | .shr => false
  | .shra => false
  | _ => true

/-- Whether the operation goes left (R63). -/
def ShiftOp.isLeft : ShiftOp → Bool
  | .shl => true
  | .rol => true
  | .rolc => true
  | _ => false

/-- The one-bit step on the operand and CY (R341 to R349). -/
def ShiftOp.step {w : Nat} (op : ShiftOp) (t : BitVec w) (cy : Bool) : BitVec w × Bool :=
  match op with
  | .shl => (t <<< 1, t.msb)
  | .shr => (t >>> 1, t.getLsbD 0)
  | .shra => (t.sshiftRight 1, t.getLsbD 0)
  | .rol => (putBit (t <<< 1) 0 t.msb, t.msb)
  | .ror => (putBit (t >>> 1) (w - 1) (t.getLsbD 0), t.getLsbD 0)
  | .rolc => (putBit (t <<< 1) 0 cy, t.msb)
  | .rorc => (putBit (t >>> 1) (w - 1) cy, t.getLsbD 0)

/-- `c` repetitions of the one-bit step (R340). -/
def ShiftOp.steps {w : Nat} (op : ShiftOp) : Nat → BitVec w × Bool → BitVec w × Bool
  | 0, x => x
  | c + 1, x => ShiftOp.steps op c (op.step x.1 x.2)

/-- The count in effect. Below 32 both masks agree; above, the spec leaves the mask open (R340, log 11). -/
def shiftCount (count : Byte) : Nat :=
  if count.toNat < 32 then count.toNat
  else if Config.shiftCountMasked then count.toNat % 32 else count.toNat

/-- The mask of the flags a shift or rotate writes. -/
def ShiftOp.mask (op : ShiftOp) : Word := if op.isRotate then maskRotate else maskStatus

/-- The flags after `c ≥ 1` steps that left `r` and `cy`. -/
def ShiftOp.status {w : Nat} (op : ShiftOp) (r : BitVec w) (cy : Bool) (c : Nat) (free : Word) : Word :=
  let v1 := if op.isLeft then leftV r cy else rightV r
  if op.isRotate then rotateStatus cy v1 c free else shiftStatus r cy v1 c free

section
variable {w : Nat} {ρ : Type}

/-- A shift or rotate of a resolved place. A count of 0 reads and writes the operand and writes no flag (R340). -/
def shiftPlace (k : Width w ρ) (op : ShiftOp) (d : Place ρ) (c : Nat) : M Unit := do
  let t ← readPlace k d
  let cy ← reads fun s => s.flag .cy
  let out := op.steps c (t, cy)
  if c = 0 then
    writePlace k d t
  else
    let free ← draw
    update fun s => s.setStatus op.mask (op.status out.1 out.2 c free)
    writePlace k d out.1

/-- Count 1. -/
def shiftOnce (k : Width w ρ) (op : ShiftOp) (e : RM ρ) : M Unit := do
  let d ← reads fun s => s.place e
  shiftPlace k op d 1

/-- Count in CL. -/
def shiftByCl (k : Width w ρ) (op : ShiftOp) (e : RM ρ) : M Unit := do
  let d ← reads fun s => s.place e
  let c ← reads fun s => shiftCount (s.reg8 .cl)
  shiftPlace k op d c

/-- Count in an immediate byte. -/
def shiftByImm (k : Width w ρ) (op : ShiftOp) (e : RM ρ) (imm : Byte) : M Unit := do
  let d ← reads fun s => s.place e
  shiftPlace k op d (shiftCount imm)

/-! ### Bit operands (R330) -/

/-- The bit number: the low 3 bits for a byte operand, the low 4 for a word operand. -/
def bitNumber (w : Nat) (n : Byte) : Nat := n.toNat % w

/-- The bit number in CL. -/
def bitNumberCl (w : Nat) : M Nat := reads fun s => bitNumber w (s.reg8 .cl)

end

/-! ### Branches (R360) -/

/-- A relative target of a short branch: `next + sext_16(disp8)`, inside the segment. -/
def branchShort (disp : Byte) : M Unit := update fun s => s.loadPc (s.pc + disp.signExtend 16)

/-- A conditional short branch; not taken, it loads nothing and clears nothing. -/
def branchIf (cond : Bool) (disp : Byte) : M Unit := if cond then branchShort disp else pure ()

/-- `step(x)` of R235: forward or backward by the element size, as DIR says. -/
def State.stepIndex (s : State) (n x : Word) : Word := if s.flag .dir then x - n else x + n

/-- IX or IY stepped (R235). -/
def advance (r : Reg16) (n : Word) : M Unit := update fun s => s.setReg16 r (s.stepIndex n (s.reg16 r))

/-- `srcseg` of R235: the override segment or DS0. -/
def sourceSeg : M Word := reads fun s => s.segValue .ds0

end Sys2Proof.Machine
end

