-- ==== Sys2Proof/Machine/Arithmetic.lean ====
section
/-! DEFINITION. Binary arithmetic: ADD, ADDC, SUB, SUBC, CMP, INC, DEC, NEG, MULU, MUL, DIVU, DIV, CVTBW, CVTWL (R270 to R289). -/

namespace Sys2Proof.Machine

/-! ### Multiplication (R282, R283, R287): the product, and whether its high half matters -/

def mulUnsigned8 (a b : Byte) : Word × Bool :=
  let p : Word := a.setWidth 16 * b.setWidth 16
  (p, p.extractLsb' 8 8 != 0)

def mulSigned8 (a b : Byte) : Word × Bool :=
  let p : Word := a.signExtend 16 * b.signExtend 16
  (p, p != (p.extractLsb' 0 8).signExtend 16)

def mulUnsigned16 (a b : Word) : BitVec 32 × Bool :=
  let p : BitVec 32 := a.setWidth 32 * b.setWidth 32
  (p, p.extractLsb' 16 16 != 0)

def mulSigned16 (a b : Word) : BitVec 32 × Bool :=
  let p : BitVec 32 := a.signExtend 32 * b.signExtend 32
  (p, p != (p.extractLsb' 0 16).signExtend 32)

/-- AL times the operand into AW. -/
def mulByte (f : Byte → Byte → Word × Bool) (e : RM Reg8) : M Unit := do
  let b ← readRM byteOp e
  let a ← reads fun s => s.reg8 .al
  let free ← draw
  update fun s => (s.setReg16 .aw (f a b).1).setStatus maskStatus (mulStatus (f a b).2 free)

/-- AW times the operand into DW:AW. -/
def mulWord (f : Word → Word → BitVec 32 × Bool) (e : RM Reg16) : M Unit := do
  let b ← readRM wordOp e
  let a ← reads fun s => s.reg16 .aw
  let free ← draw
  update fun s => ((s.setReg16 .aw ((f a b).1.extractLsb' 0 16)).setReg16 .dw ((f a b).1.extractLsb' 16 16)).setStatus
    maskStatus (mulStatus (f a b).2 free)

/-- The operand times an immediate into a register (R287). -/
def mulImm (r : Reg16) (e : RM Reg16) (imm : Word) : M Unit := do
  let a ← readRM wordOp e
  let free ← draw
  update fun s => (s.setReg16 r ((mulSigned16 a imm).1.extractLsb' 0 16)).setStatus maskStatus
    (mulStatus (mulSigned16 a imm).2 free)

/-! ### Division (R284 to R286): quotient and remainder, or the divide error -/

def divUnsigned8 (n : Word) (d : Byte) : Option (Byte × Byte) :=
  if d = 0 ∨ 0xFF < n.toNat / d.toNat then none
  else some (BitVec.ofNat 8 (n.toNat / d.toNat), BitVec.ofNat 8 (n.toNat % d.toNat))

def divUnsigned16 (n : BitVec 32) (d : Word) : Option (Word × Word) :=
  if d = 0 ∨ 0xFFFF < n.toNat / d.toNat then none
  else some (BitVec.ofNat 16 (n.toNat / d.toNat), BitVec.ofNat 16 (n.toNat % d.toNat))

/-- The quotient truncates toward zero. Whether the most negative quotient is accepted is open (R286, log 14). -/
def divSigned8 (n : Word) (d : Byte) : Option (Byte × Byte) :=
  let q := n.toInt.tdiv d.toInt
  if d = 0 ∨ q < -128 ∨ 127 < q then none
  else if q = -128 ∧ Config.divMostNegativeTraps = true then none
  else some (BitVec.ofInt 8 q, BitVec.ofInt 8 (n.toInt.tmod d.toInt))

def divSigned16 (n : BitVec 32) (d : Word) : Option (Word × Word) :=
  let q := n.toInt.tdiv d.toInt
  if d = 0 ∨ q < -32768 ∨ 32767 < q then none
  else if q = -32768 ∧ Config.divMostNegativeTraps = true then none
  else some (BitVec.ofInt 16 q, BitVec.ofInt 16 (n.toInt.tmod d.toInt))

/-- The divide error: the status flags of the saved PSW are undefined but V, which is 0 (R284, log 15). -/
def divideError : M Unit := do
  let free ← draw
  update fun s => s.setStatus maskStatus (divStatus free)
  raise 0 (← trapPc Config.divErrorSavesNext)

/-- AW by the operand: quotient to AL, remainder to AH. -/
def divByte (f : Word → Byte → Option (Byte × Byte)) (e : RM Reg8) : M Unit := do
  let d ← readRM byteOp e
  let n ← reads fun s => s.reg16 .aw
  match f n d with
  | none => divideError
  | some (q, m) =>
    let free ← draw
    update fun s => ((s.setReg8 .al q).setReg8 .ah m).setStatus maskStatus (divStatus free)

/-- DW:AW by the operand: quotient to AW, remainder to DW. -/
def divWord (f : BitVec 32 → Word → Option (Word × Word)) (e : RM Reg16) : M Unit := do
  let d ← readRM wordOp e
  let n ← reads fun s => (s.reg16 .dw ++ s.reg16 .aw : BitVec 32)
  match f n d with
  | none => divideError
  | some (q, m) =>
    let free ← draw
    update fun s => ((s.setReg16 .aw q).setReg16 .dw m).setStatus maskStatus (divStatus free)

/-! ### One meaning for each instruction -/

/-- ADD eb,rb (R271). -/
def execAddEbRb (e : RM Reg8) (r : Reg8) (s : State) : Host.Outcome State Fault Refusal :=
  act (aluRmReg byteOp .add e r) s

/-- ADD ew,rw (R271). -/
def execAddEwRw (e : RM Reg16) (r : Reg16) (s : State) : Host.Outcome State Fault Refusal :=
  act (aluRmReg wordOp .add e r) s

/-- ADD rb,eb (R271). -/
def execAddRbEb (r : Reg8) (e : RM Reg8) (s : State) : Host.Outcome State Fault Refusal :=
  act (aluRegRm byteOp .add r e) s

/-- ADD rw,ew (R271). -/
def execAddRwEw (r : Reg16) (e : RM Reg16) (s : State) : Host.Outcome State Fault Refusal :=
  act (aluRegRm wordOp .add r e) s

/-- ADD AL,imm8 (R271). -/
def execAddAlImm8 (imm : Byte) (s : State) : Host.Outcome State Fault Refusal :=
  act (aluAccImm byteOp .add imm) s

/-- ADD AW,imm16 (R271). -/
def execAddAwImm16 (imm : Word) (s : State) : Host.Outcome State Fault Refusal :=
  act (aluAccImm wordOp .add imm) s

/-- ADD eb,imm8 (R271). -/
def execAddEbImm8 (e : RM Reg8) (imm : Byte) (s : State) : Host.Outcome State Fault Refusal :=
  act (aluRmImm byteOp .add e imm) s

/-- ADD ew,imm16 (R271). -/
def execAddEwImm16 (e : RM Reg16) (imm : Word) (s : State) : Host.Outcome State Fault Refusal :=
  act (aluRmImm wordOp .add e imm) s

/-- ADD eb,imm8 (duplicate opcode 82H) (R271). -/
def execAddEbImm8Dup (e : RM Reg8) (imm : Byte) (s : State) : Host.Outcome State Fault Refusal :=
  act (aluRmImm byteOp .add e imm) s

/-- ADD ew,sext imm8 (R271). -/
def execAddEwSextImm8 (e : RM Reg16) (imm : Byte) (s : State) : Host.Outcome State Fault Refusal :=
  act (aluRmImm wordOp .add e (imm.signExtend 16)) s

/-- ADDC eb,rb (R272). -/
def execAddcEbRb (e : RM Reg8) (r : Reg8) (s : State) : Host.Outcome State Fault Refusal :=
  act (aluRmReg byteOp .addc e r) s

/-- ADDC ew,rw (R272). -/
def execAddcEwRw (e : RM Reg16) (r : Reg16) (s : State) : Host.Outcome State Fault Refusal :=
  act (aluRmReg wordOp .addc e r) s

/-- ADDC rb,eb (R272). -/
def execAddcRbEb (r : Reg8) (e : RM Reg8) (s : State) : Host.Outcome State Fault Refusal :=
  act (aluRegRm byteOp .addc r e) s

/-- ADDC rw,ew (R272). -/
def execAddcRwEw (r : Reg16) (e : RM Reg16) (s : State) : Host.Outcome State Fault Refusal :=
  act (aluRegRm wordOp .addc r e) s

/-- ADDC AL,imm8 (R272). -/
def execAddcAlImm8 (imm : Byte) (s : State) : Host.Outcome State Fault Refusal :=
  act (aluAccImm byteOp .addc imm) s

/-- ADDC AW,imm16 (R272). -/
def execAddcAwImm16 (imm : Word) (s : State) : Host.Outcome State Fault Refusal :=
  act (aluAccImm wordOp .addc imm) s

/-- ADDC eb,imm8 (R272). -/
def execAddcEbImm8 (e : RM Reg8) (imm : Byte) (s : State) : Host.Outcome State Fault Refusal :=
  act (aluRmImm byteOp .addc e imm) s

/-- ADDC ew,imm16 (R272). -/
def execAddcEwImm16 (e : RM Reg16) (imm : Word) (s : State) : Host.Outcome State Fault Refusal :=
  act (aluRmImm wordOp .addc e imm) s

/-- ADDC eb,imm8 (duplicate opcode 82H) (R272). -/
def execAddcEbImm8Dup (e : RM Reg8) (imm : Byte) (s : State) : Host.Outcome State Fault Refusal :=
  act (aluRmImm byteOp .addc e imm) s

/-- ADDC ew,sext imm8 (R272). -/
def execAddcEwSextImm8 (e : RM Reg16) (imm : Byte) (s : State) : Host.Outcome State Fault Refusal :=
  act (aluRmImm wordOp .addc e (imm.signExtend 16)) s

/-- SUBC eb,rb (R274). -/
def execSubcEbRb (e : RM Reg8) (r : Reg8) (s : State) : Host.Outcome State Fault Refusal :=
  act (aluRmReg byteOp .subc e r) s

/-- SUBC ew,rw (R274). -/
def execSubcEwRw (e : RM Reg16) (r : Reg16) (s : State) : Host.Outcome State Fault Refusal :=
  act (aluRmReg wordOp .subc e r) s

/-- SUBC rb,eb (R274). -/
def execSubcRbEb (r : Reg8) (e : RM Reg8) (s : State) : Host.Outcome State Fault Refusal :=
  act (aluRegRm byteOp .subc r e) s

/-- SUBC rw,ew (R274). -/
def execSubcRwEw (r : Reg16) (e : RM Reg16) (s : State) : Host.Outcome State Fault Refusal :=
  act (aluRegRm wordOp .subc r e) s

/-- SUBC AL,imm8 (R274). -/
def execSubcAlImm8 (imm : Byte) (s : State) : Host.Outcome State Fault Refusal :=
  act (aluAccImm byteOp .subc imm) s

/-- SUBC AW,imm16 (R274). -/
def execSubcAwImm16 (imm : Word) (s : State) : Host.Outcome State Fault Refusal :=
  act (aluAccImm wordOp .subc imm) s

/-- SUBC eb,imm8 (R274). -/
def execSubcEbImm8 (e : RM Reg8) (imm : Byte) (s : State) : Host.Outcome State Fault Refusal :=
  act (aluRmImm byteOp .subc e imm) s

/-- SUBC ew,imm16 (R274). -/
def execSubcEwImm16 (e : RM Reg16) (imm : Word) (s : State) : Host.Outcome State Fault Refusal :=
  act (aluRmImm wordOp .subc e imm) s

/-- SUBC eb,imm8 (duplicate opcode 82H) (R274). -/
def execSubcEbImm8Dup (e : RM Reg8) (imm : Byte) (s : State) : Host.Outcome State Fault Refusal :=
  act (aluRmImm byteOp .subc e imm) s

/-- SUBC ew,sext imm8 (R274). -/
def execSubcEwSextImm8 (e : RM Reg16) (imm : Byte) (s : State) : Host.Outcome State Fault Refusal :=
  act (aluRmImm wordOp .subc e (imm.signExtend 16)) s

/-- SUB eb,rb (R273). -/
def execSubEbRb (e : RM Reg8) (r : Reg8) (s : State) : Host.Outcome State Fault Refusal :=
  act (aluRmReg byteOp .sub e r) s

/-- SUB ew,rw (R273). -/
def execSubEwRw (e : RM Reg16) (r : Reg16) (s : State) : Host.Outcome State Fault Refusal :=
  act (aluRmReg wordOp .sub e r) s

/-- SUB rb,eb (R273). -/
def execSubRbEb (r : Reg8) (e : RM Reg8) (s : State) : Host.Outcome State Fault Refusal :=
  act (aluRegRm byteOp .sub r e) s

/-- SUB rw,ew (R273). -/
def execSubRwEw (r : Reg16) (e : RM Reg16) (s : State) : Host.Outcome State Fault Refusal :=
  act (aluRegRm wordOp .sub r e) s

/-- SUB AL,imm8 (R273). -/
def execSubAlImm8 (imm : Byte) (s : State) : Host.Outcome State Fault Refusal :=
  act (aluAccImm byteOp .sub imm) s

/-- SUB AW,imm16 (R273). -/
def execSubAwImm16 (imm : Word) (s : State) : Host.Outcome State Fault Refusal :=
  act (aluAccImm wordOp .sub imm) s

/-- SUB eb,imm8 (R273). -/
def execSubEbImm8 (e : RM Reg8) (imm : Byte) (s : State) : Host.Outcome State Fault Refusal :=
  act (aluRmImm byteOp .sub e imm) s

/-- SUB ew,imm16 (R273). -/
def execSubEwImm16 (e : RM Reg16) (imm : Word) (s : State) : Host.Outcome State Fault Refusal :=
  act (aluRmImm wordOp .sub e imm) s

/-- SUB eb,imm8 (duplicate opcode 82H) (R273). -/
def execSubEbImm8Dup (e : RM Reg8) (imm : Byte) (s : State) : Host.Outcome State Fault Refusal :=
  act (aluRmImm byteOp .sub e imm) s

/-- SUB ew,sext imm8 (R273). -/
def execSubEwSextImm8 (e : RM Reg16) (imm : Byte) (s : State) : Host.Outcome State Fault Refusal :=
  act (aluRmImm wordOp .sub e (imm.signExtend 16)) s

/-- CMP eb,rb (R275). -/
def execCmpEbRb (e : RM Reg8) (r : Reg8) (s : State) : Host.Outcome State Fault Refusal :=
  act (aluRmReg byteOp .cmp e r) s

/-- CMP ew,rw (R275). -/
def execCmpEwRw (e : RM Reg16) (r : Reg16) (s : State) : Host.Outcome State Fault Refusal :=
  act (aluRmReg wordOp .cmp e r) s

/-- CMP rb,eb (R275). -/
def execCmpRbEb (r : Reg8) (e : RM Reg8) (s : State) : Host.Outcome State Fault Refusal :=
  act (aluRegRm byteOp .cmp r e) s

/-- CMP rw,ew (R275). -/
def execCmpRwEw (r : Reg16) (e : RM Reg16) (s : State) : Host.Outcome State Fault Refusal :=
  act (aluRegRm wordOp .cmp r e) s

/-- CMP AL,imm8 (R275). -/
def execCmpAlImm8 (imm : Byte) (s : State) : Host.Outcome State Fault Refusal :=
  act (aluAccImm byteOp .cmp imm) s

/-- CMP AW,imm16 (R275). -/
def execCmpAwImm16 (imm : Word) (s : State) : Host.Outcome State Fault Refusal :=
  act (aluAccImm wordOp .cmp imm) s

/-- CMP eb,imm8 (R275). -/
def execCmpEbImm8 (e : RM Reg8) (imm : Byte) (s : State) : Host.Outcome State Fault Refusal :=
  act (aluRmImm byteOp .cmp e imm) s

/-- CMP ew,imm16 (R275). -/
def execCmpEwImm16 (e : RM Reg16) (imm : Word) (s : State) : Host.Outcome State Fault Refusal :=
  act (aluRmImm wordOp .cmp e imm) s

/-- CMP eb,imm8 (duplicate opcode 82H) (R275). -/
def execCmpEbImm8Dup (e : RM Reg8) (imm : Byte) (s : State) : Host.Outcome State Fault Refusal :=
  act (aluRmImm byteOp .cmp e imm) s

/-- CMP ew,sext imm8 (R275). -/
def execCmpEwSextImm8 (e : RM Reg16) (imm : Byte) (s : State) : Host.Outcome State Fault Refusal :=
  act (aluRmImm wordOp .cmp e (imm.signExtend 16)) s

/-- INC reg16 (R277). -/
def execIncReg16 (r : Reg16) (s : State) : Host.Outcome State Fault Refusal :=
  act (incPlace wordOp (.reg r)) s

/-- DEC reg16 (R279). -/
def execDecReg16 (r : Reg16) (s : State) : Host.Outcome State Fault Refusal :=
  act (decPlace wordOp (.reg r)) s

/-- MUL reg16,ew,imm16 (R287). -/
def execMulReg16EwImm16 (r : Reg16) (e : RM Reg16) (imm : Word) (s : State) : Host.Outcome State Fault Refusal :=
  act (mulImm r e imm) s

/-- MUL reg16,ew,imm8 (R287). -/
def execMulReg16EwImm8 (r : Reg16) (e : RM Reg16) (imm : Byte) (s : State) : Host.Outcome State Fault Refusal :=
  act (mulImm r e (imm.signExtend 16)) s

/-- CVTBW (R288). -/
def execCvtbw (s : State) : Host.Outcome State Fault Refusal :=
  act (update fun s => s.setReg8 .ah (if (s.reg8 .al).msb then 0xFF else 0x00)) s

/-- CVTWL (R289). -/
def execCvtwl (s : State) : Host.Outcome State Fault Refusal :=
  act (update fun s => s.setReg16 .dw (if (s.reg16 .aw).msb then 0xFFFF else 0x0000)) s

/-- NEG eb (R281). -/
def execNegEb (e : RM Reg8) (s : State) : Host.Outcome State Fault Refusal :=
  act (do
    let d ← reads fun s => s.place e
    negPlace byteOp d) s

/-- MULU eb (R282). -/
def execMuluEb (e : RM Reg8) (s : State) : Host.Outcome State Fault Refusal :=
  act (mulByte mulUnsigned8 e) s

/-- MUL eb (R283). -/
def execMulEb (e : RM Reg8) (s : State) : Host.Outcome State Fault Refusal :=
  act (mulByte mulSigned8 e) s

/-- DIVU eb (R285). -/
def execDivuEb (e : RM Reg8) (s : State) : Host.Outcome State Fault Refusal :=
  act (divByte divUnsigned8 e) s

/-- DIV eb (R286). -/
def execDivEb (e : RM Reg8) (s : State) : Host.Outcome State Fault Refusal :=
  act (divByte divSigned8 e) s

/-- NEG ew (R281). -/
def execNegEw (e : RM Reg16) (s : State) : Host.Outcome State Fault Refusal :=
  act (do
    let d ← reads fun s => s.place e
    negPlace wordOp d) s

/-- MULU ew (R282). -/
def execMuluEw (e : RM Reg16) (s : State) : Host.Outcome State Fault Refusal :=
  act (mulWord mulUnsigned16 e) s

/-- MUL ew (R283). -/
def execMulEw (e : RM Reg16) (s : State) : Host.Outcome State Fault Refusal :=
  act (mulWord mulSigned16 e) s

/-- DIVU ew (R285). -/
def execDivuEw (e : RM Reg16) (s : State) : Host.Outcome State Fault Refusal :=
  act (divWord divUnsigned16 e) s

/-- DIV ew (R286). -/
def execDivEw (e : RM Reg16) (s : State) : Host.Outcome State Fault Refusal :=
  act (divWord divSigned16 e) s

/-- INC eb (R278). -/
def execIncEb (e : RM Reg8) (s : State) : Host.Outcome State Fault Refusal :=
  act (do
    let d ← reads fun s => s.place e
    incPlace byteOp d) s

/-- DEC eb (R280). -/
def execDecEb (e : RM Reg8) (s : State) : Host.Outcome State Fault Refusal :=
  act (do
    let d ← reads fun s => s.place e
    decPlace byteOp d) s

/-- INC ew (R278). -/
def execIncEw (e : RM Reg16) (s : State) : Host.Outcome State Fault Refusal :=
  act (do
    let d ← reads fun s => s.place e
    incPlace wordOp d) s

/-- DEC ew (R280). -/
def execDecEw (e : RM Reg16) (s : State) : Host.Outcome State Fault Refusal :=
  act (do
    let d ← reads fun s => s.place e
    decPlace wordOp d) s

end Sys2Proof.Machine
end

