-- ==== Sys2Proof/Machine/Banks.lean ====
section
/-! DEFINITION. Register bank instructions and FINT (R460 to R466). -/

namespace Sys2Proof.Machine

/-- The bank a register names: its bits 2 to 0 (R461, R462, R466). -/
def bankNumber (r : Reg16) : M (BitVec 3) := reads fun s => (s.reg16 r).extractLsb' 0 3

/-- SS and SP of a bank into the current bank's (R463). -/
def State.copyStackFrom (s : State) (o : BitVec 3) : State :=
  let t := s.setSreg .ss (s.bankWord o (offSReg .ss))
  t.setReg16 .sp (t.bankWord o (offReg16 .sp))

/-- The current bank's SS and SP into a bank's (R466). -/
def State.copyStackTo (s : State) (n : BitVec 3) : State :=
  let t := s.setBankWord n (offSReg .ss) (s.sreg .ss)
  t.setBankWord n (offReg16 .sp) (t.reg16 .sp)

/-! ### One meaning for each instruction -/

/-- MOVSPA (R463). -/
def execMovspa (s : State) : Host.Outcome State Fault Refusal :=
  act (update fun s => s.copyStackFrom (bankOf (s.bankWord s.bank offPswSave))) s

/-- BRKCS reg16 (R461). -/
def execBrkcsReg16 (r : Reg16) (s : State) : Host.Outcome State Fault Refusal :=
  act (do
    let n ← bankNumber r
    switchTo n (← reads State.pc)
    update fun s => (s.clearIeBrk).withTrace false) s

/-- RETRBI (R464). -/
def execRetrbi (s : State) : Host.Outcome State Fault Refusal :=
  act returnFromBank s

/-- FINT (R465). -/
def execFint (s : State) : Host.Outcome State Fault Refusal :=
  act (update fun s => s.record .finishInterrupt) s

/-- TSKSW reg16 (R462). -/
def execTskswReg16 (r : Reg16) (s : State) : Host.Outcome State Fault Refusal :=
  act (do
    let n ← bankNumber r
    switchTo n (← reads State.pc)) s

/-- MOVSPB reg16 (R466). -/
def execMovspbReg16 (r : Reg16) (s : State) : Host.Outcome State Fault Refusal :=
  act (do
    let n ← bankNumber r
    update fun s => s.copyStackTo n) s

end Sys2Proof.Machine
end

