-- ==== Sys2Proof/Machine/Bcd.lean ====
section
/-! DEFINITION. Decimal instructions (R300 to R316). -/

namespace Sys2Proof.Machine

/-! ### Adjustments of AL (R301 to R304) -/

/-- ADJ4A: the result, CY and AC from AL, CY and AC. -/
def packedAdd (al : Byte) (cy ac : Bool) : Byte × Bool × Bool :=
  let low := decide (9 < al.toNat % 16) || ac
  let high := decide (0x99 < al.toNat) || cy
  (al + (if low then 0x06 else 0) + (if high then 0x60 else 0), high, low)

/-- ADJ4S. -/
def packedSub (al : Byte) (cy ac : Bool) : Byte × Bool × Bool :=
  let low := decide (9 < al.toNat % 16) || ac
  let high := decide (0x99 < al.toNat) || cy
  (al - (if low then 0x06 else 0) - (if high then 0x60 else 0), high, low)

/-- ADJ4A and ADJ4S; V is undefined (log 55). -/
def adjustPacked (f : Byte → Bool → Bool → Byte × Bool × Bool) : M Unit := do
  let out ← reads fun s => f (s.reg8 .al) (s.flag .cy) (s.flag .ac)
  let free ← draw
  update fun s => (s.setReg8 .al out.1).setStatus maskStatus (packedStatus out.1 out.2.1 out.2.2 free)

/-- ADJBA (`add`) and ADJBS; V, S, Z, P are undefined (log 55). -/
def adjustUnpacked (add : Bool) : M Unit := do
  let al ← reads fun s => s.reg8 .al
  let ah ← reads fun s => s.reg8 .ah
  let adjust ← reads fun s => decide (9 < (s.reg8 .al).toNat % 16) || s.flag .ac
  let al' := if adjust then (if add then al + 6 else al - 6) else al
  let ah' := if adjust then (if add then ah + 1 else ah - 1) else ah
  let free ← draw
  update fun s => ((s.setReg8 .al (al' &&& 0x0F)).setReg8 .ah ah').setStatus maskStatus (unpackedStatus adjust free)

/-! ### BCD strings (R310 to R313) -/

/-- Both digits of a byte are decimal. -/
def isBcd (x : Byte) : Bool := decide (x.toNat % 16 ≤ 9) && decide (x.toNat / 16 ≤ 9)

/-- `BcdAdd8`: destination plus source plus carry. -/
def bcdAdd (d s : Byte) (c : Bool) : Byte × Bool :=
  let lo := d.toNat % 16 + s.toNat % 16 + c.toNat
  let k := decide (9 < lo)
  let hi := d.toNat / 16 + s.toNat / 16 + k.toNat
  let c' := decide (9 < hi)
  (BitVec.ofNat 4 (if c' then hi - 10 else hi) ++ BitVec.ofNat 4 (if k then lo - 10 else lo), c')

/-- `BcdSub8`: destination minus source minus borrow. -/
def bcdSub (d s : Byte) (c : Bool) : Byte × Bool :=
  let k := decide (d.toNat % 16 < s.toNat % 16 + c.toNat)
  let lo := (if k then 10 else 0) + d.toNat % 16 - (s.toNat % 16 + c.toNat)
  let c' := decide (d.toNat / 16 < s.toNat / 16 + k.toNat)
  let hi := (if c' then 10 else 0) + d.toNat / 16 - (s.toNat / 16 + k.toNat)
  (BitVec.ofNat 4 hi ++ BitVec.ofNat 4 lo, c')

/-- One byte of a string: result and carry are free where the spec gives no result (a digit above 9, an open length,
log 22). -/
def bcdByte (f : Byte → Byte → Bool → Byte × Bool) (isOpen : Bool) (d s : Byte) (c : Bool) : M (Byte × Bool) := do
  if isOpen || !isBcd d || !isBcd s then
    let free ← draw
    pure (free.extractLsb' 0 8, free.getLsbD 8)
  else
    pure (f d s c)

/-- The bytes of the strings from low to high: the last carry, and whether every result byte was 00H. -/
def bcdLoop (f : Byte → Byte → Bool → Byte × Bool) (store isOpen : Bool) (src dst : Word) :
    Nat → Word → Word → Bool → Bool → M (Bool × Bool)
  | 0, _, _, c, z => pure (c, z)
  | n + 1, ix, iy, c, z => do
    let s ← readB src ix
    let d ← readB dst iy
    let out ← bcdByte f isOpen d s c
    if store then writeB dst iy out.1 else pure ()
    bcdLoop f store isOpen src dst n (ix + 1) (iy + 1) out.2 (z && out.1 == 0)

/-- Whether the spec leaves the length open: CL = 0 or odd (R310, log 22). -/
def bcdLengthOpen (cl : Byte) : Bool := cl == 0 || cl.getLsbD 0

/-- ADD4S, SUB4S (`store`) and CMP4S. The segments, IX, IY and CL are read once, before the first byte: a string stored over
its own registers does not redirect itself (DESIGN CHOICE, log 59). -/
def bcdString (f : Byte → Byte → Bool → Byte × Bool) (store : Bool) : M Unit := do
  let src ← sourceSeg
  let dst ← reads fun s => s.sreg .ds1
  let ix ← reads fun s => s.reg16 .ix
  let iy ← reads fun s => s.reg16 .iy
  let cl ← reads fun s => s.reg8 .cl
  let n := if bcdLengthOpen cl then (Config.bcdOpenLength cl).val else cl.toNat / 2
  let out ← bcdLoop f store (bcdLengthOpen cl) src dst n ix iy false true
  let free ← draw
  let cy := if bcdLengthOpen cl then flagOf free .cy else out.1
  let z := if bcdLengthOpen cl then flagOf free .z else out.2
  update fun s => s.setStatus maskStatus (bcdStringStatus cy z free)

/-! ### BCD rotation (R315, R316) -/

/-- ROL4: the new operand and the new low nibble of AL, from the operand and AL. -/
def rol4 (t al : Byte) : Byte × BitVec 4 := (t.extractLsb' 0 4 ++ al.extractLsb' 0 4, t.extractLsb' 4 4)

/-- ROR4. -/
def ror4 (t al : Byte) : Byte × BitVec 4 := (al.extractLsb' 0 4 ++ t.extractLsb' 4 4, t.extractLsb' 0 4)

/-- The high nibble of AL is free afterwards; with AL itself the operand, all of AL is (log 21). A memory operand that is
AL's own byte of the on-chip RAM (R23) is no such case: the rule's order stands, the operand stored first and then AL, so the
low nibble of AL is the rule's digit of the old AL (DESIGN CHOICE, log 21). -/
def rotateDigit (e : RM Reg8) (f : Byte → Byte → Byte × BitVec 4) : M Unit := do
  if e = .reg .al then
    let free ← drawByte
    update fun s => s.setReg8 .al free
  else
    let d ← reads fun s => s.place e
    let t ← readPlace byteOp d
    let al ← reads fun s => s.reg8 .al
    writePlace byteOp d (f t al).1
    let free ← draw
    update fun s => s.setReg8 .al (free.extractLsb' 0 4 ++ (f t al).2)

/-! ### One meaning for each instruction -/

/-- ADJ4A (R301). -/
def execAdj4a (s : State) : Host.Outcome State Fault Refusal :=
  act (adjustPacked packedAdd) s

/-- ADJ4S (R302). -/
def execAdj4s (s : State) : Host.Outcome State Fault Refusal :=
  act (adjustPacked packedSub) s

/-- ADJBA (R303). -/
def execAdjba (s : State) : Host.Outcome State Fault Refusal :=
  act (adjustUnpacked true) s

/-- ADJBS (R304). -/
def execAdjbs (s : State) : Host.Outcome State Fault Refusal :=
  act (adjustUnpacked false) s

/-- CVTBD (R305). -/
def execCvtbd (s : State) : Host.Outcome State Fault Refusal :=
  act (do
    let a ← reads fun s => s.reg8 .al
    let free ← draw
    update fun s => (s.setReg8 .ah (BitVec.ofNat 8 (a.toNat / 10))).setReg8 .al (BitVec.ofNat 8 (a.toNat % 10))
    update fun s => s.setStatus maskStatus (convertStatus (BitVec.ofNat 8 (a.toNat % 10)) free)) s

/-- CVTDB (R306). -/
def execCvtdb (s : State) : Host.Outcome State Fault Refusal :=
  act (do
    let v ← reads fun s => s.reg8 .ah * 10 + s.reg8 .al
    let free ← draw
    update fun s => (s.setReg8 .al v).setReg8 .ah 0
    update fun s => s.setStatus maskStatus (convertStatus v free)) s

/-- ADD4S (R311). -/
def execAdd4s (s : State) : Host.Outcome State Fault Refusal :=
  act (bcdString bcdAdd true) s

/-- SUB4S (R312). -/
def execSub4s (s : State) : Host.Outcome State Fault Refusal :=
  act (bcdString bcdSub true) s

/-- CMP4S (R313). -/
def execCmp4s (s : State) : Host.Outcome State Fault Refusal :=
  act (bcdString bcdSub false) s

/-- ROL4 eb (R315). -/
def execRol4Eb (e : RM Reg8) (s : State) : Host.Outcome State Fault Refusal :=
  act (rotateDigit e rol4) s

/-- ROR4 eb (R316). -/
def execRor4Eb (e : RM Reg8) (s : State) : Host.Outcome State Fault Refusal :=
  act (rotateDigit e ror4) s

end Sys2Proof.Machine
end

