-- ==== Sys2Proof/Machine/BlockIo.lean ====
section
/-! DEFINITION. Block transfer, input and output, bit fields (R230 to R261). -/

namespace Sys2Proof.Machine

/-! ### Repeat prefixes (R230 to R234, R250, R257) -/

/-- CMPBK and CMPM, the block instructions whose repetition a flag can end. -/
def BlockOp.compares : BlockOp → Bool
  | .cmpbkb => true
  | .cmpbkw => true
  | .cmpmb => true
  | .cmpmw => true
  | _ => false

/-- INM and OUTM, the block instructions IBRK gates. -/
def BlockOp.isIo : BlockOp → Bool
  | .inmb => true
  | .inmw => true
  | .outmb => true
  | .outmw => true
  | _ => false

/-- REPC and REPNC, defined in front of CMPBK and CMPM only (R232, R233). -/
def Rep.comparesOnly : Rep → Bool
  | .repc => true
  | .repnc => true
  | _ => false

/-- The exit test of a repeat prefix, asked after a comparison (R230 to R233). -/
def State.repExits (s : State) : Rep → Bool
  | .rep => !s.flag .z
  | .repne => s.flag .z
  | .repc => !s.flag .cy
  | .repnc => s.flag .cy

/-- The I/O trap (R250, R509). -/
def ioTrap : M Unit := do
  raise 19 (← trapPc Config.ioTrapSavesNext)

/-- The test every I/O instruction begins with (R250). -/
def ifIoAllowed (body : M Unit) : M Unit := do
  if ← reads fun s => s.flag .ibrk then body else ioTrap

/-- Whether a repeated I/O instruction traps: IBRK = 0, and the count is not 0 or the spec's open choice says so
(R257, log 16). -/
def State.repeatedIoTraps (s : State) (b : BlockOp) : Bool :=
  b.isIo && !s.flag .ibrk && (s.reg16 .cw != 0 || Config.ioTrapAtZeroCount)

/-- A block instruction: its body once without a repeat prefix; under one, a single iteration of R234, the instruction
being resumed by the next step as long as R234 goes on (log 53). -/
def repeated (b : BlockOp) (body : M Unit) : M Unit := do
  match ← reads fun s => s.pre.rep with
  | none => if b.isIo then ifIoAllowed body else body
  | some p =>
    if p.comparesOnly && !b.compares then
      refuses .repcOnNonCompare
    else if ← reads fun s => s.repeatedIoTraps b then
      ioTrap
    else if ← reads fun s => s.reg16 .cw == 0 then
      update fun s => s.withResume none
    else
      body
      update fun s => s.setReg16 .cw (s.reg16 .cw - 1)
      update fun s =>
        s.withResume (if (b.compares && s.repExits p) || s.reg16 .cw == 0 then none else some (.block b))

/-! ### One element (R235, R240 to R244, R255, R256) -/

section
variable {w : Nat} {ρ : Type}

/-- MOVBK (R240). -/
def moveElement (k : Width w ρ) : M Unit := do
  let src ← sourceSeg
  let v ← k.readMem src (← reads fun s => s.reg16 .ix)
  let dst ← reads fun s => s.sreg .ds1
  k.writeMem dst (← reads fun s => s.reg16 .iy) v
  advance .ix k.bytes
  advance .iy k.bytes

/-- CMPBK: source element minus destination element (R241). -/
def compareElements (k : Width w ρ) : M Unit := do
  let src ← sourceSeg
  let a ← k.readMem src (← reads fun s => s.reg16 .ix)
  let dst ← reads fun s => s.sreg .ds1
  let b ← k.readMem dst (← reads fun s => s.reg16 .iy)
  update fun s => s.setStatus maskStatus (subStatus a b false)
  advance .ix k.bytes
  advance .iy k.bytes

/-- CMPM: accumulator minus element (R242). -/
def compareAcc (k : Width w ρ) : M Unit := do
  let dst ← reads fun s => s.sreg .ds1
  let b ← k.readMem dst (← reads fun s => s.reg16 .iy)
  let a ← getReg k k.acc
  update fun s => s.setStatus maskStatus (subStatus a b false)
  advance .iy k.bytes

/-- LDM (R243). -/
def loadElement (k : Width w ρ) : M Unit := do
  let src ← sourceSeg
  let v ← k.readMem src (← reads fun s => s.reg16 .ix)
  setReg k k.acc v
  advance .ix k.bytes

/-- STM (R244). -/
def storeElement (k : Width w ρ) : M Unit := do
  let dst ← reads fun s => s.sreg .ds1
  let v ← getReg k k.acc
  k.writeMem dst (← reads fun s => s.reg16 .iy) v
  advance .iy k.bytes

/-- INM (R255). -/
def inputElement (k : Width w ρ) : M Unit := do
  let v ← k.ioRead (← reads fun s => s.reg16 .dw)
  let dst ← reads fun s => s.sreg .ds1
  k.writeMem dst (← reads fun s => s.reg16 .iy) v
  advance .iy k.bytes

/-- OUTM (R256). -/
def outputElement (k : Width w ρ) : M Unit := do
  let src ← sourceSeg
  let v ← k.readMem src (← reads fun s => s.reg16 .ix)
  k.ioWrite (← reads fun s => s.reg16 .dw) v
  advance .ix k.bytes

/-! ### IN and OUT (R251 to R254) -/

/-- The accumulator from a port. -/
def input (k : Width w ρ) (port : Word) : M Unit := do
  let v ← k.ioRead port
  setReg k k.acc v

/-- The accumulator to a port. -/
def output (k : Width w ρ) (port : Word) : M Unit := do
  let v ← getReg k k.acc
  k.ioWrite port v

/-- The port in DW. -/
def inputDw (k : Width w ρ) : M Unit := do
  input k (← reads fun s => s.reg16 .dw)

def outputDw (k : Width w ρ) : M Unit := do
  output k (← reads fun s => s.reg16 .dw)

end

/-! ### Bit fields (R260, R261; log 23) -/

/-- The mask of `len` bits from bit `off` of a double word. -/
def fieldMask (off len : Nat) : BitVec 32 := BitVec.ofNat 32 ((2 ^ len - 1) * 2 ^ off)

/-- What INS and EXT leave besides the field: `next` modulo 16 in the offset register under the upper digit `high`, the
index advanced when the word boundary is reached, the six status flags undefined. -/
def finishField (index : Reg16) (offReg : Reg8) (next : Nat) (high : BitVec 4) : M Unit := do
  update fun s => s.setReg8 offReg (high ++ BitVec.ofNat 4 next)
  update fun s => if 16 ≤ next then s.setReg16 index (s.reg16 index + 2) else s
  let flags ← draw
  update fun s => s.setStatus maskStatus flags

/-- INS: `len = lenByte[3:0] + 1` bits of AW into the field at `DS1:IY`. Bits 7 to 4 of the offset register are free
afterwards (R260). DS1 and IY are read once: a first word stored over them does not redirect the second (DESIGN CHOICE,
log 59). -/
def insertField (offReg : Reg8) (lenByte : Byte) : M Unit := do
  let off ← reads fun s => (s.reg8 offReg).toNat % 16
  let len := lenByte.toNat % 16 + 1
  let seg ← reads fun s => s.sreg .ds1
  let iy ← reads fun s => s.reg16 .iy
  let lo ← readW seg iy
  let hi ← if 16 < off + len then readW seg (iy + 2) else pure 0
  let aw ← reads fun s => s.reg16 .aw
  let out : BitVec 32 := merge (hi ++ lo) (fieldMask off len) (aw.setWidth 32 <<< off)
  writeW seg iy (out.extractLsb' 0 16)
  if 16 < off + len then writeW seg (iy + 2) (out.extractLsb' 16 16) else pure ()
  let free ← draw
  finishField .iy offReg (off + len) (free.extractLsb' 0 4)

/-- EXT: the field at `srcseg:IX`, zero-extended, into AW; the offset register becomes `(off + len) mod 16`, its upper digit
0 (R261). -/
def extractField (offReg : Reg8) (lenByte : Byte) : M Unit := do
  let off ← reads fun s => (s.reg8 offReg).toNat % 16
  let len := lenByte.toNat % 16 + 1
  let seg ← sourceSeg
  let ix ← reads fun s => s.reg16 .ix
  let lo ← readW seg ix
  let hi ← if 16 < off + len then readW seg (ix + 2) else pure 0
  update fun s => s.setReg16 .aw (BitVec.ofNat 16 ((hi ++ lo : BitVec 32).toNat / 2 ^ off % 2 ^ len))
  finishField .ix offReg (off + len) 0

/-! ### One meaning for each instruction -/

/-- INMB (R255). -/
def execInmb (s : State) : Host.Outcome State Fault Refusal :=
  act (repeated .inmb (inputElement byteOp)) s

/-- INMW (R255). -/
def execInmw (s : State) : Host.Outcome State Fault Refusal :=
  act (repeated .inmw (inputElement wordOp)) s

/-- OUTMB (R256). -/
def execOutmb (s : State) : Host.Outcome State Fault Refusal :=
  act (repeated .outmb (outputElement byteOp)) s

/-- OUTMW (R256). -/
def execOutmw (s : State) : Host.Outcome State Fault Refusal :=
  act (repeated .outmw (outputElement wordOp)) s

/-- MOVBKB (R240). -/
def execMovbkb (s : State) : Host.Outcome State Fault Refusal :=
  act (repeated .movbkb (moveElement byteOp)) s

/-- MOVBKW (R240). -/
def execMovbkw (s : State) : Host.Outcome State Fault Refusal :=
  act (repeated .movbkw (moveElement wordOp)) s

/-- CMPBKB (R241). -/
def execCmpbkb (s : State) : Host.Outcome State Fault Refusal :=
  act (repeated .cmpbkb (compareElements byteOp)) s

/-- CMPBKW (R241). -/
def execCmpbkw (s : State) : Host.Outcome State Fault Refusal :=
  act (repeated .cmpbkw (compareElements wordOp)) s

/-- STMB (R244). -/
def execStmb (s : State) : Host.Outcome State Fault Refusal :=
  act (repeated .stmb (storeElement byteOp)) s

/-- STMW (R244). -/
def execStmw (s : State) : Host.Outcome State Fault Refusal :=
  act (repeated .stmw (storeElement wordOp)) s

/-- LDMB (R243). -/
def execLdmb (s : State) : Host.Outcome State Fault Refusal :=
  act (repeated .ldmb (loadElement byteOp)) s

/-- LDMW (R243). -/
def execLdmw (s : State) : Host.Outcome State Fault Refusal :=
  act (repeated .ldmw (loadElement wordOp)) s

/-- CMPMB (R242). -/
def execCmpmb (s : State) : Host.Outcome State Fault Refusal :=
  act (repeated .cmpmb (compareAcc byteOp)) s

/-- CMPMW (R242). -/
def execCmpmw (s : State) : Host.Outcome State Fault Refusal :=
  act (repeated .cmpmw (compareAcc wordOp)) s

/-- IN AL,imm8 (R251). -/
def execInAlImm8 (imm : Byte) (s : State) : Host.Outcome State Fault Refusal :=
  act (ifIoAllowed (input byteOp (imm.setWidth 16))) s

/-- IN AW,imm8 (R251). -/
def execInAwImm8 (imm : Byte) (s : State) : Host.Outcome State Fault Refusal :=
  act (ifIoAllowed (input wordOp (imm.setWidth 16))) s

/-- OUT imm8,AL (R253). -/
def execOutImm8Al (imm : Byte) (s : State) : Host.Outcome State Fault Refusal :=
  act (ifIoAllowed (output byteOp (imm.setWidth 16))) s

/-- OUT imm8,AW (R253). -/
def execOutImm8Aw (imm : Byte) (s : State) : Host.Outcome State Fault Refusal :=
  act (ifIoAllowed (output wordOp (imm.setWidth 16))) s

/-- IN AL,DW (R252). -/
def execInAlDw (s : State) : Host.Outcome State Fault Refusal :=
  act (ifIoAllowed (inputDw byteOp)) s

/-- IN AW,DW (R252). -/
def execInAwDw (s : State) : Host.Outcome State Fault Refusal :=
  act (ifIoAllowed (inputDw wordOp)) s

/-- OUT DW,AL (R254). -/
def execOutDwAl (s : State) : Host.Outcome State Fault Refusal :=
  act (ifIoAllowed (outputDw byteOp)) s

/-- OUT DW,AW (R254). -/
def execOutDwAw (s : State) : Host.Outcome State Fault Refusal :=
  act (ifIoAllowed (outputDw wordOp)) s

/-- INS reg8,reg8 (R260). -/
def execInsReg8Reg8 (off : Reg8) (len : Reg8) (s : State) : Host.Outcome State Fault Refusal :=
  act (do
    let n ← reads fun s => s.reg8 len
    insertField off n) s

/-- EXT reg8,reg8 (R261). -/
def execExtReg8Reg8 (off : Reg8) (len : Reg8) (s : State) : Host.Outcome State Fault Refusal :=
  act (do
    let n ← reads fun s => s.reg8 len
    extractField off n) s

/-- INS reg8,imm4 (R260). -/
def execInsReg8Imm4 (off : Reg8) (imm : Byte) (s : State) : Host.Outcome State Fault Refusal :=
  act (insertField off imm) s

/-- EXT reg8,imm4 (R261). -/
def execExtReg8Imm4 (off : Reg8) (imm : Byte) (s : State) : Host.Outcome State Fault Refusal :=
  act (extractField off imm) s

end Sys2Proof.Machine
end

