-- ==== Sys2Proof/Machine/Control.lean ====
section
/-! DEFINITION. Control transfer (R360 to R396). -/

namespace Sys2Proof.Machine

/-- PS and PC loaded (R363). -/
def jumpFar (seg off : Word) : M Unit := update fun s => (s.setSreg .ps seg).loadPc off

/-- The far pointer in memory: offset and segment (R365, R369). -/
def readFarPointer (m : MemOp) : M (Word × Word) := do
  let seg ← reads fun s => s.memSeg m
  let off ← reads fun s => s.ea m
  readPair seg off

/-- A far call: PS, then the offset of the next instruction are pushed (R368, R369). -/
def callFarTo (seg off : Word) : M Unit := do
  push16 (← reads fun s => s.sreg .ps)
  push16 (← reads State.pc)
  jumpFar seg off

/-- The bytes of arguments a return discards (R371, R373). -/
def discard (n : Word) : M Unit := update fun s => s.setReg16 .sp (s.reg16 .sp + n)

/-- The loop instructions: CW counted down, and the branch taken if CW is not 0 and the condition holds (R374 to R376). -/
def loopIf (cond : State → Bool) (disp : Byte) : M Unit := do
  update fun s => s.setReg16 .cw (s.reg16 .cw - 1)
  let taken ← reads fun s => s.reg16 .cw != 0 && cond s
  branchIf taken disp

/-! ### One meaning for each instruction -/

/-- BV short-label (R381). -/
def execBv (disp : Byte) (s : State) : Host.Outcome State Fault Refusal :=
  act (do
    let taken ← reads fun s => s.flag .v
    branchIf taken disp) s

/-- BNV short-label (R382). -/
def execBnv (disp : Byte) (s : State) : Host.Outcome State Fault Refusal :=
  act (do
    let taken ← reads fun s => !s.flag .v
    branchIf taken disp) s

/-- BC/BL short-label (R383). -/
def execBc (disp : Byte) (s : State) : Host.Outcome State Fault Refusal :=
  act (do
    let taken ← reads fun s => s.flag .cy
    branchIf taken disp) s

/-- BNC/BNL short-label (R384). -/
def execBnc (disp : Byte) (s : State) : Host.Outcome State Fault Refusal :=
  act (do
    let taken ← reads fun s => !s.flag .cy
    branchIf taken disp) s

/-- BE/BZ short-label (R385). -/
def execBe (disp : Byte) (s : State) : Host.Outcome State Fault Refusal :=
  act (do
    let taken ← reads fun s => s.flag .z
    branchIf taken disp) s

/-- BNE/BNZ short-label (R386). -/
def execBne (disp : Byte) (s : State) : Host.Outcome State Fault Refusal :=
  act (do
    let taken ← reads fun s => !s.flag .z
    branchIf taken disp) s

/-- BNH short-label (R387). -/
def execBnh (disp : Byte) (s : State) : Host.Outcome State Fault Refusal :=
  act (do
    let taken ← reads fun s => s.flag .cy || s.flag .z
    branchIf taken disp) s

/-- BH short-label (R388). -/
def execBh (disp : Byte) (s : State) : Host.Outcome State Fault Refusal :=
  act (do
    let taken ← reads fun s => !(s.flag .cy || s.flag .z)
    branchIf taken disp) s

/-- BN short-label (R389). -/
def execBn (disp : Byte) (s : State) : Host.Outcome State Fault Refusal :=
  act (do
    let taken ← reads fun s => s.flag .s
    branchIf taken disp) s

/-- BP short-label (R390). -/
def execBp (disp : Byte) (s : State) : Host.Outcome State Fault Refusal :=
  act (do
    let taken ← reads fun s => !s.flag .s
    branchIf taken disp) s

/-- BPE short-label (R391). -/
def execBpe (disp : Byte) (s : State) : Host.Outcome State Fault Refusal :=
  act (do
    let taken ← reads fun s => s.flag .p
    branchIf taken disp) s

/-- BPO short-label (R392). -/
def execBpo (disp : Byte) (s : State) : Host.Outcome State Fault Refusal :=
  act (do
    let taken ← reads fun s => !s.flag .p
    branchIf taken disp) s

/-- BLT short-label (R393). -/
def execBlt (disp : Byte) (s : State) : Host.Outcome State Fault Refusal :=
  act (do
    let taken ← reads fun s => s.flag .s ^^ s.flag .v
    branchIf taken disp) s

/-- BGE short-label (R394). -/
def execBge (disp : Byte) (s : State) : Host.Outcome State Fault Refusal :=
  act (do
    let taken ← reads fun s => !(s.flag .s ^^ s.flag .v)
    branchIf taken disp) s

/-- BLE short-label (R395). -/
def execBle (disp : Byte) (s : State) : Host.Outcome State Fault Refusal :=
  act (do
    let taken ← reads fun s => (s.flag .s ^^ s.flag .v) || s.flag .z
    branchIf taken disp) s

/-- BGT short-label (R396). -/
def execBgt (disp : Byte) (s : State) : Host.Outcome State Fault Refusal :=
  act (do
    let taken ← reads fun s => !((s.flag .s ^^ s.flag .v) || s.flag .z)
    branchIf taken disp) s

/-- CALL far-proc (R368). -/
def execCallFar (off : Word) (seg : Word) (s : State) : Host.Outcome State Fault Refusal :=
  act (callFarTo seg off) s

/-- RET pop-value (near) (R371). -/
def execRetNearPop (imm : Word) (s : State) : Host.Outcome State Fault Refusal :=
  act (do
    let target ← pop16
    discard imm
    update fun s => s.loadPc target) s

/-- RET (near) (R370). -/
def execRetNear (s : State) : Host.Outcome State Fault Refusal :=
  act (do
    let target ← pop16
    update fun s => s.loadPc target) s

/-- RET pop-value (far) (R373). -/
def execRetFarPop (imm : Word) (s : State) : Host.Outcome State Fault Refusal :=
  act (do
    let off ← pop16
    let seg ← pop16
    discard imm
    jumpFar seg off) s

/-- RET (far) (R372). -/
def execRetFar (s : State) : Host.Outcome State Fault Refusal :=
  act (do
    let off ← pop16
    let seg ← pop16
    jumpFar seg off) s

/-- DBNZNE short-label (R374). -/
def execDbnzne (disp : Byte) (s : State) : Host.Outcome State Fault Refusal :=
  act (loopIf (fun s => !s.flag .z) disp) s

/-- DBNZE short-label (R375). -/
def execDbnze (disp : Byte) (s : State) : Host.Outcome State Fault Refusal :=
  act (loopIf (fun s => s.flag .z) disp) s

/-- DBNZ short-label (R376). -/
def execDbnz (disp : Byte) (s : State) : Host.Outcome State Fault Refusal :=
  act (loopIf (fun _ => true) disp) s

/-- BCWZ short-label (R377). -/
def execBcwz (disp : Byte) (s : State) : Host.Outcome State Fault Refusal :=
  act (do
    let taken ← reads fun s => s.reg16 .cw == 0
    branchIf taken disp) s

/-- CALL near-proc (R366). -/
def execCallNear (disp : Word) (s : State) : Host.Outcome State Fault Refusal :=
  act (do
    let next ← reads State.pc
    push16 next
    update fun s => s.loadPc (next + disp)) s

/-- BR near-label (R361). -/
def execBrNear (disp : Word) (s : State) : Host.Outcome State Fault Refusal :=
  act (update fun s => s.loadPc (s.pc + disp)) s

/-- BR far-label (R363). -/
def execBrFar (off : Word) (seg : Word) (s : State) : Host.Outcome State Fault Refusal :=
  act (jumpFar seg off) s

/-- BR short-label (R362). -/
def execBrShort (disp : Byte) (s : State) : Host.Outcome State Fault Refusal :=
  act (branchShort disp) s

/-- CALL regptr16/memptr16 (R367). -/
def execCallEw (e : RM Reg16) (s : State) : Host.Outcome State Fault Refusal :=
  act (do
    let target ← readRM wordOp e
    push16 (← reads State.pc)
    update fun s => s.loadPc target) s

/-- CALL memptr32 (R369). -/
def execCallMem32 (m : MemOp) (s : State) : Host.Outcome State Fault Refusal :=
  act (do
    let target ← readFarPointer m
    callFarTo target.2 target.1) s

/-- BR regptr16/memptr16 (R364). -/
def execBrEw (e : RM Reg16) (s : State) : Host.Outcome State Fault Refusal :=
  act (do
    let target ← readRM wordOp e
    update fun s => s.loadPc target) s

/-- BR memptr32 (R365). -/
def execBrMem32 (m : MemOp) (s : State) : Host.Outcome State Fault Refusal :=
  act (do
    let target ← readFarPointer m
    jumpFar target.2 target.1) s

/-- BTCLR sfr,imm3,short-label (R380). -/
def execBtclr (sfr : Byte) (imm : Byte) (disp : Byte) (s : State) : Host.Outcome State Fault Refusal :=
  act (do
    let a ← reads fun s => (s.area ++ 0xF#4 ++ sfr : PhysAddr)
    let t ← readByte a
    let n := bitNumber 8 imm
    if t.getLsbD n then
      writeByte a (putBit t n false)
      branchShort disp
    else
      pure ()) s

end Sys2Proof.Machine
end

