-- ==== Sys2Proof/Machine/DataTransfer.lean ====
section
/-! DEFINITION. Data transfer: MOV, MOV sreg, the far pointer loads, LDEA, XCH, TRANS, the moves between PSW and AH (R200 to R213). -/

namespace Sys2Proof.Machine

section
variable {w : Nat} {ρ : Type}

/-- MOV r/m, reg (R201). -/
def movRmReg (k : Width w ρ) (e : RM ρ) (r : ρ) : M Unit := do
  let v ← getReg k r
  writeRM k e v

/-- MOV reg, r/m (R201). -/
def movRegRm (k : Width w ρ) (r : ρ) (e : RM ρ) : M Unit := do
  let v ← readRM k e
  setReg k r v

/-- The accumulator from a direct offset (R204). -/
def loadDirect (k : Width w ρ) (addr : Word) : M Unit := do
  let seg ← sourceSeg
  let v ← k.readMem seg addr
  setReg k k.acc v

/-- The accumulator to a direct offset (R204). -/
def storeDirect (k : Width w ρ) (addr : Word) : M Unit := do
  let seg ← sourceSeg
  let v ← getReg k k.acc
  k.writeMem seg addr v

/-- XCH: the place of the operand is fixed before either side is written (R210). -/
def xchRm (k : Width w ρ) (e : RM ρ) (r : ρ) : M Unit := do
  let d ← reads fun s => s.place e
  let t ← readPlace k d
  let v ← getReg k r
  writePlace k d v
  setReg k r t

end

/-- A far pointer load: both words are read before the register and the segment register are written (R207, R208). -/
def loadFar (sr : SReg) (r : Reg16) (m : MemOp) : M Unit := do
  let seg ← reads fun s => s.memSeg m
  let off ← reads fun s => s.ea m
  let p ← readPair seg off
  update fun s => (s.setReg16 r p.1).setSreg sr p.2

/-! ### One meaning for each instruction -/

/-- XCH eb,rb (R210). -/
def execXchEbRb (e : RM Reg8) (r : Reg8) (s : State) : Host.Outcome State Fault Refusal :=
  act (xchRm byteOp e r) s

/-- XCH ew,rw (R210). -/
def execXchEwRw (e : RM Reg16) (r : Reg16) (s : State) : Host.Outcome State Fault Refusal :=
  act (xchRm wordOp e r) s

/-- MOV eb,rb (R201). -/
def execMovEbRb (e : RM Reg8) (r : Reg8) (s : State) : Host.Outcome State Fault Refusal :=
  act (movRmReg byteOp e r) s

/-- MOV ew,rw (R201). -/
def execMovEwRw (e : RM Reg16) (r : Reg16) (s : State) : Host.Outcome State Fault Refusal :=
  act (movRmReg wordOp e r) s

/-- MOV rb,eb (R201). -/
def execMovRbEb (r : Reg8) (e : RM Reg8) (s : State) : Host.Outcome State Fault Refusal :=
  act (movRegRm byteOp r e) s

/-- MOV rw,ew (R201). -/
def execMovRwEw (r : Reg16) (e : RM Reg16) (s : State) : Host.Outcome State Fault Refusal :=
  act (movRegRm wordOp r e) s

/-- MOV ew,sreg (R206). -/
def execMovEwSreg (e : RM Reg16) (sr : SReg) (s : State) : Host.Outcome State Fault Refusal :=
  act (do
    let v ← reads fun s => s.sreg sr
    writeRM wordOp e v) s

/-- LDEA reg16,mem16 (R209). -/
def execLdea (r : Reg16) (m : MemOp) (s : State) : Host.Outcome State Fault Refusal :=
  act (update fun s => s.setReg16 r (s.ea m)) s

/-- MOV sreg,ew (R205). -/
def execMovSregEw (sr : SReg) (e : RM Reg16) (s : State) : Host.Outcome State Fault Refusal :=
  act (do
    let v ← readRM wordOp e
    update fun s => (s.setSreg sr v).protectBoundary) s

/-- XCH AW,reg16 (R210). -/
def execXchAwReg16 (r : Reg16) (s : State) : Host.Outcome State Fault Refusal :=
  act (xchRm wordOp (.reg .aw) r) s

/-- MOV PSW,AH (R213). -/
def execMovPswAh (s : State) : Host.Outcome State Fault Refusal :=
  act (update fun s => s.withPsw (s.psw.extractLsb' 8 8 ++ s.reg8 .ah)) s

/-- MOV AH,PSW (R212). -/
def execMovAhPsw (s : State) : Host.Outcome State Fault Refusal :=
  act (update fun s => s.setReg8 .ah (s.psw.extractLsb' 0 8)) s

/-- MOV AL,[addr16] (R204). -/
def execMovAlMem (addr : Word) (s : State) : Host.Outcome State Fault Refusal :=
  act (loadDirect byteOp addr) s

/-- MOV AW,[addr16] (R204). -/
def execMovAwMem (addr : Word) (s : State) : Host.Outcome State Fault Refusal :=
  act (loadDirect wordOp addr) s

/-- MOV [addr16],AL (R204). -/
def execMovMemAl (addr : Word) (s : State) : Host.Outcome State Fault Refusal :=
  act (storeDirect byteOp addr) s

/-- MOV [addr16],AW (R204). -/
def execMovMemAw (addr : Word) (s : State) : Host.Outcome State Fault Refusal :=
  act (storeDirect wordOp addr) s

/-- MOV reg8,imm8 (R203). -/
def execMovReg8Imm8 (r : Reg8) (imm : Byte) (s : State) : Host.Outcome State Fault Refusal :=
  act (setReg byteOp r imm) s

/-- MOV reg16,imm16 (R203). -/
def execMovReg16Imm16 (r : Reg16) (imm : Word) (s : State) : Host.Outcome State Fault Refusal :=
  act (setReg wordOp r imm) s

/-- MOV DS1,reg16,mem32 (R208). -/
def execMovDs1Mem32 (r : Reg16) (m : MemOp) (s : State) : Host.Outcome State Fault Refusal :=
  act (loadFar .ds1 r m) s

/-- MOV DS0,reg16,mem32 (R207). -/
def execMovDs0Mem32 (r : Reg16) (m : MemOp) (s : State) : Host.Outcome State Fault Refusal :=
  act (loadFar .ds0 r m) s

/-- MOV eb,imm8 (R202). -/
def execMovEbImm8 (e : RM Reg8) (imm : Byte) (s : State) : Host.Outcome State Fault Refusal :=
  act (writeRM byteOp e imm) s

/-- MOV ew,imm16 (R202). -/
def execMovEwImm16 (e : RM Reg16) (imm : Word) (s : State) : Host.Outcome State Fault Refusal :=
  act (writeRM wordOp e imm) s

/-- TRANS (R211). -/
def execTrans (s : State) : Host.Outcome State Fault Refusal :=
  act (do
    let seg ← sourceSeg
    let off ← reads fun s => s.reg16 .bw + (s.reg8 .al).setWidth 16
    let v ← readB seg off
    setReg byteOp .al v) s

end Sys2Proof.Machine
end

