-- ==== Sys2Proof/Machine/Logic.lean ====
section
/-! DEFINITION. Logic and bit manipulation (R320 to R333). -/

namespace Sys2Proof.Machine

section
variable {w : Nat} {ρ : Type}

/-- TEST1 (R330). -/
def testBit (k : Width w ρ) (e : RM ρ) (n : Nat) : M Unit := do
  let t ← readRM k e
  let free ← draw
  update fun s => s.setStatus maskStatus (testBitStatus (!t.getLsbD n) free)

def test1Cl (k : Width w ρ) (e : RM ρ) : M Unit := do
  testBit k e (← bitNumberCl w)

def test1Imm (k : Width w ρ) (e : RM ρ) (imm : Byte) : M Unit := testBit k e (bitNumber w imm)

/-- CLR1 (R331). -/
def clearBit (k : Width w ρ) (e : RM ρ) (n : Nat) : M Unit := modifyRM k e fun t => putBit t n false

def clr1Cl (k : Width w ρ) (e : RM ρ) : M Unit := do
  clearBit k e (← bitNumberCl w)

def clr1Imm (k : Width w ρ) (e : RM ρ) (imm : Byte) : M Unit := clearBit k e (bitNumber w imm)

/-- SET1 (R332). -/
def raiseBit (k : Width w ρ) (e : RM ρ) (n : Nat) : M Unit := modifyRM k e fun t => putBit t n true

def set1Cl (k : Width w ρ) (e : RM ρ) : M Unit := do
  raiseBit k e (← bitNumberCl w)

def set1Imm (k : Width w ρ) (e : RM ρ) (imm : Byte) : M Unit := raiseBit k e (bitNumber w imm)

/-- NOT1 (R333). -/
def invertBit (k : Width w ρ) (e : RM ρ) (n : Nat) : M Unit := modifyRM k e fun t => t ^^^ (1#w <<< n)

def not1Cl (k : Width w ρ) (e : RM ρ) : M Unit := do
  invertBit k e (← bitNumberCl w)

def not1Imm (k : Width w ρ) (e : RM ρ) (imm : Byte) : M Unit := invertBit k e (bitNumber w imm)

end

/-! ### One meaning for each instruction -/

/-- OR eb,rb (R322). -/
def execOrEbRb (e : RM Reg8) (r : Reg8) (s : State) : Host.Outcome State Fault Refusal :=
  act (aluRmReg byteOp .or e r) s

/-- OR ew,rw (R322). -/
def execOrEwRw (e : RM Reg16) (r : Reg16) (s : State) : Host.Outcome State Fault Refusal :=
  act (aluRmReg wordOp .or e r) s

/-- OR rb,eb (R322). -/
def execOrRbEb (r : Reg8) (e : RM Reg8) (s : State) : Host.Outcome State Fault Refusal :=
  act (aluRegRm byteOp .or r e) s

/-- OR rw,ew (R322). -/
def execOrRwEw (r : Reg16) (e : RM Reg16) (s : State) : Host.Outcome State Fault Refusal :=
  act (aluRegRm wordOp .or r e) s

/-- OR AL,imm8 (R322). -/
def execOrAlImm8 (imm : Byte) (s : State) : Host.Outcome State Fault Refusal :=
  act (aluAccImm byteOp .or imm) s

/-- OR AW,imm16 (R322). -/
def execOrAwImm16 (imm : Word) (s : State) : Host.Outcome State Fault Refusal :=
  act (aluAccImm wordOp .or imm) s

/-- OR eb,imm8 (R322). -/
def execOrEbImm8 (e : RM Reg8) (imm : Byte) (s : State) : Host.Outcome State Fault Refusal :=
  act (aluRmImm byteOp .or e imm) s

/-- OR ew,imm16 (R322). -/
def execOrEwImm16 (e : RM Reg16) (imm : Word) (s : State) : Host.Outcome State Fault Refusal :=
  act (aluRmImm wordOp .or e imm) s

/-- OR eb,imm8 (duplicate opcode 82H) (R322). -/
def execOrEbImm8Dup (e : RM Reg8) (imm : Byte) (s : State) : Host.Outcome State Fault Refusal :=
  act (aluRmImm byteOp .or e imm) s

/-- OR ew,sext imm8 (R322). -/
def execOrEwSextImm8 (e : RM Reg16) (imm : Byte) (s : State) : Host.Outcome State Fault Refusal :=
  act (aluRmImm wordOp .or e (imm.signExtend 16)) s

/-- AND eb,rb (R321). -/
def execAndEbRb (e : RM Reg8) (r : Reg8) (s : State) : Host.Outcome State Fault Refusal :=
  act (aluRmReg byteOp .and e r) s

/-- AND ew,rw (R321). -/
def execAndEwRw (e : RM Reg16) (r : Reg16) (s : State) : Host.Outcome State Fault Refusal :=
  act (aluRmReg wordOp .and e r) s

/-- AND rb,eb (R321). -/
def execAndRbEb (r : Reg8) (e : RM Reg8) (s : State) : Host.Outcome State Fault Refusal :=
  act (aluRegRm byteOp .and r e) s

/-- AND rw,ew (R321). -/
def execAndRwEw (r : Reg16) (e : RM Reg16) (s : State) : Host.Outcome State Fault Refusal :=
  act (aluRegRm wordOp .and r e) s

/-- AND AL,imm8 (R321). -/
def execAndAlImm8 (imm : Byte) (s : State) : Host.Outcome State Fault Refusal :=
  act (aluAccImm byteOp .and imm) s

/-- AND AW,imm16 (R321). -/
def execAndAwImm16 (imm : Word) (s : State) : Host.Outcome State Fault Refusal :=
  act (aluAccImm wordOp .and imm) s

/-- AND eb,imm8 (R321). -/
def execAndEbImm8 (e : RM Reg8) (imm : Byte) (s : State) : Host.Outcome State Fault Refusal :=
  act (aluRmImm byteOp .and e imm) s

/-- AND ew,imm16 (R321). -/
def execAndEwImm16 (e : RM Reg16) (imm : Word) (s : State) : Host.Outcome State Fault Refusal :=
  act (aluRmImm wordOp .and e imm) s

/-- AND eb,imm8 (duplicate opcode 82H) (R321). -/
def execAndEbImm8Dup (e : RM Reg8) (imm : Byte) (s : State) : Host.Outcome State Fault Refusal :=
  act (aluRmImm byteOp .and e imm) s

/-- AND ew,sext imm8 (R321). -/
def execAndEwSextImm8 (e : RM Reg16) (imm : Byte) (s : State) : Host.Outcome State Fault Refusal :=
  act (aluRmImm wordOp .and e (imm.signExtend 16)) s

/-- XOR eb,rb (R323). -/
def execXorEbRb (e : RM Reg8) (r : Reg8) (s : State) : Host.Outcome State Fault Refusal :=
  act (aluRmReg byteOp .xor e r) s

/-- XOR ew,rw (R323). -/
def execXorEwRw (e : RM Reg16) (r : Reg16) (s : State) : Host.Outcome State Fault Refusal :=
  act (aluRmReg wordOp .xor e r) s

/-- XOR rb,eb (R323). -/
def execXorRbEb (r : Reg8) (e : RM Reg8) (s : State) : Host.Outcome State Fault Refusal :=
  act (aluRegRm byteOp .xor r e) s

/-- XOR rw,ew (R323). -/
def execXorRwEw (r : Reg16) (e : RM Reg16) (s : State) : Host.Outcome State Fault Refusal :=
  act (aluRegRm wordOp .xor r e) s

/-- XOR AL,imm8 (R323). -/
def execXorAlImm8 (imm : Byte) (s : State) : Host.Outcome State Fault Refusal :=
  act (aluAccImm byteOp .xor imm) s

/-- XOR AW,imm16 (R323). -/
def execXorAwImm16 (imm : Word) (s : State) : Host.Outcome State Fault Refusal :=
  act (aluAccImm wordOp .xor imm) s

/-- XOR eb,imm8 (R323). -/
def execXorEbImm8 (e : RM Reg8) (imm : Byte) (s : State) : Host.Outcome State Fault Refusal :=
  act (aluRmImm byteOp .xor e imm) s

/-- XOR ew,imm16 (R323). -/
def execXorEwImm16 (e : RM Reg16) (imm : Word) (s : State) : Host.Outcome State Fault Refusal :=
  act (aluRmImm wordOp .xor e imm) s

/-- XOR eb,imm8 (duplicate opcode 82H) (R323). -/
def execXorEbImm8Dup (e : RM Reg8) (imm : Byte) (s : State) : Host.Outcome State Fault Refusal :=
  act (aluRmImm byteOp .xor e imm) s

/-- XOR ew,sext imm8 (R323). -/
def execXorEwSextImm8 (e : RM Reg16) (imm : Byte) (s : State) : Host.Outcome State Fault Refusal :=
  act (aluRmImm wordOp .xor e (imm.signExtend 16)) s

/-- TEST eb,rb (R324). -/
def execTestEbRb (e : RM Reg8) (r : Reg8) (s : State) : Host.Outcome State Fault Refusal :=
  act (aluRmReg byteOp .test e r) s

/-- TEST ew,rw (R324). -/
def execTestEwRw (e : RM Reg16) (r : Reg16) (s : State) : Host.Outcome State Fault Refusal :=
  act (aluRmReg wordOp .test e r) s

/-- TEST AL,imm8 (R324). -/
def execTestAlImm8 (imm : Byte) (s : State) : Host.Outcome State Fault Refusal :=
  act (aluAccImm byteOp .test imm) s

/-- TEST AW,imm16 (R324). -/
def execTestAwImm16 (imm : Word) (s : State) : Host.Outcome State Fault Refusal :=
  act (aluAccImm wordOp .test imm) s

/-- TEST eb,imm8 (R324). -/
def execTestEbImm8 (e : RM Reg8) (imm : Byte) (s : State) : Host.Outcome State Fault Refusal :=
  act (aluRmImm byteOp .test e imm) s

/-- NOT eb (R325). -/
def execNotEb (e : RM Reg8) (s : State) : Host.Outcome State Fault Refusal :=
  act (modifyRM byteOp e fun t => ~~~t) s

/-- TEST ew,imm16 (R324). -/
def execTestEwImm16 (e : RM Reg16) (imm : Word) (s : State) : Host.Outcome State Fault Refusal :=
  act (aluRmImm wordOp .test e imm) s

/-- NOT ew (R325). -/
def execNotEw (e : RM Reg16) (s : State) : Host.Outcome State Fault Refusal :=
  act (modifyRM wordOp e fun t => ~~~t) s

/-- TEST1 eb,CL (R330). -/
def execTest1EbCl (e : RM Reg8) (s : State) : Host.Outcome State Fault Refusal :=
  act (test1Cl byteOp e) s

/-- TEST1 ew,CL (R330). -/
def execTest1EwCl (e : RM Reg16) (s : State) : Host.Outcome State Fault Refusal :=
  act (test1Cl wordOp e) s

/-- TEST1 eb,imm3 (R330). -/
def execTest1EbImm3 (e : RM Reg8) (imm : Byte) (s : State) : Host.Outcome State Fault Refusal :=
  act (test1Imm byteOp e imm) s

/-- TEST1 ew,imm4 (R330). -/
def execTest1EwImm4 (e : RM Reg16) (imm : Byte) (s : State) : Host.Outcome State Fault Refusal :=
  act (test1Imm wordOp e imm) s

/-- CLR1 eb,CL (R331). -/
def execClr1EbCl (e : RM Reg8) (s : State) : Host.Outcome State Fault Refusal :=
  act (clr1Cl byteOp e) s

/-- CLR1 ew,CL (R331). -/
def execClr1EwCl (e : RM Reg16) (s : State) : Host.Outcome State Fault Refusal :=
  act (clr1Cl wordOp e) s

/-- CLR1 eb,imm3 (R331). -/
def execClr1EbImm3 (e : RM Reg8) (imm : Byte) (s : State) : Host.Outcome State Fault Refusal :=
  act (clr1Imm byteOp e imm) s

/-- CLR1 ew,imm4 (R331). -/
def execClr1EwImm4 (e : RM Reg16) (imm : Byte) (s : State) : Host.Outcome State Fault Refusal :=
  act (clr1Imm wordOp e imm) s

/-- SET1 eb,CL (R332). -/
def execSet1EbCl (e : RM Reg8) (s : State) : Host.Outcome State Fault Refusal :=
  act (set1Cl byteOp e) s

/-- SET1 ew,CL (R332). -/
def execSet1EwCl (e : RM Reg16) (s : State) : Host.Outcome State Fault Refusal :=
  act (set1Cl wordOp e) s

/-- SET1 eb,imm3 (R332). -/
def execSet1EbImm3 (e : RM Reg8) (imm : Byte) (s : State) : Host.Outcome State Fault Refusal :=
  act (set1Imm byteOp e imm) s

/-- SET1 ew,imm4 (R332). -/
def execSet1EwImm4 (e : RM Reg16) (imm : Byte) (s : State) : Host.Outcome State Fault Refusal :=
  act (set1Imm wordOp e imm) s

/-- NOT1 eb,CL (R333). -/
def execNot1EbCl (e : RM Reg8) (s : State) : Host.Outcome State Fault Refusal :=
  act (not1Cl byteOp e) s

/-- NOT1 ew,CL (R333). -/
def execNot1EwCl (e : RM Reg16) (s : State) : Host.Outcome State Fault Refusal :=
  act (not1Cl wordOp e) s

/-- NOT1 eb,imm3 (R333). -/
def execNot1EbImm3 (e : RM Reg8) (imm : Byte) (s : State) : Host.Outcome State Fault Refusal :=
  act (not1Imm byteOp e imm) s

/-- NOT1 ew,imm4 (R333). -/
def execNot1EwImm4 (e : RM Reg16) (imm : Byte) (s : State) : Host.Outcome State Fault Refusal :=
  act (not1Imm wordOp e imm) s

end Sys2Proof.Machine
end

