-- ==== Sys2Proof/Machine/Prefix.lean ====
section
/-! DEFINITION. The prefixes, each a step of its own (R164, R230 to R233, R445, R457; log 7). -/

namespace Sys2Proof.Machine

/-- A segment override; a second one has no meaning (R164, R457, log 32). -/
def segmentPrefix (sr : SReg) : M Unit := do
  if ← reads fun s => s.pre.seg.isSome then
    refuses .repeatedPrefix
  else
    update fun s => s.withPre { s.pre with seg := some sr }

/-- A repeat prefix. -/
def repeatPrefix (p : Rep) : M Unit := do
  if ← reads fun s => s.pre.rep.isSome then
    refuses .repeatedPrefix
  else
    update fun s => s.withPre { s.pre with rep := some p }

/-- BUSLOCK (R445): in a model of one agent nothing can interleave, so the mark is its whole effect (log 49). -/
def lockPrefix : M Unit := do
  if ← reads fun s => s.pre.lock then
    refuses .repeatedPrefix
  else
    update fun s => s.withPre { s.pre with lock := true }

/-! ### One meaning for each instruction -/

/-- DS1: (segment override prefix) (R457). -/
def execPrefixDs1 (s : State) : Host.Outcome State Fault Refusal :=
  act (segmentPrefix .ds1) s

/-- PS: (segment override prefix) (R457). -/
def execPrefixPs (s : State) : Host.Outcome State Fault Refusal :=
  act (segmentPrefix .ps) s

/-- SS: (segment override prefix) (R457). -/
def execPrefixSs (s : State) : Host.Outcome State Fault Refusal :=
  act (segmentPrefix .ss) s

/-- DS0: (segment override prefix) (R457). -/
def execPrefixDs0 (s : State) : Host.Outcome State Fault Refusal :=
  act (segmentPrefix .ds0) s

/-- REPNC (prefix) (R233). -/
def execPrefixRepnc (s : State) : Host.Outcome State Fault Refusal :=
  act (repeatPrefix .repnc) s

/-- REPC (prefix) (R232). -/
def execPrefixRepc (s : State) : Host.Outcome State Fault Refusal :=
  act (repeatPrefix .repc) s

/-- BUSLOCK (prefix) (R445). -/
def execPrefixBuslock (s : State) : Host.Outcome State Fault Refusal :=
  act lockPrefix s

/-- REPNE/REPNZ (prefix) (R231). -/
def execPrefixRepne (s : State) : Host.Outcome State Fault Refusal :=
  act (repeatPrefix .repne) s

/-- REP/REPE/REPZ (prefix) (R230). -/
def execPrefixRep (s : State) : Host.Outcome State Fault Refusal :=
  act (repeatPrefix .rep) s

end Sys2Proof.Machine
end

