-- ==== Sys2Proof/Machine/Shift.lean ====
section
/-! DEFINITION. Shifts and rotates (R340 to R349). -/

namespace Sys2Proof.Machine

/-- ROL eb,imm8 (R346). -/
def execRolEbImm8 (e : RM Reg8) (imm : Byte) (s : State) : Host.Outcome State Fault Refusal :=
  act (shiftByImm byteOp .rol e imm) s

/-- ROR eb,imm8 (R347). -/
def execRorEbImm8 (e : RM Reg8) (imm : Byte) (s : State) : Host.Outcome State Fault Refusal :=
  act (shiftByImm byteOp .ror e imm) s

/-- ROLC eb,imm8 (R348). -/
def execRolcEbImm8 (e : RM Reg8) (imm : Byte) (s : State) : Host.Outcome State Fault Refusal :=
  act (shiftByImm byteOp .rolc e imm) s

/-- RORC eb,imm8 (R349). -/
def execRorcEbImm8 (e : RM Reg8) (imm : Byte) (s : State) : Host.Outcome State Fault Refusal :=
  act (shiftByImm byteOp .rorc e imm) s

/-- SHL eb,imm8 (R341). -/
def execShlEbImm8 (e : RM Reg8) (imm : Byte) (s : State) : Host.Outcome State Fault Refusal :=
  act (shiftByImm byteOp .shl e imm) s

/-- SHR eb,imm8 (R342). -/
def execShrEbImm8 (e : RM Reg8) (imm : Byte) (s : State) : Host.Outcome State Fault Refusal :=
  act (shiftByImm byteOp .shr e imm) s

/-- SHRA eb,imm8 (R343). -/
def execShraEbImm8 (e : RM Reg8) (imm : Byte) (s : State) : Host.Outcome State Fault Refusal :=
  act (shiftByImm byteOp .shra e imm) s

/-- ROL ew,imm8 (R346). -/
def execRolEwImm8 (e : RM Reg16) (imm : Byte) (s : State) : Host.Outcome State Fault Refusal :=
  act (shiftByImm wordOp .rol e imm) s

/-- ROR ew,imm8 (R347). -/
def execRorEwImm8 (e : RM Reg16) (imm : Byte) (s : State) : Host.Outcome State Fault Refusal :=
  act (shiftByImm wordOp .ror e imm) s

/-- ROLC ew,imm8 (R348). -/
def execRolcEwImm8 (e : RM Reg16) (imm : Byte) (s : State) : Host.Outcome State Fault Refusal :=
  act (shiftByImm wordOp .rolc e imm) s

/-- RORC ew,imm8 (R349). -/
def execRorcEwImm8 (e : RM Reg16) (imm : Byte) (s : State) : Host.Outcome State Fault Refusal :=
  act (shiftByImm wordOp .rorc e imm) s

/-- SHL ew,imm8 (R341). -/
def execShlEwImm8 (e : RM Reg16) (imm : Byte) (s : State) : Host.Outcome State Fault Refusal :=
  act (shiftByImm wordOp .shl e imm) s

/-- SHR ew,imm8 (R342). -/
def execShrEwImm8 (e : RM Reg16) (imm : Byte) (s : State) : Host.Outcome State Fault Refusal :=
  act (shiftByImm wordOp .shr e imm) s

/-- SHRA ew,imm8 (R343). -/
def execShraEwImm8 (e : RM Reg16) (imm : Byte) (s : State) : Host.Outcome State Fault Refusal :=
  act (shiftByImm wordOp .shra e imm) s

/-- ROL eb,1 (R346). -/
def execRolEb1 (e : RM Reg8) (s : State) : Host.Outcome State Fault Refusal :=
  act (shiftOnce byteOp .rol e) s

/-- ROR eb,1 (R347). -/
def execRorEb1 (e : RM Reg8) (s : State) : Host.Outcome State Fault Refusal :=
  act (shiftOnce byteOp .ror e) s

/-- ROLC eb,1 (R348). -/
def execRolcEb1 (e : RM Reg8) (s : State) : Host.Outcome State Fault Refusal :=
  act (shiftOnce byteOp .rolc e) s

/-- RORC eb,1 (R349). -/
def execRorcEb1 (e : RM Reg8) (s : State) : Host.Outcome State Fault Refusal :=
  act (shiftOnce byteOp .rorc e) s

/-- SHL eb,1 (R341). -/
def execShlEb1 (e : RM Reg8) (s : State) : Host.Outcome State Fault Refusal :=
  act (shiftOnce byteOp .shl e) s

/-- SHR eb,1 (R342). -/
def execShrEb1 (e : RM Reg8) (s : State) : Host.Outcome State Fault Refusal :=
  act (shiftOnce byteOp .shr e) s

/-- SHRA eb,1 (R343). -/
def execShraEb1 (e : RM Reg8) (s : State) : Host.Outcome State Fault Refusal :=
  act (shiftOnce byteOp .shra e) s

/-- ROL ew,1 (R346). -/
def execRolEw1 (e : RM Reg16) (s : State) : Host.Outcome State Fault Refusal :=
  act (shiftOnce wordOp .rol e) s

/-- ROR ew,1 (R347). -/
def execRorEw1 (e : RM Reg16) (s : State) : Host.Outcome State Fault Refusal :=
  act (shiftOnce wordOp .ror e) s

/-- ROLC ew,1 (R348). -/
def execRolcEw1 (e : RM Reg16) (s : State) : Host.Outcome State Fault Refusal :=
  act (shiftOnce wordOp .rolc e) s

/-- RORC ew,1 (R349). -/
def execRorcEw1 (e : RM Reg16) (s : State) : Host.Outcome State Fault Refusal :=
  act (shiftOnce wordOp .rorc e) s

/-- SHL ew,1 (R341). -/
def execShlEw1 (e : RM Reg16) (s : State) : Host.Outcome State Fault Refusal :=
  act (shiftOnce wordOp .shl e) s

/-- SHR ew,1 (R342). -/
def execShrEw1 (e : RM Reg16) (s : State) : Host.Outcome State Fault Refusal :=
  act (shiftOnce wordOp .shr e) s

/-- SHRA ew,1 (R343). -/
def execShraEw1 (e : RM Reg16) (s : State) : Host.Outcome State Fault Refusal :=
  act (shiftOnce wordOp .shra e) s

/-- ROL eb,CL (R346). -/
def execRolEbCl (e : RM Reg8) (s : State) : Host.Outcome State Fault Refusal :=
  act (shiftByCl byteOp .rol e) s

/-- ROR eb,CL (R347). -/
def execRorEbCl (e : RM Reg8) (s : State) : Host.Outcome State Fault Refusal :=
  act (shiftByCl byteOp .ror e) s

/-- ROLC eb,CL (R348). -/
def execRolcEbCl (e : RM Reg8) (s : State) : Host.Outcome State Fault Refusal :=
  act (shiftByCl byteOp .rolc e) s

/-- RORC eb,CL (R349). -/
def execRorcEbCl (e : RM Reg8) (s : State) : Host.Outcome State Fault Refusal :=
  act (shiftByCl byteOp .rorc e) s

/-- SHL eb,CL (R341). -/
def execShlEbCl (e : RM Reg8) (s : State) : Host.Outcome State Fault Refusal :=
  act (shiftByCl byteOp .shl e) s

/-- SHR eb,CL (R342). -/
def execShrEbCl (e : RM Reg8) (s : State) : Host.Outcome State Fault Refusal :=
  act (shiftByCl byteOp .shr e) s

/-- SHRA eb,CL (R343). -/
def execShraEbCl (e : RM Reg8) (s : State) : Host.Outcome State Fault Refusal :=
  act (shiftByCl byteOp .shra e) s

/-- ROL ew,CL (R346). -/
def execRolEwCl (e : RM Reg16) (s : State) : Host.Outcome State Fault Refusal :=
  act (shiftByCl wordOp .rol e) s

/-- ROR ew,CL (R347). -/
def execRorEwCl (e : RM Reg16) (s : State) : Host.Outcome State Fault Refusal :=
  act (shiftByCl wordOp .ror e) s

/-- ROLC ew,CL (R348). -/
def execRolcEwCl (e : RM Reg16) (s : State) : Host.Outcome State Fault Refusal :=
  act (shiftByCl wordOp .rolc e) s

/-- RORC ew,CL (R349). -/
def execRorcEwCl (e : RM Reg16) (s : State) : Host.Outcome State Fault Refusal :=
  act (shiftByCl wordOp .rorc e) s

/-- SHL ew,CL (R341). -/
def execShlEwCl (e : RM Reg16) (s : State) : Host.Outcome State Fault Refusal :=
  act (shiftByCl wordOp .shl e) s

/-- SHR ew,CL (R342). -/
def execShrEwCl (e : RM Reg16) (s : State) : Host.Outcome State Fault Refusal :=
  act (shiftByCl wordOp .shr e) s

/-- SHRA ew,CL (R343). -/
def execShraEwCl (e : RM Reg16) (s : State) : Host.Outcome State Fault Refusal :=
  act (shiftByCl wordOp .shra e) s

end Sys2Proof.Machine
end

