-- ==== Sys2Proof/Machine/Stack.lean ====
section
/-! DEFINITION. Stack instructions (R400 to R415). -/

namespace Sys2Proof.Machine

/-- PUSH of a register or memory word. What PUSH SP stores is open (R402, R406, log 12). -/
def pushRm (e : RM Reg16) : M Unit := do
  if e = .reg .sp then
    let old ← reads fun s => s.reg16 .sp
    push16 (if Config.pushSpStoresNew then old - 2 else old)
  else
    push16 (← readRM wordOp e)

/-- PUSH sreg (R404). -/
def pushSreg (sr : SReg) : M Unit := do
  push16 (← reads fun s => s.sreg sr)

/-- POP sreg (R405): no interrupt and no single-step trap before the next instruction has run (R517). -/
def popSreg (sr : SReg) : M Unit := do
  let v ← pop16
  update fun s => (s.setSreg sr v).protectBoundary

/-- PUSH of a 16-bit register by itself, as PUSH R uses it. -/
def pushReg (r : Reg16) : M Unit := do
  push16 (← reads fun s => s.reg16 r)

/-- POP of a 16-bit register by itself, as POP R uses it. -/
def popReg (r : Reg16) : M Unit := do
  let v ← pop16
  update fun s => s.setReg16 r v

/-- PUSH R: the SP stored is the one before the instruction (R412). -/
def pushAll : M Unit := do
  let old ← reads fun s => s.reg16 .sp
  pushReg .aw
  pushReg .cw
  pushReg .dw
  pushReg .bw
  push16 old
  pushReg .bp
  pushReg .ix
  pushReg .iy

/-- POP R: SP is not loaded from the stack (R413). -/
def popAll : M Unit := do
  popReg .iy
  popReg .ix
  popReg .bp
  let _ ← pop16
  popReg .bw
  popReg .dw
  popReg .cw
  popReg .aw

/-- The level of PREPARE in effect; above 31 the spec leaves it open (R414, log 13). -/
def prepareLevel (level : Byte) : Nat :=
  if level.toNat < 32 then level.toNat
  else if Config.prepareLevelMasked then level.toNat % 32 else level.toNat

/-- `n` times: BP down by two, the word there pushed (R414). -/
def copyFramePointers : Nat → M Unit
  | 0 => pure ()
  | n + 1 => do
    update fun s => s.setReg16 .bp (s.reg16 .bp - 2)
    let seg ← reads fun s => s.sreg .ss
    let off ← reads fun s => s.reg16 .bp
    push16 (← readW seg off)
    copyFramePointers n

/-- PREPARE (R414). -/
def prepareFrame (size : Word) (level : Byte) : M Unit := do
  pushReg .bp
  let frame ← reads fun s => s.reg16 .sp
  if prepareLevel level = 0 then
    pure ()
  else
    copyFramePointers (prepareLevel level - 1)
    push16 frame
  update fun s => s.setReg16 .bp frame
  update fun s => s.setReg16 .sp (s.reg16 .sp - size)

/-! ### One meaning for each instruction -/

/-- PUSH DS1 (R404). -/
def execPushDs1 (s : State) : Host.Outcome State Fault Refusal :=
  act (pushSreg .ds1) s

/-- PUSH PS (R404). -/
def execPushPs (s : State) : Host.Outcome State Fault Refusal :=
  act (pushSreg .ps) s

/-- PUSH SS (R404). -/
def execPushSs (s : State) : Host.Outcome State Fault Refusal :=
  act (pushSreg .ss) s

/-- PUSH DS0 (R404). -/
def execPushDs0 (s : State) : Host.Outcome State Fault Refusal :=
  act (pushSreg .ds0) s

/-- POP DS1 (R405). -/
def execPopDs1 (s : State) : Host.Outcome State Fault Refusal :=
  act (popSreg .ds1) s

/-- POP SS (R405). -/
def execPopSs (s : State) : Host.Outcome State Fault Refusal :=
  act (popSreg .ss) s

/-- POP DS0 (R405). -/
def execPopDs0 (s : State) : Host.Outcome State Fault Refusal :=
  act (popSreg .ds0) s

/-- PUSH reg16 (R402). -/
def execPushReg16 (r : Reg16) (s : State) : Host.Outcome State Fault Refusal :=
  act (pushRm (.reg r)) s

/-- POP reg16 (R403). -/
def execPopReg16 (r : Reg16) (s : State) : Host.Outcome State Fault Refusal :=
  act (do
    let v ← pop16
    setReg wordOp r v) s

/-- PUSH R (R412). -/
def execPushR (s : State) : Host.Outcome State Fault Refusal :=
  act pushAll s

/-- POP R (R413). -/
def execPopR (s : State) : Host.Outcome State Fault Refusal :=
  act popAll s

/-- PUSH imm16 (R410). -/
def execPushImm16 (imm : Word) (s : State) : Host.Outcome State Fault Refusal :=
  act (push16 imm) s

/-- PUSH imm8 (R411). -/
def execPushImm8 (imm : Byte) (s : State) : Host.Outcome State Fault Refusal :=
  act (push16 (imm.signExtend 16)) s

/-- POP ew (R407). -/
def execPopEw (e : RM Reg16) (s : State) : Host.Outcome State Fault Refusal :=
  act (do
    let d ← reads fun s => s.place e
    let v ← pop16
    writePlace wordOp d v) s

/-- PUSH PSW (R408). -/
def execPushPsw (s : State) : Host.Outcome State Fault Refusal :=
  act (do
    push16 (← reads State.psw)) s

/-- POP PSW (R409). -/
def execPopPsw (s : State) : Host.Outcome State Fault Refusal :=
  act (do
    let image ← pop16
    if bit15 image then update fun s => s.withPsw (popImage s.psw image) else refuses .psw15Zero) s

/-- PREPARE imm16,imm8 (R414). -/
def execPrepare (size : Word) (level : Byte) (s : State) : Host.Outcome State Fault Refusal :=
  act (prepareFrame size level) s

/-- DISPOSE (R415). -/
def execDispose (s : State) : Host.Outcome State Fault Refusal :=
  act (do
    update fun s => s.setReg16 .sp (s.reg16 .bp)
    let v ← pop16
    setReg wordOp .bp v) s

/-- PUSH ew (R406). -/
def execPushEw (e : RM Reg16) (s : State) : Host.Outcome State Fault Refusal :=
  act (pushRm e) s

end Sys2Proof.Machine
end

