-- ==== Sys2Proof/Machine/System.lean ====
section
/-! DEFINITION. Breaks, the return from interrupt, CHKIND, HALT, STOP, FPO, NOP, POLL and the flag instructions (R421 to R456). -/

namespace Sys2Proof.Machine

/-- CHKIND: both bounds are inclusive, the comparisons signed (R425). -/
def checkIndex (r : Reg16) (m : MemOp) : M Unit := do
  let seg ← reads fun s => s.memSeg m
  let off ← reads fun s => s.ea m
  let bounds ← readPair seg off
  let x ← reads fun s => s.reg16 r
  if x.toInt < bounds.1.toInt ∨ bounds.2.toInt < x.toInt then
    raise 5 (← trapPc Config.chkindSavesNext)
  else
    pure ()

/-- FPO1 and FPO2: the trap, no operand read (R446, R447). -/
def floatingPointTrap : M Unit := do
  raise 7 (← trapPc Config.fpoSavesNext)

/-- POLL: the level of the pin is free. While it is inactive the instruction goes on with the next step, and interrupts
are accepted as between instructions (R449, log 24). -/
def pollPin : M Unit := do
  let level ← draw
  if level.getLsbD 0 then
    update fun s => s.withResume none
  else
    update fun s => (s.withResume (some .poll)).withTrace false

/-! ### One meaning for each instruction -/

/-- CHKIND reg16,mem32 (R425). -/
def execChkind (r : Reg16) (m : MemOp) (s : State) : Host.Outcome State Fault Refusal :=
  act (checkIndex r m) s

/-- FPO2 (R447). -/
def execFpo2 (_op : BitVec 1) (_reg : BitVec 3) (_e : RM Reg16) (s : State) : Host.Outcome State Fault Refusal :=
  act floatingPointTrap s

/-- NOP (R448). -/
def execNop (s : State) : Host.Outcome State Fault Refusal :=
  act (pure ()) s

/-- POLL (R449). -/
def execPoll (s : State) : Host.Outcome State Fault Refusal :=
  act pollPin s

/-- BRK 3 (R421). -/
def execBrk3 (s : State) : Host.Outcome State Fault Refusal :=
  act (do
    raise 3 (← reads State.pc)) s

/-- BRK imm8 (R422). -/
def execBrkImm8 (imm : Byte) (s : State) : Host.Outcome State Fault Refusal :=
  act (do
    raise imm (← reads State.pc)) s

/-- BRKV (R423). -/
def execBrkv (s : State) : Host.Outcome State Fault Refusal :=
  act (do
    if ← reads fun s => s.flag .v then raise 4 (← reads State.pc) else pure ()) s

/-- RETI (R424). -/
def execReti (s : State) : Host.Outcome State Fault Refusal :=
  act returnFromInterrupt s

/-- FPO1 (R446). -/
def execFpo1 (_op : BitVec 3) (_reg : BitVec 3) (_e : RM Reg16) (s : State) : Host.Outcome State Fault Refusal :=
  act floatingPointTrap s

/-- HALT (R430). -/
def execHalt (s : State) : Host.Outcome State Fault Refusal :=
  act (update fun s => s.withRun .halted) s

/-- NOT1 CY (R454). -/
def execNot1Cy (s : State) : Host.Outcome State Fault Refusal :=
  act (update fun s => s.setFlag .cy (!s.flag .cy)) s

/-- CLR1 CY (R452). -/
def execClr1Cy (s : State) : Host.Outcome State Fault Refusal :=
  act (update fun s => s.setFlag .cy false) s

/-- SET1 CY (R453). -/
def execSet1Cy (s : State) : Host.Outcome State Fault Refusal :=
  act (update fun s => s.setFlag .cy true) s

/-- DI (R450). -/
def execDi (s : State) : Host.Outcome State Fault Refusal :=
  act (update fun s => s.setFlag .ie false) s

/-- EI (R451). -/
def execEi (s : State) : Host.Outcome State Fault Refusal :=
  act (update fun s => (s.setFlag .ie true).protectBoundary) s

/-- CLR1 DIR (R455). -/
def execClr1Dir (s : State) : Host.Outcome State Fault Refusal :=
  act (update fun s => s.setFlag .dir false) s

/-- SET1 DIR (R456). -/
def execSet1Dir (s : State) : Host.Outcome State Fault Refusal :=
  act (update fun s => s.setFlag .dir true) s

/-- STOP (R431). -/
def execStop (s : State) : Host.Outcome State Fault Refusal :=
  act (update fun s => s.withRun .stopped) s

end Sys2Proof.Machine
end

