-- ==== Sys2Proof/Machine/Dispatch.lean ====
section
/-! DEFINITION. Each instruction to its meaning, one arm a constructor. -/

namespace Sys2Proof.Machine

def exec (i : Instr) (s : State) : Host.Outcome State Fault Refusal :=
  match i with
  | .addEbRb e r => Sys2Proof.Machine.execAddEbRb e r s
  | .addEwRw e r => Sys2Proof.Machine.execAddEwRw e r s
  | .addRbEb r e => Sys2Proof.Machine.execAddRbEb r e s
  | .addRwEw r e => Sys2Proof.Machine.execAddRwEw r e s
  | .addAlImm8 imm => Sys2Proof.Machine.execAddAlImm8 imm s
  | .addAwImm16 imm => Sys2Proof.Machine.execAddAwImm16 imm s
  | .addEbImm8 e imm => Sys2Proof.Machine.execAddEbImm8 e imm s
  | .addEwImm16 e imm => Sys2Proof.Machine.execAddEwImm16 e imm s
  | .addEbImm8Dup e imm => Sys2Proof.Machine.execAddEbImm8Dup e imm s
  | .addEwSextImm8 e imm => Sys2Proof.Machine.execAddEwSextImm8 e imm s
  | .orEbRb e r => Sys2Proof.Machine.execOrEbRb e r s
  | .orEwRw e r => Sys2Proof.Machine.execOrEwRw e r s
  | .orRbEb r e => Sys2Proof.Machine.execOrRbEb r e s
  | .orRwEw r e => Sys2Proof.Machine.execOrRwEw r e s
  | .orAlImm8 imm => Sys2Proof.Machine.execOrAlImm8 imm s
  | .orAwImm16 imm => Sys2Proof.Machine.execOrAwImm16 imm s
  | .orEbImm8 e imm => Sys2Proof.Machine.execOrEbImm8 e imm s
  | .orEwImm16 e imm => Sys2Proof.Machine.execOrEwImm16 e imm s
  | .orEbImm8Dup e imm => Sys2Proof.Machine.execOrEbImm8Dup e imm s
  | .orEwSextImm8 e imm => Sys2Proof.Machine.execOrEwSextImm8 e imm s
  | .addcEbRb e r => Sys2Proof.Machine.execAddcEbRb e r s
  | .addcEwRw e r => Sys2Proof.Machine.execAddcEwRw e r s
  | .addcRbEb r e => Sys2Proof.Machine.execAddcRbEb r e s
  | .addcRwEw r e => Sys2Proof.Machine.execAddcRwEw r e s
  | .addcAlImm8 imm => Sys2Proof.Machine.execAddcAlImm8 imm s
  | .addcAwImm16 imm => Sys2Proof.Machine.execAddcAwImm16 imm s
  | .addcEbImm8 e imm => Sys2Proof.Machine.execAddcEbImm8 e imm s
  | .addcEwImm16 e imm => Sys2Proof.Machine.execAddcEwImm16 e imm s
  | .addcEbImm8Dup e imm => Sys2Proof.Machine.execAddcEbImm8Dup e imm s
  | .addcEwSextImm8 e imm => Sys2Proof.Machine.execAddcEwSextImm8 e imm s
  | .subcEbRb e r => Sys2Proof.Machine.execSubcEbRb e r s
  | .subcEwRw e r => Sys2Proof.Machine.execSubcEwRw e r s
  | .subcRbEb r e => Sys2Proof.Machine.execSubcRbEb r e s
  | .subcRwEw r e => Sys2Proof.Machine.execSubcRwEw r e s
  | .subcAlImm8 imm => Sys2Proof.Machine.execSubcAlImm8 imm s
  | .subcAwImm16 imm => Sys2Proof.Machine.execSubcAwImm16 imm s
  | .subcEbImm8 e imm => Sys2Proof.Machine.execSubcEbImm8 e imm s
  | .subcEwImm16 e imm => Sys2Proof.Machine.execSubcEwImm16 e imm s
  | .subcEbImm8Dup e imm => Sys2Proof.Machine.execSubcEbImm8Dup e imm s
  | .subcEwSextImm8 e imm => Sys2Proof.Machine.execSubcEwSextImm8 e imm s
  | .andEbRb e r => Sys2Proof.Machine.execAndEbRb e r s
  | .andEwRw e r => Sys2Proof.Machine.execAndEwRw e r s
  | .andRbEb r e => Sys2Proof.Machine.execAndRbEb r e s
  | .andRwEw r e => Sys2Proof.Machine.execAndRwEw r e s
  | .andAlImm8 imm => Sys2Proof.Machine.execAndAlImm8 imm s
  | .andAwImm16 imm => Sys2Proof.Machine.execAndAwImm16 imm s
  | .andEbImm8 e imm => Sys2Proof.Machine.execAndEbImm8 e imm s
  | .andEwImm16 e imm => Sys2Proof.Machine.execAndEwImm16 e imm s
  | .andEbImm8Dup e imm => Sys2Proof.Machine.execAndEbImm8Dup e imm s
  | .andEwSextImm8 e imm => Sys2Proof.Machine.execAndEwSextImm8 e imm s
  | .subEbRb e r => Sys2Proof.Machine.execSubEbRb e r s
  | .subEwRw e r => Sys2Proof.Machine.execSubEwRw e r s
  | .subRbEb r e => Sys2Proof.Machine.execSubRbEb r e s
  | .subRwEw r e => Sys2Proof.Machine.execSubRwEw r e s
  | .subAlImm8 imm => Sys2Proof.Machine.execSubAlImm8 imm s
  | .subAwImm16 imm => Sys2Proof.Machine.execSubAwImm16 imm s
  | .subEbImm8 e imm => Sys2Proof.Machine.execSubEbImm8 e imm s
  | .subEwImm16 e imm => Sys2Proof.Machine.execSubEwImm16 e imm s
  | .subEbImm8Dup e imm => Sys2Proof.Machine.execSubEbImm8Dup e imm s
  | .subEwSextImm8 e imm => Sys2Proof.Machine.execSubEwSextImm8 e imm s
  | .xorEbRb e r => Sys2Proof.Machine.execXorEbRb e r s
  | .xorEwRw e r => Sys2Proof.Machine.execXorEwRw e r s
  | .xorRbEb r e => Sys2Proof.Machine.execXorRbEb r e s
  | .xorRwEw r e => Sys2Proof.Machine.execXorRwEw r e s
  | .xorAlImm8 imm => Sys2Proof.Machine.execXorAlImm8 imm s
  | .xorAwImm16 imm => Sys2Proof.Machine.execXorAwImm16 imm s
  | .xorEbImm8 e imm => Sys2Proof.Machine.execXorEbImm8 e imm s
  | .xorEwImm16 e imm => Sys2Proof.Machine.execXorEwImm16 e imm s
  | .xorEbImm8Dup e imm => Sys2Proof.Machine.execXorEbImm8Dup e imm s
  | .xorEwSextImm8 e imm => Sys2Proof.Machine.execXorEwSextImm8 e imm s
  | .cmpEbRb e r => Sys2Proof.Machine.execCmpEbRb e r s
  | .cmpEwRw e r => Sys2Proof.Machine.execCmpEwRw e r s
  | .cmpRbEb r e => Sys2Proof.Machine.execCmpRbEb r e s
  | .cmpRwEw r e => Sys2Proof.Machine.execCmpRwEw r e s
  | .cmpAlImm8 imm => Sys2Proof.Machine.execCmpAlImm8 imm s
  | .cmpAwImm16 imm => Sys2Proof.Machine.execCmpAwImm16 imm s
  | .cmpEbImm8 e imm => Sys2Proof.Machine.execCmpEbImm8 e imm s
  | .cmpEwImm16 e imm => Sys2Proof.Machine.execCmpEwImm16 e imm s
  | .cmpEbImm8Dup e imm => Sys2Proof.Machine.execCmpEbImm8Dup e imm s
  | .cmpEwSextImm8 e imm => Sys2Proof.Machine.execCmpEwSextImm8 e imm s
  | .incReg16 r => Sys2Proof.Machine.execIncReg16 r s
  | .decReg16 r => Sys2Proof.Machine.execDecReg16 r s
  | .pushReg16 r => Sys2Proof.Machine.execPushReg16 r s
  | .popReg16 r => Sys2Proof.Machine.execPopReg16 r s
  | .chkind r m => Sys2Proof.Machine.execChkind r m s
  | .fpo2 op reg e => Sys2Proof.Machine.execFpo2 op reg e s
  | .pushImm16 imm => Sys2Proof.Machine.execPushImm16 imm s
  | .mulReg16EwImm16 r e imm => Sys2Proof.Machine.execMulReg16EwImm16 r e imm s
  | .pushImm8 imm => Sys2Proof.Machine.execPushImm8 imm s
  | .mulReg16EwImm8 r e imm => Sys2Proof.Machine.execMulReg16EwImm8 r e imm s
  | .bv disp => Sys2Proof.Machine.execBv disp s
  | .bnv disp => Sys2Proof.Machine.execBnv disp s
  | .bc disp => Sys2Proof.Machine.execBc disp s
  | .bnc disp => Sys2Proof.Machine.execBnc disp s
  | .be disp => Sys2Proof.Machine.execBe disp s
  | .bne disp => Sys2Proof.Machine.execBne disp s
  | .bnh disp => Sys2Proof.Machine.execBnh disp s
  | .bh disp => Sys2Proof.Machine.execBh disp s
  | .bn disp => Sys2Proof.Machine.execBn disp s
  | .bp disp => Sys2Proof.Machine.execBp disp s
  | .bpe disp => Sys2Proof.Machine.execBpe disp s
  | .bpo disp => Sys2Proof.Machine.execBpo disp s
  | .blt disp => Sys2Proof.Machine.execBlt disp s
  | .bge disp => Sys2Proof.Machine.execBge disp s
  | .ble disp => Sys2Proof.Machine.execBle disp s
  | .bgt disp => Sys2Proof.Machine.execBgt disp s
  | .testEbRb e r => Sys2Proof.Machine.execTestEbRb e r s
  | .testEwRw e r => Sys2Proof.Machine.execTestEwRw e r s
  | .xchEbRb e r => Sys2Proof.Machine.execXchEbRb e r s
  | .xchEwRw e r => Sys2Proof.Machine.execXchEwRw e r s
  | .movEbRb e r => Sys2Proof.Machine.execMovEbRb e r s
  | .movEwRw e r => Sys2Proof.Machine.execMovEwRw e r s
  | .movRbEb r e => Sys2Proof.Machine.execMovRbEb r e s
  | .movRwEw r e => Sys2Proof.Machine.execMovRwEw r e s
  | .movEwSreg e sr => Sys2Proof.Machine.execMovEwSreg e sr s
  | .ldea r m => Sys2Proof.Machine.execLdea r m s
  | .movSregEw sr e => Sys2Proof.Machine.execMovSregEw sr e s
  | .popEw e => Sys2Proof.Machine.execPopEw e s
  | .xchAwReg16 r => Sys2Proof.Machine.execXchAwReg16 r s
  | .callFar off seg => Sys2Proof.Machine.execCallFar off seg s
  | .movAlMem addr => Sys2Proof.Machine.execMovAlMem addr s
  | .movAwMem addr => Sys2Proof.Machine.execMovAwMem addr s
  | .movMemAl addr => Sys2Proof.Machine.execMovMemAl addr s
  | .movMemAw addr => Sys2Proof.Machine.execMovMemAw addr s
  | .testAlImm8 imm => Sys2Proof.Machine.execTestAlImm8 imm s
  | .testAwImm16 imm => Sys2Proof.Machine.execTestAwImm16 imm s
  | .movReg8Imm8 r imm => Sys2Proof.Machine.execMovReg8Imm8 r imm s
  | .movReg16Imm16 r imm => Sys2Proof.Machine.execMovReg16Imm16 r imm s
  | .rolEbImm8 e imm => Sys2Proof.Machine.execRolEbImm8 e imm s
  | .rorEbImm8 e imm => Sys2Proof.Machine.execRorEbImm8 e imm s
  | .rolcEbImm8 e imm => Sys2Proof.Machine.execRolcEbImm8 e imm s
  | .rorcEbImm8 e imm => Sys2Proof.Machine.execRorcEbImm8 e imm s
  | .shlEbImm8 e imm => Sys2Proof.Machine.execShlEbImm8 e imm s
  | .shrEbImm8 e imm => Sys2Proof.Machine.execShrEbImm8 e imm s
  | .shraEbImm8 e imm => Sys2Proof.Machine.execShraEbImm8 e imm s
  | .rolEwImm8 e imm => Sys2Proof.Machine.execRolEwImm8 e imm s
  | .rorEwImm8 e imm => Sys2Proof.Machine.execRorEwImm8 e imm s
  | .rolcEwImm8 e imm => Sys2Proof.Machine.execRolcEwImm8 e imm s
  | .rorcEwImm8 e imm => Sys2Proof.Machine.execRorcEwImm8 e imm s
  | .shlEwImm8 e imm => Sys2Proof.Machine.execShlEwImm8 e imm s
  | .shrEwImm8 e imm => Sys2Proof.Machine.execShrEwImm8 e imm s
  | .shraEwImm8 e imm => Sys2Proof.Machine.execShraEwImm8 e imm s
  | .rolEb1 e => Sys2Proof.Machine.execRolEb1 e s
  | .rorEb1 e => Sys2Proof.Machine.execRorEb1 e s
  | .rolcEb1 e => Sys2Proof.Machine.execRolcEb1 e s
  | .rorcEb1 e => Sys2Proof.Machine.execRorcEb1 e s
  | .shlEb1 e => Sys2Proof.Machine.execShlEb1 e s
  | .shrEb1 e => Sys2Proof.Machine.execShrEb1 e s
  | .shraEb1 e => Sys2Proof.Machine.execShraEb1 e s
  | .rolEw1 e => Sys2Proof.Machine.execRolEw1 e s
  | .rorEw1 e => Sys2Proof.Machine.execRorEw1 e s
  | .rolcEw1 e => Sys2Proof.Machine.execRolcEw1 e s
  | .rorcEw1 e => Sys2Proof.Machine.execRorcEw1 e s
  | .shlEw1 e => Sys2Proof.Machine.execShlEw1 e s
  | .shrEw1 e => Sys2Proof.Machine.execShrEw1 e s
  | .shraEw1 e => Sys2Proof.Machine.execShraEw1 e s
  | .rolEbCl e => Sys2Proof.Machine.execRolEbCl e s
  | .rorEbCl e => Sys2Proof.Machine.execRorEbCl e s
  | .rolcEbCl e => Sys2Proof.Machine.execRolcEbCl e s
  | .rorcEbCl e => Sys2Proof.Machine.execRorcEbCl e s
  | .shlEbCl e => Sys2Proof.Machine.execShlEbCl e s
  | .shrEbCl e => Sys2Proof.Machine.execShrEbCl e s
  | .shraEbCl e => Sys2Proof.Machine.execShraEbCl e s
  | .rolEwCl e => Sys2Proof.Machine.execRolEwCl e s
  | .rorEwCl e => Sys2Proof.Machine.execRorEwCl e s
  | .rolcEwCl e => Sys2Proof.Machine.execRolcEwCl e s
  | .rorcEwCl e => Sys2Proof.Machine.execRorcEwCl e s
  | .shlEwCl e => Sys2Proof.Machine.execShlEwCl e s
  | .shrEwCl e => Sys2Proof.Machine.execShrEwCl e s
  | .shraEwCl e => Sys2Proof.Machine.execShraEwCl e s
  | .retNearPop imm => Sys2Proof.Machine.execRetNearPop imm s
  | .movDs1Mem32 r m => Sys2Proof.Machine.execMovDs1Mem32 r m s
  | .movDs0Mem32 r m => Sys2Proof.Machine.execMovDs0Mem32 r m s
  | .movEbImm8 e imm => Sys2Proof.Machine.execMovEbImm8 e imm s
  | .movEwImm16 e imm => Sys2Proof.Machine.execMovEwImm16 e imm s
  | .prepare size level => Sys2Proof.Machine.execPrepare size level s
  | .retFarPop imm => Sys2Proof.Machine.execRetFarPop imm s
  | .brkImm8 imm => Sys2Proof.Machine.execBrkImm8 imm s
  | .fpo1 op reg e => Sys2Proof.Machine.execFpo1 op reg e s
  | .dbnzne disp => Sys2Proof.Machine.execDbnzne disp s
  | .dbnze disp => Sys2Proof.Machine.execDbnze disp s
  | .dbnz disp => Sys2Proof.Machine.execDbnz disp s
  | .bcwz disp => Sys2Proof.Machine.execBcwz disp s
  | .inAlImm8 imm => Sys2Proof.Machine.execInAlImm8 imm s
  | .inAwImm8 imm => Sys2Proof.Machine.execInAwImm8 imm s
  | .outImm8Al imm => Sys2Proof.Machine.execOutImm8Al imm s
  | .outImm8Aw imm => Sys2Proof.Machine.execOutImm8Aw imm s
  | .callNear disp => Sys2Proof.Machine.execCallNear disp s
  | .brNear disp => Sys2Proof.Machine.execBrNear disp s
  | .brFar off seg => Sys2Proof.Machine.execBrFar off seg s
  | .brShort disp => Sys2Proof.Machine.execBrShort disp s
  | .testEbImm8 e imm => Sys2Proof.Machine.execTestEbImm8 e imm s
  | .notEb e => Sys2Proof.Machine.execNotEb e s
  | .negEb e => Sys2Proof.Machine.execNegEb e s
  | .muluEb e => Sys2Proof.Machine.execMuluEb e s
  | .mulEb e => Sys2Proof.Machine.execMulEb e s
  | .divuEb e => Sys2Proof.Machine.execDivuEb e s
  | .divEb e => Sys2Proof.Machine.execDivEb e s
  | .testEwImm16 e imm => Sys2Proof.Machine.execTestEwImm16 e imm s
  | .notEw e => Sys2Proof.Machine.execNotEw e s
  | .negEw e => Sys2Proof.Machine.execNegEw e s
  | .muluEw e => Sys2Proof.Machine.execMuluEw e s
  | .mulEw e => Sys2Proof.Machine.execMulEw e s
  | .divuEw e => Sys2Proof.Machine.execDivuEw e s
  | .divEw e => Sys2Proof.Machine.execDivEw e s
  | .incEb e => Sys2Proof.Machine.execIncEb e s
  | .decEb e => Sys2Proof.Machine.execDecEb e s
  | .incEw e => Sys2Proof.Machine.execIncEw e s
  | .decEw e => Sys2Proof.Machine.execDecEw e s
  | .callEw e => Sys2Proof.Machine.execCallEw e s
  | .callMem32 m => Sys2Proof.Machine.execCallMem32 m s
  | .brEw e => Sys2Proof.Machine.execBrEw e s
  | .brMem32 m => Sys2Proof.Machine.execBrMem32 m s
  | .pushEw e => Sys2Proof.Machine.execPushEw e s
  | .test1EbCl e => Sys2Proof.Machine.execTest1EbCl e s
  | .test1EwCl e => Sys2Proof.Machine.execTest1EwCl e s
  | .test1EbImm3 e imm => Sys2Proof.Machine.execTest1EbImm3 e imm s
  | .test1EwImm4 e imm => Sys2Proof.Machine.execTest1EwImm4 e imm s
  | .clr1EbCl e => Sys2Proof.Machine.execClr1EbCl e s
  | .clr1EwCl e => Sys2Proof.Machine.execClr1EwCl e s
  | .clr1EbImm3 e imm => Sys2Proof.Machine.execClr1EbImm3 e imm s
  | .clr1EwImm4 e imm => Sys2Proof.Machine.execClr1EwImm4 e imm s
  | .set1EbCl e => Sys2Proof.Machine.execSet1EbCl e s
  | .set1EwCl e => Sys2Proof.Machine.execSet1EwCl e s
  | .set1EbImm3 e imm => Sys2Proof.Machine.execSet1EbImm3 e imm s
  | .set1EwImm4 e imm => Sys2Proof.Machine.execSet1EwImm4 e imm s
  | .not1EbCl e => Sys2Proof.Machine.execNot1EbCl e s
  | .not1EwCl e => Sys2Proof.Machine.execNot1EwCl e s
  | .not1EbImm3 e imm => Sys2Proof.Machine.execNot1EbImm3 e imm s
  | .not1EwImm4 e imm => Sys2Proof.Machine.execNot1EwImm4 e imm s
  | .rol4Eb e => Sys2Proof.Machine.execRol4Eb e s
  | .ror4Eb e => Sys2Proof.Machine.execRor4Eb e s
  | .brkcsReg16 r => Sys2Proof.Machine.execBrkcsReg16 r s
  | .insReg8Reg8 off len => Sys2Proof.Machine.execInsReg8Reg8 off len s
  | .extReg8Reg8 off len => Sys2Proof.Machine.execExtReg8Reg8 off len s
  | .insReg8Imm4 off imm => Sys2Proof.Machine.execInsReg8Imm4 off imm s
  | .extReg8Imm4 off imm => Sys2Proof.Machine.execExtReg8Imm4 off imm s
  | .tskswReg16 r => Sys2Proof.Machine.execTskswReg16 r s
  | .movspbReg16 r => Sys2Proof.Machine.execMovspbReg16 r s
  | .btclr sfr imm disp => Sys2Proof.Machine.execBtclr sfr imm disp s
  | .pushDs1 => Sys2Proof.Machine.execPushDs1 s
  | .pushPs => Sys2Proof.Machine.execPushPs s
  | .pushSs => Sys2Proof.Machine.execPushSs s
  | .pushDs0 => Sys2Proof.Machine.execPushDs0 s
  | .popDs1 => Sys2Proof.Machine.execPopDs1 s
  | .popSs => Sys2Proof.Machine.execPopSs s
  | .popDs0 => Sys2Proof.Machine.execPopDs0 s
  | .prefixDs1 => Sys2Proof.Machine.execPrefixDs1 s
  | .prefixPs => Sys2Proof.Machine.execPrefixPs s
  | .prefixSs => Sys2Proof.Machine.execPrefixSs s
  | .prefixDs0 => Sys2Proof.Machine.execPrefixDs0 s
  | .adj4a => Sys2Proof.Machine.execAdj4a s
  | .adj4s => Sys2Proof.Machine.execAdj4s s
  | .adjba => Sys2Proof.Machine.execAdjba s
  | .adjbs => Sys2Proof.Machine.execAdjbs s
  | .pushR => Sys2Proof.Machine.execPushR s
  | .popR => Sys2Proof.Machine.execPopR s
  | .prefixRepnc => Sys2Proof.Machine.execPrefixRepnc s
  | .prefixRepc => Sys2Proof.Machine.execPrefixRepc s
  | .inmb => Sys2Proof.Machine.execInmb s
  | .inmw => Sys2Proof.Machine.execInmw s
  | .outmb => Sys2Proof.Machine.execOutmb s
  | .outmw => Sys2Proof.Machine.execOutmw s
  | .nop => Sys2Proof.Machine.execNop s
  | .cvtbw => Sys2Proof.Machine.execCvtbw s
  | .cvtwl => Sys2Proof.Machine.execCvtwl s
  | .poll => Sys2Proof.Machine.execPoll s
  | .pushPsw => Sys2Proof.Machine.execPushPsw s
  | .popPsw => Sys2Proof.Machine.execPopPsw s
  | .movPswAh => Sys2Proof.Machine.execMovPswAh s
  | .movAhPsw => Sys2Proof.Machine.execMovAhPsw s
  | .movbkb => Sys2Proof.Machine.execMovbkb s
  | .movbkw => Sys2Proof.Machine.execMovbkw s
  | .cmpbkb => Sys2Proof.Machine.execCmpbkb s
  | .cmpbkw => Sys2Proof.Machine.execCmpbkw s
  | .stmb => Sys2Proof.Machine.execStmb s
  | .stmw => Sys2Proof.Machine.execStmw s
  | .ldmb => Sys2Proof.Machine.execLdmb s
  | .ldmw => Sys2Proof.Machine.execLdmw s
  | .cmpmb => Sys2Proof.Machine.execCmpmb s
  | .cmpmw => Sys2Proof.Machine.execCmpmw s
  | .retNear => Sys2Proof.Machine.execRetNear s
  | .dispose => Sys2Proof.Machine.execDispose s
  | .retFar => Sys2Proof.Machine.execRetFar s
  | .brk3 => Sys2Proof.Machine.execBrk3 s
  | .brkv => Sys2Proof.Machine.execBrkv s
  | .reti => Sys2Proof.Machine.execReti s
  | .cvtbd => Sys2Proof.Machine.execCvtbd s
  | .cvtdb => Sys2Proof.Machine.execCvtdb s
  | .trans => Sys2Proof.Machine.execTrans s
  | .inAlDw => Sys2Proof.Machine.execInAlDw s
  | .inAwDw => Sys2Proof.Machine.execInAwDw s
  | .outDwAl => Sys2Proof.Machine.execOutDwAl s
  | .outDwAw => Sys2Proof.Machine.execOutDwAw s
  | .prefixBuslock => Sys2Proof.Machine.execPrefixBuslock s
  | .prefixRepne => Sys2Proof.Machine.execPrefixRepne s
  | .prefixRep => Sys2Proof.Machine.execPrefixRep s
  | .halt => Sys2Proof.Machine.execHalt s
  | .not1Cy => Sys2Proof.Machine.execNot1Cy s
  | .clr1Cy => Sys2Proof.Machine.execClr1Cy s
  | .set1Cy => Sys2Proof.Machine.execSet1Cy s
  | .di => Sys2Proof.Machine.execDi s
  | .ei => Sys2Proof.Machine.execEi s
  | .clr1Dir => Sys2Proof.Machine.execClr1Dir s
  | .set1Dir => Sys2Proof.Machine.execSet1Dir s
  | .add4s => Sys2Proof.Machine.execAdd4s s
  | .sub4s => Sys2Proof.Machine.execSub4s s
  | .movspa => Sys2Proof.Machine.execMovspa s
  | .cmp4s => Sys2Proof.Machine.execCmp4s s
  | .retrbi => Sys2Proof.Machine.execRetrbi s
  | .fint => Sys2Proof.Machine.execFint s
  | .stop => Sys2Proof.Machine.execStop s

end Sys2Proof.Machine
end

