-- ==== Sys2Proof/WellFormed.lean ====
section
/-! DEFINITION. Which terms of `Instr` an encoding stands for. The types already bound every operand; three conditions
are left, each from a constraint of the encoding tables. -/

namespace Sys2Proof

/-- mod = 00 with mem = 110 is the direct address, so BP alone is not a memory operand (R157, R160). -/
def MemOp.wellFormed : MemOp → Bool
  | .based0 .bp => false
  | _ => true

/-- A register-or-memory operand is well formed if its memory operand is. -/
def RM.wellFormed {ρ : Type} : RM ρ → Bool
  | .reg _ => true
  | .mem m => m.wellFormed

/-- The constraints of the opcode table (R168, R169): no load of PS by MOV, no exchange of AW with itself (90H is NOP),
and every memory operand well formed. -/
def Instr.wellFormed : Instr → Bool
  | .addEbRb e _ => e.wellFormed
  | .addEwRw e _ => e.wellFormed
  | .addRbEb _ e => e.wellFormed
  | .addRwEw _ e => e.wellFormed
  | .addAlImm8 _ => true
  | .addAwImm16 _ => true
  | .addEbImm8 e _ => e.wellFormed
  | .addEwImm16 e _ => e.wellFormed
  | .addEbImm8Dup e _ => e.wellFormed
  | .addEwSextImm8 e _ => e.wellFormed
  | .orEbRb e _ => e.wellFormed
  | .orEwRw e _ => e.wellFormed
  | .orRbEb _ e => e.wellFormed
  | .orRwEw _ e => e.wellFormed
  | .orAlImm8 _ => true
  | .orAwImm16 _ => true
  | .orEbImm8 e _ => e.wellFormed
  | .orEwImm16 e _ => e.wellFormed
  | .orEbImm8Dup e _ => e.wellFormed
  | .orEwSextImm8 e _ => e.wellFormed
  | .addcEbRb e _ => e.wellFormed
  | .addcEwRw e _ => e.wellFormed
  | .addcRbEb _ e => e.wellFormed
  | .addcRwEw _ e => e.wellFormed
  | .addcAlImm8 _ => true
  | .addcAwImm16 _ => true
  | .addcEbImm8 e _ => e.wellFormed
  | .addcEwImm16 e _ => e.wellFormed
  | .addcEbImm8Dup e _ => e.wellFormed
  | .addcEwSextImm8 e _ => e.wellFormed
  | .subcEbRb e _ => e.wellFormed
  | .subcEwRw e _ => e.wellFormed
  | .subcRbEb _ e => e.wellFormed
  | .subcRwEw _ e => e.wellFormed
  | .subcAlImm8 _ => true
  | .subcAwImm16 _ => true
  | .subcEbImm8 e _ => e.wellFormed
  | .subcEwImm16 e _ => e.wellFormed
  | .subcEbImm8Dup e _ => e.wellFormed
  | .subcEwSextImm8 e _ => e.wellFormed
  | .andEbRb e _ => e.wellFormed
  | .andEwRw e _ => e.wellFormed
  | .andRbEb _ e => e.wellFormed
  | .andRwEw _ e => e.wellFormed
  | .andAlImm8 _ => true
  | .andAwImm16 _ => true
  | .andEbImm8 e _ => e.wellFormed
  | .andEwImm16 e _ => e.wellFormed
  | .andEbImm8Dup e _ => e.wellFormed
  | .andEwSextImm8 e _ => e.wellFormed
  | .subEbRb e _ => e.wellFormed
  | .subEwRw e _ => e.wellFormed
  | .subRbEb _ e => e.wellFormed
  | .subRwEw _ e => e.wellFormed
  | .subAlImm8 _ => true
  | .subAwImm16 _ => true
  | .subEbImm8 e _ => e.wellFormed
  | .subEwImm16 e _ => e.wellFormed
  | .subEbImm8Dup e _ => e.wellFormed
  | .subEwSextImm8 e _ => e.wellFormed
  | .xorEbRb e _ => e.wellFormed
  | .xorEwRw e _ => e.wellFormed
  | .xorRbEb _ e => e.wellFormed
  | .xorRwEw _ e => e.wellFormed
  | .xorAlImm8 _ => true
  | .xorAwImm16 _ => true
  | .xorEbImm8 e _ => e.wellFormed
  | .xorEwImm16 e _ => e.wellFormed
  | .xorEbImm8Dup e _ => e.wellFormed
  | .xorEwSextImm8 e _ => e.wellFormed
  | .cmpEbRb e _ => e.wellFormed
  | .cmpEwRw e _ => e.wellFormed
  | .cmpRbEb _ e => e.wellFormed
  | .cmpRwEw _ e => e.wellFormed
  | .cmpAlImm8 _ => true
  | .cmpAwImm16 _ => true
  | .cmpEbImm8 e _ => e.wellFormed
  | .cmpEwImm16 e _ => e.wellFormed
  | .cmpEbImm8Dup e _ => e.wellFormed
  | .cmpEwSextImm8 e _ => e.wellFormed
  | .incReg16 _ => true
  | .decReg16 _ => true
  | .pushReg16 _ => true
  | .popReg16 _ => true
  | .chkind _ m => m.wellFormed
  | .fpo2 _ _ e => e.wellFormed
  | .pushImm16 _ => true
  | .mulReg16EwImm16 _ e _ => e.wellFormed
  | .pushImm8 _ => true
  | .mulReg16EwImm8 _ e _ => e.wellFormed
  | .bv _ => true
  | .bnv _ => true
  | .bc _ => true
  | .bnc _ => true
  | .be _ => true
  | .bne _ => true
  | .bnh _ => true
  | .bh _ => true
  | .bn _ => true
  | .bp _ => true
  | .bpe _ => true
  | .bpo _ => true
  | .blt _ => true
  | .bge _ => true
  | .ble _ => true
  | .bgt _ => true
  | .testEbRb e _ => e.wellFormed
  | .testEwRw e _ => e.wellFormed
  | .xchEbRb e _ => e.wellFormed
  | .xchEwRw e _ => e.wellFormed
  | .movEbRb e _ => e.wellFormed
  | .movEwRw e _ => e.wellFormed
  | .movRbEb _ e => e.wellFormed
  | .movRwEw _ e => e.wellFormed
  | .movEwSreg e _ => e.wellFormed
  | .ldea _ m => m.wellFormed
  | .movSregEw s e => s != .ps && e.wellFormed
  | .popEw e => e.wellFormed
  | .xchAwReg16 r => r != .aw
  | .callFar _ _ => true
  | .movAlMem _ => true
  | .movAwMem _ => true
  | .movMemAl _ => true
  | .movMemAw _ => true
  | .testAlImm8 _ => true
  | .testAwImm16 _ => true
  | .movReg8Imm8 _ _ => true
  | .movReg16Imm16 _ _ => true
  | .rolEbImm8 e _ => e.wellFormed
  | .rorEbImm8 e _ => e.wellFormed
  | .rolcEbImm8 e _ => e.wellFormed
  | .rorcEbImm8 e _ => e.wellFormed
  | .shlEbImm8 e _ => e.wellFormed
  | .shrEbImm8 e _ => e.wellFormed
  | .shraEbImm8 e _ => e.wellFormed
  | .rolEwImm8 e _ => e.wellFormed
  | .rorEwImm8 e _ => e.wellFormed
  | .rolcEwImm8 e _ => e.wellFormed
  | .rorcEwImm8 e _ => e.wellFormed
  | .shlEwImm8 e _ => e.wellFormed
  | .shrEwImm8 e _ => e.wellFormed
  | .shraEwImm8 e _ => e.wellFormed
  | .rolEb1 e => e.wellFormed
  | .rorEb1 e => e.wellFormed
  | .rolcEb1 e => e.wellFormed
  | .rorcEb1 e => e.wellFormed
  | .shlEb1 e => e.wellFormed
  | .shrEb1 e => e.wellFormed
  | .shraEb1 e => e.wellFormed
  | .rolEw1 e => e.wellFormed
  | .rorEw1 e => e.wellFormed
  | .rolcEw1 e => e.wellFormed
  | .rorcEw1 e => e.wellFormed
  | .shlEw1 e => e.wellFormed
  | .shrEw1 e => e.wellFormed
  | .shraEw1 e => e.wellFormed
  | .rolEbCl e => e.wellFormed
  | .rorEbCl e => e.wellFormed
  | .rolcEbCl e => e.wellFormed
  | .rorcEbCl e => e.wellFormed
  | .shlEbCl e => e.wellFormed
  | .shrEbCl e => e.wellFormed
  | .shraEbCl e => e.wellFormed
  | .rolEwCl e => e.wellFormed
  | .rorEwCl e => e.wellFormed
  | .rolcEwCl e => e.wellFormed
  | .rorcEwCl e => e.wellFormed
  | .shlEwCl e => e.wellFormed
  | .shrEwCl e => e.wellFormed
  | .shraEwCl e => e.wellFormed
  | .retNearPop _ => true
  | .movDs1Mem32 _ m => m.wellFormed
  | .movDs0Mem32 _ m => m.wellFormed
  | .movEbImm8 e _ => e.wellFormed
  | .movEwImm16 e _ => e.wellFormed
  | .prepare _ _ => true
  | .retFarPop _ => true
  | .brkImm8 _ => true
  | .fpo1 _ _ e => e.wellFormed
  | .dbnzne _ => true
  | .dbnze _ => true
  | .dbnz _ => true
  | .bcwz _ => true
  | .inAlImm8 _ => true
  | .inAwImm8 _ => true
  | .outImm8Al _ => true
  | .outImm8Aw _ => true
  | .callNear _ => true
  | .brNear _ => true
  | .brFar _ _ => true
  | .brShort _ => true
  | .testEbImm8 e _ => e.wellFormed
  | .notEb e => e.wellFormed
  | .negEb e => e.wellFormed
  | .muluEb e => e.wellFormed
  | .mulEb e => e.wellFormed
  | .divuEb e => e.wellFormed
  | .divEb e => e.wellFormed
  | .testEwImm16 e _ => e.wellFormed
  | .notEw e => e.wellFormed
  | .negEw e => e.wellFormed
  | .muluEw e => e.wellFormed
  | .mulEw e => e.wellFormed
  | .divuEw e => e.wellFormed
  | .divEw e => e.wellFormed
  | .incEb e => e.wellFormed
  | .decEb e => e.wellFormed
  | .incEw e => e.wellFormed
  | .decEw e => e.wellFormed
  | .callEw e => e.wellFormed
  | .callMem32 m => m.wellFormed
  | .brEw e => e.wellFormed
  | .brMem32 m => m.wellFormed
  | .pushEw e => e.wellFormed
  | .test1EbCl e => e.wellFormed
  | .test1EwCl e => e.wellFormed
  | .test1EbImm3 e _ => e.wellFormed
  | .test1EwImm4 e _ => e.wellFormed
  | .clr1EbCl e => e.wellFormed
  | .clr1EwCl e => e.wellFormed
  | .clr1EbImm3 e _ => e.wellFormed
  | .clr1EwImm4 e _ => e.wellFormed
  | .set1EbCl e => e.wellFormed
  | .set1EwCl e => e.wellFormed
  | .set1EbImm3 e _ => e.wellFormed
  | .set1EwImm4 e _ => e.wellFormed
  | .not1EbCl e => e.wellFormed
  | .not1EwCl e => e.wellFormed
  | .not1EbImm3 e _ => e.wellFormed
  | .not1EwImm4 e _ => e.wellFormed
  | .rol4Eb e => e.wellFormed
  | .ror4Eb e => e.wellFormed
  | .brkcsReg16 _ => true
  | .insReg8Reg8 _ _ => true
  | .extReg8Reg8 _ _ => true
  | .insReg8Imm4 _ _ => true
  | .extReg8Imm4 _ _ => true
  | .tskswReg16 _ => true
  | .movspbReg16 _ => true
  | .btclr _ _ _ => true
  | .pushDs1 => true
  | .pushPs => true
  | .pushSs => true
  | .pushDs0 => true
  | .popDs1 => true
  | .popSs => true
  | .popDs0 => true
  | .prefixDs1 => true
  | .prefixPs => true
  | .prefixSs => true
  | .prefixDs0 => true
  | .adj4a => true
  | .adj4s => true
  | .adjba => true
  | .adjbs => true
  | .pushR => true
  | .popR => true
  | .prefixRepnc => true
  | .prefixRepc => true
  | .inmb => true
  | .inmw => true
  | .outmb => true
  | .outmw => true
  | .nop => true
  | .cvtbw => true
  | .cvtwl => true
  | .poll => true
  | .pushPsw => true
  | .popPsw => true
  | .movPswAh => true
  | .movAhPsw => true
  | .movbkb => true
  | .movbkw => true
  | .cmpbkb => true
  | .cmpbkw => true
  | .stmb => true
  | .stmw => true
  | .ldmb => true
  | .ldmw => true
  | .cmpmb => true
  | .cmpmw => true
  | .retNear => true
  | .dispose => true
  | .retFar => true
  | .brk3 => true
  | .brkv => true
  | .reti => true
  | .cvtbd => true
  | .cvtdb => true
  | .trans => true
  | .inAlDw => true
  | .inAwDw => true
  | .outDwAl => true
  | .outDwAw => true
  | .prefixBuslock => true
  | .prefixRepne => true
  | .prefixRep => true
  | .halt => true
  | .not1Cy => true
  | .clr1Cy => true
  | .set1Cy => true
  | .di => true
  | .ei => true
  | .clr1Dir => true
  | .set1Dir => true
  | .add4s => true
  | .sub4s => true
  | .movspa => true
  | .cmp4s => true
  | .retrbi => true
  | .fint => true
  | .stop => true

end Sys2Proof
end

