-- ==== Sys2Proof/Decode.lean ====
section
/-! DEFINITION. The decoder, total on any bytes and rejecting by name, and after it the encoder, both written from the
tables of `spec/30_encoding.md` (R151 to R169). The whole instruction set is PRESUMED (log 44). -/

namespace Sys2Proof

/-- Why bytes are no instruction. -/
inductive DecodeError where
  /-- An undefined encoding (R168). -/
  | undefinedEncoding
  /-- The bytes end before the instruction does. -/
  | truncated
  /-- 0FH 9EH or 0FH BEH while `STOP_OPCODE` is not fixed (R431). -/
  | stopUnset
  deriving DecidableEq, Repr

/-- Instruction bytes yet to be taken, and how many have been. -/
structure Stream where
  rest : List Byte
  used : Nat
  deriving DecidableEq, Repr

/-- A reader of instruction bytes: it takes bytes from the front of a stream or fails. -/
abbrev Parser := StateT Stream (Except DecodeError)

/-- The next instruction byte (R151). -/
def next : Parser Byte := fun st =>
  match st.rest with
  | b :: rest => .ok (b, ⟨rest, st.used + 1⟩)
  | [] => .error .truncated

/-- A word of the instruction, low byte first (R158). -/
def nextWord : Parser Word := do
  let lo ← next
  let hi ← next
  pure (hi ++ lo)

/-- An encoding that stands for no instruction (R168). -/
def undefinedEncoding : Parser Instr := fun _ => .error .undefinedEncoding

/-! ### Numbers of the operands -/

/-- The 16-bit register of an encoding number (R154). -/
def Reg16.ofNum (n : BitVec 3) : Reg16 :=
  match n.toNat with
  | 0 => .aw | 1 => .cw | 2 => .dw | 3 => .bw | 4 => .sp | 5 => .bp | 6 => .ix | _ => .iy

/-- The encoding number of a 16-bit register (R154). -/
def Reg16.num : Reg16 → BitVec 3
  | .aw => 0 | .cw => 1 | .dw => 2 | .bw => 3 | .sp => 4 | .bp => 5 | .ix => 6 | .iy => 7

/-- The 8-bit register of an encoding number (R155). -/
def Reg8.ofNum (n : BitVec 3) : Reg8 :=
  match n.toNat with
  | 0 => .al | 1 => .cl | 2 => .dl | 3 => .bl | 4 => .ah | 5 => .ch | 6 => .dh | _ => .bh

/-- The encoding number of an 8-bit register (R155). -/
def Reg8.num : Reg8 → BitVec 3
  | .al => 0 | .cl => 1 | .dl => 2 | .bl => 3 | .ah => 4 | .ch => 5 | .dh => 6 | .bh => 7

/-- The segment register of an encoding number (R156). -/
def SReg.ofNum (n : BitVec 2) : SReg :=
  match n.toNat with
  | 0 => .ds1 | 1 => .ps | 2 => .ss | _ => .ds0

/-- The encoding number of a segment register (R156). -/
def SReg.num : SReg → BitVec 2
  | .ds1 => 0 | .ps => 1 | .ss => 2 | .ds0 => 3

/-- A segment register in the reg field of a mod-r/m byte: bit 5 is 0 (R152, `OP_MRM_SR`). -/
def SReg.field (s : SReg) : BitVec 3 := s.num.setWidth 3

/-- The addressing mode of a mem field (R160). -/
def Base.ofNum (n : BitVec 3) : Base :=
  match n.toNat with
  | 0 => .bwIx | 1 => .bwIy | 2 => .bpIx | 3 => .bpIy | 4 => .ix | 5 => .iy | 6 => .bp | _ => .bw

/-- The mem field of an addressing mode (R160). -/
def Base.num : Base → BitVec 3
  | .bwIx => 0 | .bwIy => 1 | .bpIx => 2 | .bpIy => 3 | .ix => 4 | .iy => 5 | .bp => 6 | .bw => 7

/-! ### The mod-r/m byte -/

/-- A decoded mod-r/m byte with its displacement (R153, R157): the reg field, and either a memory operand or (mod = 11)
the register number in the mem field. -/
structure ModRM where
  reg : BitVec 3
  operand : MemOp ⊕ BitVec 3
  deriving DecidableEq, Repr

/-- The mod-r/m byte and the displacement its mod and mem fields ask for (R157, R160). -/
def modRM : Parser ModRM := do
  let b ← next
  let reg : BitVec 3 := b.extractLsb' 3 3
  let mem : BitVec 3 := b.extractLsb' 0 3
  match (b.extractLsb' 6 2).toNat with
  | 0 =>
    if mem = 6 then
      let addr ← nextWord
      pure ⟨reg, .inl (.direct addr)⟩
    else
      pure ⟨reg, .inl (.based0 (Base.ofNum mem))⟩
  | 1 =>
    let disp ← next
    pure ⟨reg, .inl (.based8 (Base.ofNum mem) disp)⟩
  | 2 =>
    let disp ← nextWord
    pure ⟨reg, .inl (.based16 (Base.ofNum mem) disp)⟩
  | _ => pure ⟨reg, .inr mem⟩

/-- The byte operand of a mod-r/m byte. -/
def ModRM.rm8 (m : ModRM) : RM Reg8 :=
  match m.operand with
  | .inl mem => .mem mem
  | .inr n => .reg (Reg8.ofNum n)

/-- The word operand of a mod-r/m byte. -/
def ModRM.rm16 (m : ModRM) : RM Reg16 :=
  match m.operand with
  | .inl mem => .mem mem
  | .inr n => .reg (Reg16.ofNum n)

/-! ### The formats of R152 -/

def imm8 (f : Byte → Instr) : Parser Instr := do
  let imm ← next
  pure (f imm)

def imm16 (f : Word → Instr) : Parser Instr := do
  let imm ← nextWord
  pure (f imm)

/-- Offset, then segment (`OP_FAR`). -/
def farPointer (f : Word → Word → Instr) : Parser Instr := do
  let off ← nextWord
  let seg ← nextWord
  pure (f off seg)

def imm16Imm8 (f : Word → Byte → Instr) : Parser Instr := do
  let size ← nextWord
  let level ← next
  pure (f size level)

/-- A fixed second byte: CVTBD and CVTDB admit 0AH alone (R305, R306, R168). -/
def second (fixed : Byte) (i : Instr) : Parser Instr := do
  let b ← next
  if b = fixed then pure i else undefinedEncoding

def modReg8 (f : RM Reg8 → Reg8 → Instr) : Parser Instr := do
  let m ← modRM
  pure (f m.rm8 (Reg8.ofNum m.reg))

def modReg16 (f : RM Reg16 → Reg16 → Instr) : Parser Instr := do
  let m ← modRM
  pure (f m.rm16 (Reg16.ofNum m.reg))

def modReg16Imm8 (f : RM Reg16 → Reg16 → Byte → Instr) : Parser Instr := do
  let m ← modRM
  imm8 (f m.rm16 (Reg16.ofNum m.reg))

def modReg16Imm16 (f : RM Reg16 → Reg16 → Word → Instr) : Parser Instr := do
  let m ← modRM
  imm16 (f m.rm16 (Reg16.ofNum m.reg))

/-- A memory operand is required: mod = 11 is undefined (R168). -/
def memOnly (m : ModRM) (f : MemOp → Instr) : Parser Instr :=
  match m.operand with
  | .inl mem => pure (f mem)
  | .inr _ => undefinedEncoding

def modMem16 (f : Reg16 → MemOp → Instr) : Parser Instr := do
  let m ← modRM
  memOnly m (f (Reg16.ofNum m.reg))

/-- `OP_MRM_SR`: bit 5 of the mod-r/m byte set is undefined (R168). -/
def modSreg (f : RM Reg16 → SReg → Instr) : Parser Instr := do
  let m ← modRM
  if m.reg.getLsbD 2 then undefinedEncoding else pure (f m.rm16 (SReg.ofNum (m.reg.setWidth 2)))

/-- MOV sreg: a load of PS is undefined (R168, R205). -/
def modSregLoad : Parser Instr := do
  let m ← modRM
  if m.reg.getLsbD 2 || SReg.ofNum (m.reg.setWidth 2) == .ps then undefinedEncoding
  else pure (.movSregEw (SReg.ofNum (m.reg.setWidth 2)) m.rm16)

/-- FPO1 and FPO2 keep the reg field, which belongs to the coprocessor operation (R446, R447). -/
def modFpo (f : BitVec 3 → RM Reg16 → Instr) : Parser Instr := do
  let m ← modRM
  pure (f m.reg m.rm16)

/-- The 0FH map entries with the reg field fixed at 000 (R167, R168). -/
def ext0Rm8 (f : RM Reg8 → Instr) : Parser Instr := do
  let m ← modRM
  if m.reg = 0 then pure (f m.rm8) else undefinedEncoding

def ext0Rm16 (f : RM Reg16 → Instr) : Parser Instr := do
  let m ← modRM
  if m.reg = 0 then pure (f m.rm16) else undefinedEncoding

def ext0Rm8Imm8 (f : RM Reg8 → Byte → Instr) : Parser Instr := do
  let m ← modRM
  if m.reg = 0 then imm8 (f m.rm8) else undefinedEncoding

def ext0Rm16Imm8 (f : RM Reg16 → Byte → Instr) : Parser Instr := do
  let m ← modRM
  if m.reg = 0 then imm8 (f m.rm16) else undefinedEncoding

/-- A 16-bit register alone: mod = 11 and the reg field given (R167). -/
def onlyReg16 (x : BitVec 3) (f : Reg16 → Instr) : Parser Instr := do
  let b ← next
  if b.extractLsb' 3 5 = (0b11#2 ++ x) then pure (f (Reg16.ofNum (b.extractLsb' 0 3))) else undefinedEncoding

/-- INS and EXT by register: mod = 11, the reg field the length, the mem field the offset (R260, R261). -/
def twoReg8 (f : Reg8 → Reg8 → Instr) : Parser Instr := do
  let b ← next
  if b.extractLsb' 6 2 = 0b11#2 then
    pure (f (Reg8.ofNum (b.extractLsb' 0 3)) (Reg8.ofNum (b.extractLsb' 3 3)))
  else undefinedEncoding

/-- INS and EXT by immediate: mod = 11, reg field 000, then the length byte (R260, R261). -/
def oneReg8Imm8 (f : Reg8 → Byte → Instr) : Parser Instr := do
  let b ← next
  if b.extractLsb' 3 5 = 0b11000#5 then imm8 (f (Reg8.ofNum (b.extractLsb' 0 3))) else undefinedEncoding

/-- `X_SFR_I8_D8`, BTCLR (R380). -/
def sfrImmDisp (f : Byte → Byte → Byte → Instr) : Parser Instr := do
  let sfr ← next
  let imm ← next
  let disp ← next
  pure (f sfr imm disp)

/-! ### The opcode maps -/

/-- The instructions of opcode 80H, told apart by the reg field of the mod-r/m byte (R165). -/
def group80 (m : ModRM) : Parser Instr :=
  match m.reg.toNat with
  | 0 => imm8 (.addEbImm8 m.rm8)
  | 1 => imm8 (.orEbImm8 m.rm8)
  | 2 => imm8 (.addcEbImm8 m.rm8)
  | 3 => imm8 (.subcEbImm8 m.rm8)
  | 4 => imm8 (.andEbImm8 m.rm8)
  | 5 => imm8 (.subEbImm8 m.rm8)
  | 6 => imm8 (.xorEbImm8 m.rm8)
  | _ => imm8 (.cmpEbImm8 m.rm8)

/-- The instructions of opcode 81H, told apart by the reg field of the mod-r/m byte (R165). -/
def group81 (m : ModRM) : Parser Instr :=
  match m.reg.toNat with
  | 0 => imm16 (.addEwImm16 m.rm16)
  | 1 => imm16 (.orEwImm16 m.rm16)
  | 2 => imm16 (.addcEwImm16 m.rm16)
  | 3 => imm16 (.subcEwImm16 m.rm16)
  | 4 => imm16 (.andEwImm16 m.rm16)
  | 5 => imm16 (.subEwImm16 m.rm16)
  | 6 => imm16 (.xorEwImm16 m.rm16)
  | _ => imm16 (.cmpEwImm16 m.rm16)

/-- The instructions of opcode 82H, told apart by the reg field of the mod-r/m byte (R165). -/
def group82 (m : ModRM) : Parser Instr :=
  match m.reg.toNat with
  | 0 => imm8 (.addEbImm8Dup m.rm8)
  | 1 => imm8 (.orEbImm8Dup m.rm8)
  | 2 => imm8 (.addcEbImm8Dup m.rm8)
  | 3 => imm8 (.subcEbImm8Dup m.rm8)
  | 4 => imm8 (.andEbImm8Dup m.rm8)
  | 5 => imm8 (.subEbImm8Dup m.rm8)
  | 6 => imm8 (.xorEbImm8Dup m.rm8)
  | _ => imm8 (.cmpEbImm8Dup m.rm8)

/-- The instructions of opcode 83H, told apart by the reg field of the mod-r/m byte (R165). -/
def group83 (m : ModRM) : Parser Instr :=
  match m.reg.toNat with
  | 0 => imm8 (.addEwSextImm8 m.rm16)
  | 1 => imm8 (.orEwSextImm8 m.rm16)
  | 2 => imm8 (.addcEwSextImm8 m.rm16)
  | 3 => imm8 (.subcEwSextImm8 m.rm16)
  | 4 => imm8 (.andEwSextImm8 m.rm16)
  | 5 => imm8 (.subEwSextImm8 m.rm16)
  | 6 => imm8 (.xorEwSextImm8 m.rm16)
  | _ => imm8 (.cmpEwSextImm8 m.rm16)

/-- The instructions of opcode 8FH, told apart by the reg field of the mod-r/m byte (R165). -/
def group8F (m : ModRM) : Parser Instr :=
  match m.reg.toNat with
  | 0 => pure (.popEw m.rm16)
  | _ => undefinedEncoding

/-- The instructions of opcode C0H, told apart by the reg field of the mod-r/m byte (R165). -/
def groupC0 (m : ModRM) : Parser Instr :=
  match m.reg.toNat with
  | 0 => imm8 (.rolEbImm8 m.rm8)
  | 1 => imm8 (.rorEbImm8 m.rm8)
  | 2 => imm8 (.rolcEbImm8 m.rm8)
  | 3 => imm8 (.rorcEbImm8 m.rm8)
  | 4 => imm8 (.shlEbImm8 m.rm8)
  | 5 => imm8 (.shrEbImm8 m.rm8)
  | 7 => imm8 (.shraEbImm8 m.rm8)
  | _ => undefinedEncoding

/-- The instructions of opcode C1H, told apart by the reg field of the mod-r/m byte (R165). -/
def groupC1 (m : ModRM) : Parser Instr :=
  match m.reg.toNat with
  | 0 => imm8 (.rolEwImm8 m.rm16)
  | 1 => imm8 (.rorEwImm8 m.rm16)
  | 2 => imm8 (.rolcEwImm8 m.rm16)
  | 3 => imm8 (.rorcEwImm8 m.rm16)
  | 4 => imm8 (.shlEwImm8 m.rm16)
  | 5 => imm8 (.shrEwImm8 m.rm16)
  | 7 => imm8 (.shraEwImm8 m.rm16)
  | _ => undefinedEncoding

/-- The instructions of opcode C6H, told apart by the reg field of the mod-r/m byte (R165). -/
def groupC6 (m : ModRM) : Parser Instr :=
  match m.reg.toNat with
  | 0 => imm8 (.movEbImm8 m.rm8)
  | _ => undefinedEncoding

/-- The instructions of opcode C7H, told apart by the reg field of the mod-r/m byte (R165). -/
def groupC7 (m : ModRM) : Parser Instr :=
  match m.reg.toNat with
  | 0 => imm16 (.movEwImm16 m.rm16)
  | _ => undefinedEncoding

/-- The instructions of opcode D0H, told apart by the reg field of the mod-r/m byte (R165). -/
def groupD0 (m : ModRM) : Parser Instr :=
  match m.reg.toNat with
  | 0 => pure (.rolEb1 m.rm8)
  | 1 => pure (.rorEb1 m.rm8)
  | 2 => pure (.rolcEb1 m.rm8)
  | 3 => pure (.rorcEb1 m.rm8)
  | 4 => pure (.shlEb1 m.rm8)
  | 5 => pure (.shrEb1 m.rm8)
  | 7 => pure (.shraEb1 m.rm8)
  | _ => undefinedEncoding

/-- The instructions of opcode D1H, told apart by the reg field of the mod-r/m byte (R165). -/
def groupD1 (m : ModRM) : Parser Instr :=
  match m.reg.toNat with
  | 0 => pure (.rolEw1 m.rm16)
  | 1 => pure (.rorEw1 m.rm16)
  | 2 => pure (.rolcEw1 m.rm16)
  | 3 => pure (.rorcEw1 m.rm16)
  | 4 => pure (.shlEw1 m.rm16)
  | 5 => pure (.shrEw1 m.rm16)
  | 7 => pure (.shraEw1 m.rm16)
  | _ => undefinedEncoding

/-- The instructions of opcode D2H, told apart by the reg field of the mod-r/m byte (R165). -/
def groupD2 (m : ModRM) : Parser Instr :=
  match m.reg.toNat with
  | 0 => pure (.rolEbCl m.rm8)
  | 1 => pure (.rorEbCl m.rm8)
  | 2 => pure (.rolcEbCl m.rm8)
  | 3 => pure (.rorcEbCl m.rm8)
  | 4 => pure (.shlEbCl m.rm8)
  | 5 => pure (.shrEbCl m.rm8)
  | 7 => pure (.shraEbCl m.rm8)
  | _ => undefinedEncoding

/-- The instructions of opcode D3H, told apart by the reg field of the mod-r/m byte (R165). -/
def groupD3 (m : ModRM) : Parser Instr :=
  match m.reg.toNat with
  | 0 => pure (.rolEwCl m.rm16)
  | 1 => pure (.rorEwCl m.rm16)
  | 2 => pure (.rolcEwCl m.rm16)
  | 3 => pure (.rorcEwCl m.rm16)
  | 4 => pure (.shlEwCl m.rm16)
  | 5 => pure (.shrEwCl m.rm16)
  | 7 => pure (.shraEwCl m.rm16)
  | _ => undefinedEncoding

/-- The instructions of opcode F6H, told apart by the reg field of the mod-r/m byte (R165). -/
def groupF6 (m : ModRM) : Parser Instr :=
  match m.reg.toNat with
  | 0 => imm8 (.testEbImm8 m.rm8)
  | 2 => pure (.notEb m.rm8)
  | 3 => pure (.negEb m.rm8)
  | 4 => pure (.muluEb m.rm8)
  | 5 => pure (.mulEb m.rm8)
  | 6 => pure (.divuEb m.rm8)
  | 7 => pure (.divEb m.rm8)
  | _ => undefinedEncoding

/-- The instructions of opcode F7H, told apart by the reg field of the mod-r/m byte (R165). -/
def groupF7 (m : ModRM) : Parser Instr :=
  match m.reg.toNat with
  | 0 => imm16 (.testEwImm16 m.rm16)
  | 2 => pure (.notEw m.rm16)
  | 3 => pure (.negEw m.rm16)
  | 4 => pure (.muluEw m.rm16)
  | 5 => pure (.mulEw m.rm16)
  | 6 => pure (.divuEw m.rm16)
  | 7 => pure (.divEw m.rm16)
  | _ => undefinedEncoding

/-- The instructions of opcode FEH, told apart by the reg field of the mod-r/m byte (R165). -/
def groupFE (m : ModRM) : Parser Instr :=
  match m.reg.toNat with
  | 0 => pure (.incEb m.rm8)
  | 1 => pure (.decEb m.rm8)
  | _ => undefinedEncoding

/-- The instructions of opcode FFH, told apart by the reg field of the mod-r/m byte (R165). -/
def groupFF (m : ModRM) : Parser Instr :=
  match m.reg.toNat with
  | 0 => pure (.incEw m.rm16)
  | 1 => pure (.decEw m.rm16)
  | 2 => pure (.callEw m.rm16)
  | 3 => memOnly m .callMem32
  | 4 => pure (.brEw m.rm16)
  | 5 => memOnly m .brMem32
  | 6 => pure (.pushEw m.rm16)
  | _ => undefinedEncoding

/-- The second byte after 0FH (R167). -/
def decodeEscape (b : Byte) : Parser Instr :=
  match b.toNat with
  | 0x10 => ext0Rm8 .test1EbCl
  | 0x11 => ext0Rm16 .test1EwCl
  | 0x12 => ext0Rm8 .clr1EbCl
  | 0x13 => ext0Rm16 .clr1EwCl
  | 0x14 => ext0Rm8 .set1EbCl
  | 0x15 => ext0Rm16 .set1EwCl
  | 0x16 => ext0Rm8 .not1EbCl
  | 0x17 => ext0Rm16 .not1EwCl
  | 0x18 => ext0Rm8Imm8 .test1EbImm3
  | 0x19 => ext0Rm16Imm8 .test1EwImm4
  | 0x1A => ext0Rm8Imm8 .clr1EbImm3
  | 0x1B => ext0Rm16Imm8 .clr1EwImm4
  | 0x1C => ext0Rm8Imm8 .set1EbImm3
  | 0x1D => ext0Rm16Imm8 .set1EwImm4
  | 0x1E => ext0Rm8Imm8 .not1EbImm3
  | 0x1F => ext0Rm16Imm8 .not1EwImm4
  | 0x20 => pure .add4s
  | 0x22 => pure .sub4s
  | 0x25 => pure .movspa
  | 0x26 => pure .cmp4s
  | 0x28 => ext0Rm8 .rol4Eb
  | 0x2A => ext0Rm8 .ror4Eb
  | 0x2D => onlyReg16 0 .brkcsReg16
  | 0x31 => twoReg8 .insReg8Reg8
  | 0x33 => twoReg8 .extReg8Reg8
  | 0x39 => oneReg8Imm8 .insReg8Imm4
  | 0x3B => oneReg8Imm8 .extReg8Imm4
  | 0x91 => pure .retrbi
  | 0x92 => pure .fint
  | 0x94 => onlyReg16 7 .tskswReg16
  | 0x95 => onlyReg16 7 .movspbReg16
  | 0x9C => sfrImmDisp .btclr
  | 0x9E => pure .stop
  | _ => undefinedEncoding

/-- The first opcode byte (R165). -/
def decodeOpcode (b : Byte) : Parser Instr :=
  match b.toNat with
  | 0x00 => modReg8 .addEbRb
  | 0x01 => modReg16 .addEwRw
  | 0x02 => modReg8 fun e r => .addRbEb r e
  | 0x03 => modReg16 fun e r => .addRwEw r e
  | 0x04 => imm8 .addAlImm8
  | 0x05 => imm16 .addAwImm16
  | 0x06 => pure .pushDs1
  | 0x07 => pure .popDs1
  | 0x08 => modReg8 .orEbRb
  | 0x09 => modReg16 .orEwRw
  | 0x0A => modReg8 fun e r => .orRbEb r e
  | 0x0B => modReg16 fun e r => .orRwEw r e
  | 0x0C => imm8 .orAlImm8
  | 0x0D => imm16 .orAwImm16
  | 0x0E => pure .pushPs
  | 0x0F => next >>= decodeEscape
  | 0x10 => modReg8 .addcEbRb
  | 0x11 => modReg16 .addcEwRw
  | 0x12 => modReg8 fun e r => .addcRbEb r e
  | 0x13 => modReg16 fun e r => .addcRwEw r e
  | 0x14 => imm8 .addcAlImm8
  | 0x15 => imm16 .addcAwImm16
  | 0x16 => pure .pushSs
  | 0x17 => pure .popSs
  | 0x18 => modReg8 .subcEbRb
  | 0x19 => modReg16 .subcEwRw
  | 0x1A => modReg8 fun e r => .subcRbEb r e
  | 0x1B => modReg16 fun e r => .subcRwEw r e
  | 0x1C => imm8 .subcAlImm8
  | 0x1D => imm16 .subcAwImm16
  | 0x1E => pure .pushDs0
  | 0x1F => pure .popDs0
  | 0x20 => modReg8 .andEbRb
  | 0x21 => modReg16 .andEwRw
  | 0x22 => modReg8 fun e r => .andRbEb r e
  | 0x23 => modReg16 fun e r => .andRwEw r e
  | 0x24 => imm8 .andAlImm8
  | 0x25 => imm16 .andAwImm16
  | 0x26 => pure .prefixDs1
  | 0x27 => pure .adj4a
  | 0x28 => modReg8 .subEbRb
  | 0x29 => modReg16 .subEwRw
  | 0x2A => modReg8 fun e r => .subRbEb r e
  | 0x2B => modReg16 fun e r => .subRwEw r e
  | 0x2C => imm8 .subAlImm8
  | 0x2D => imm16 .subAwImm16
  | 0x2E => pure .prefixPs
  | 0x2F => pure .adj4s
  | 0x30 => modReg8 .xorEbRb
  | 0x31 => modReg16 .xorEwRw
  | 0x32 => modReg8 fun e r => .xorRbEb r e
  | 0x33 => modReg16 fun e r => .xorRwEw r e
  | 0x34 => imm8 .xorAlImm8
  | 0x35 => imm16 .xorAwImm16
  | 0x36 => pure .prefixSs
  | 0x37 => pure .adjba
  | 0x38 => modReg8 .cmpEbRb
  | 0x39 => modReg16 .cmpEwRw
  | 0x3A => modReg8 fun e r => .cmpRbEb r e
  | 0x3B => modReg16 fun e r => .cmpRwEw r e
  | 0x3C => imm8 .cmpAlImm8
  | 0x3D => imm16 .cmpAwImm16
  | 0x3E => pure .prefixDs0
  | 0x3F => pure .adjbs
  | 0x40 => pure (.incReg16 .aw)
  | 0x41 => pure (.incReg16 .cw)
  | 0x42 => pure (.incReg16 .dw)
  | 0x43 => pure (.incReg16 .bw)
  | 0x44 => pure (.incReg16 .sp)
  | 0x45 => pure (.incReg16 .bp)
  | 0x46 => pure (.incReg16 .ix)
  | 0x47 => pure (.incReg16 .iy)
  | 0x48 => pure (.decReg16 .aw)
  | 0x49 => pure (.decReg16 .cw)
  | 0x4A => pure (.decReg16 .dw)
  | 0x4B => pure (.decReg16 .bw)
  | 0x4C => pure (.decReg16 .sp)
  | 0x4D => pure (.decReg16 .bp)
  | 0x4E => pure (.decReg16 .ix)
  | 0x4F => pure (.decReg16 .iy)
  | 0x50 => pure (.pushReg16 .aw)
  | 0x51 => pure (.pushReg16 .cw)
  | 0x52 => pure (.pushReg16 .dw)
  | 0x53 => pure (.pushReg16 .bw)
  | 0x54 => pure (.pushReg16 .sp)
  | 0x55 => pure (.pushReg16 .bp)
  | 0x56 => pure (.pushReg16 .ix)
  | 0x57 => pure (.pushReg16 .iy)
  | 0x58 => pure (.popReg16 .aw)
  | 0x59 => pure (.popReg16 .cw)
  | 0x5A => pure (.popReg16 .dw)
  | 0x5B => pure (.popReg16 .bw)
  | 0x5C => pure (.popReg16 .sp)
  | 0x5D => pure (.popReg16 .bp)
  | 0x5E => pure (.popReg16 .ix)
  | 0x5F => pure (.popReg16 .iy)
  | 0x60 => pure .pushR
  | 0x61 => pure .popR
  | 0x62 => modMem16 .chkind
  | 0x64 => pure .prefixRepnc
  | 0x65 => pure .prefixRepc
  | 0x66 => modFpo (.fpo2 0)
  | 0x67 => modFpo (.fpo2 1)
  | 0x68 => imm16 .pushImm16
  | 0x69 => modReg16Imm16 fun e r imm => .mulReg16EwImm16 r e imm
  | 0x6A => imm8 .pushImm8
  | 0x6B => modReg16Imm8 fun e r imm => .mulReg16EwImm8 r e imm
  | 0x6C => pure .inmb
  | 0x6D => pure .inmw
  | 0x6E => pure .outmb
  | 0x6F => pure .outmw
  | 0x70 => imm8 .bv
  | 0x71 => imm8 .bnv
  | 0x72 => imm8 .bc
  | 0x73 => imm8 .bnc
  | 0x74 => imm8 .be
  | 0x75 => imm8 .bne
  | 0x76 => imm8 .bnh
  | 0x77 => imm8 .bh
  | 0x78 => imm8 .bn
  | 0x79 => imm8 .bp
  | 0x7A => imm8 .bpe
  | 0x7B => imm8 .bpo
  | 0x7C => imm8 .blt
  | 0x7D => imm8 .bge
  | 0x7E => imm8 .ble
  | 0x7F => imm8 .bgt
  | 0x80 => modRM >>= group80
  | 0x81 => modRM >>= group81
  | 0x82 => modRM >>= group82
  | 0x83 => modRM >>= group83
  | 0x84 => modReg8 .testEbRb
  | 0x85 => modReg16 .testEwRw
  | 0x86 => modReg8 .xchEbRb
  | 0x87 => modReg16 .xchEwRw
  | 0x88 => modReg8 .movEbRb
  | 0x89 => modReg16 .movEwRw
  | 0x8A => modReg8 fun e r => .movRbEb r e
  | 0x8B => modReg16 fun e r => .movRwEw r e
  | 0x8C => modSreg .movEwSreg
  | 0x8D => modMem16 .ldea
  | 0x8E => modSregLoad
  | 0x8F => modRM >>= group8F
  | 0x90 => pure .nop
  | 0x91 => pure (.xchAwReg16 .cw)
  | 0x92 => pure (.xchAwReg16 .dw)
  | 0x93 => pure (.xchAwReg16 .bw)
  | 0x94 => pure (.xchAwReg16 .sp)
  | 0x95 => pure (.xchAwReg16 .bp)
  | 0x96 => pure (.xchAwReg16 .ix)
  | 0x97 => pure (.xchAwReg16 .iy)
  | 0x98 => pure .cvtbw
  | 0x99 => pure .cvtwl
  | 0x9A => farPointer .callFar
  | 0x9B => pure .poll
  | 0x9C => pure .pushPsw
  | 0x9D => pure .popPsw
  | 0x9E => pure .movPswAh
  | 0x9F => pure .movAhPsw
  | 0xA0 => imm16 .movAlMem
  | 0xA1 => imm16 .movAwMem
  | 0xA2 => imm16 .movMemAl
  | 0xA3 => imm16 .movMemAw
  | 0xA4 => pure .movbkb
  | 0xA5 => pure .movbkw
  | 0xA6 => pure .cmpbkb
  | 0xA7 => pure .cmpbkw
  | 0xA8 => imm8 .testAlImm8
  | 0xA9 => imm16 .testAwImm16
  | 0xAA => pure .stmb
  | 0xAB => pure .stmw
  | 0xAC => pure .ldmb
  | 0xAD => pure .ldmw
  | 0xAE => pure .cmpmb
  | 0xAF => pure .cmpmw
  | 0xB0 => imm8 (.movReg8Imm8 .al)
  | 0xB1 => imm8 (.movReg8Imm8 .cl)
  | 0xB2 => imm8 (.movReg8Imm8 .dl)
  | 0xB3 => imm8 (.movReg8Imm8 .bl)
  | 0xB4 => imm8 (.movReg8Imm8 .ah)
  | 0xB5 => imm8 (.movReg8Imm8 .ch)
  | 0xB6 => imm8 (.movReg8Imm8 .dh)
  | 0xB7 => imm8 (.movReg8Imm8 .bh)
  | 0xB8 => imm16 (.movReg16Imm16 .aw)
  | 0xB9 => imm16 (.movReg16Imm16 .cw)
  | 0xBA => imm16 (.movReg16Imm16 .dw)
  | 0xBB => imm16 (.movReg16Imm16 .bw)
  | 0xBC => imm16 (.movReg16Imm16 .sp)
  | 0xBD => imm16 (.movReg16Imm16 .bp)
  | 0xBE => imm16 (.movReg16Imm16 .ix)
  | 0xBF => imm16 (.movReg16Imm16 .iy)
  | 0xC0 => modRM >>= groupC0
  | 0xC1 => modRM >>= groupC1
  | 0xC2 => imm16 .retNearPop
  | 0xC3 => pure .retNear
  | 0xC4 => modMem16 .movDs1Mem32
  | 0xC5 => modMem16 .movDs0Mem32
  | 0xC6 => modRM >>= groupC6
  | 0xC7 => modRM >>= groupC7
  | 0xC8 => imm16Imm8 .prepare
  | 0xC9 => pure .dispose
  | 0xCA => imm16 .retFarPop
  | 0xCB => pure .retFar
  | 0xCC => pure .brk3
  | 0xCD => imm8 .brkImm8
  | 0xCE => pure .brkv
  | 0xCF => pure .reti
  | 0xD0 => modRM >>= groupD0
  | 0xD1 => modRM >>= groupD1
  | 0xD2 => modRM >>= groupD2
  | 0xD3 => modRM >>= groupD3
  | 0xD4 => second 0x0A .cvtbd
  | 0xD5 => second 0x0A .cvtdb
  | 0xD7 => pure .trans
  | 0xD8 => modFpo (.fpo1 0)
  | 0xD9 => modFpo (.fpo1 1)
  | 0xDA => modFpo (.fpo1 2)
  | 0xDB => modFpo (.fpo1 3)
  | 0xDC => modFpo (.fpo1 4)
  | 0xDD => modFpo (.fpo1 5)
  | 0xDE => modFpo (.fpo1 6)
  | 0xDF => modFpo (.fpo1 7)
  | 0xE0 => imm8 .dbnzne
  | 0xE1 => imm8 .dbnze
  | 0xE2 => imm8 .dbnz
  | 0xE3 => imm8 .bcwz
  | 0xE4 => imm8 .inAlImm8
  | 0xE5 => imm8 .inAwImm8
  | 0xE6 => imm8 .outImm8Al
  | 0xE7 => imm8 .outImm8Aw
  | 0xE8 => imm16 .callNear
  | 0xE9 => imm16 .brNear
  | 0xEA => farPointer .brFar
  | 0xEB => imm8 .brShort
  | 0xEC => pure .inAlDw
  | 0xED => pure .inAwDw
  | 0xEE => pure .outDwAl
  | 0xEF => pure .outDwAw
  | 0xF0 => pure .prefixBuslock
  | 0xF2 => pure .prefixRepne
  | 0xF3 => pure .prefixRep
  | 0xF4 => pure .halt
  | 0xF5 => pure .not1Cy
  | 0xF6 => modRM >>= groupF6
  | 0xF7 => modRM >>= groupF7
  | 0xF8 => pure .clr1Cy
  | 0xF9 => pure .set1Cy
  | 0xFA => pure .di
  | 0xFB => pure .ei
  | 0xFC => pure .clr1Dir
  | 0xFD => pure .set1Dir
  | 0xFE => modRM >>= groupFE
  | 0xFF => modRM >>= groupFF
  | _ => undefinedEncoding

/-- What the decoder answers: the instruction, its length in bytes, and the bytes left over. -/
structure Decoded where
  instr : Instr
  length : Nat
  rest : List Byte
  deriving DecidableEq, Repr

/-- One instruction, a prefix being one, from the front of the bytes. -/
def decode (bytes : List Byte) : Except DecodeError Decoded :=
  match (next >>= decodeOpcode) ⟨bytes, 0⟩ with
  | .ok (i, st) => .ok ⟨i, st.used, st.rest⟩
  | .error e => .error e

/-- The second byte of STOP, if it is fixed (R9). -/
def StopOpcode.byte : StopOpcode → Option Byte
  | .byte9E => some 0x9E
  | .byteBE => some 0xBE
  | .unset => none

/-- What 0FH and one of the bytes 9EH and BEH stand for: STOP, if the byte is `STOP_OPCODE` (R431). -/
def decodeStop (p : StopOpcode) (b : Byte) (rest : List Byte) : Except DecodeError Decoded :=
  match p.byte with
  | some c => if b = c then .ok ⟨.stop, 2, rest⟩ else .error .undefinedEncoding
  | none => .error .stopUnset

/-- `decode` with the parameter `STOP_OPCODE` as an argument (R9); `decode` itself reads the opcode table, whose row of STOP
has 9EH. -/
def decodeWith (p : StopOpcode) (bytes : List Byte) : Except DecodeError Decoded :=
  match bytes with
  | a :: b :: rest => if a = 0x0F ∧ (b = 0x9E ∨ b = 0xBE) then decodeStop p b rest else decode bytes
  | _ => decode bytes

/-- How many bytes the longest instruction without prefixes has (R151). -/
def maxInstrBytes : Nat := 6

/-- The bytes of a table word: R169 writes the first byte as the most significant pair of digits (log 1); the bytes the
table gives no bits are 0. -/
def tableBytes (nbits w : Nat) : List Byte :=
  (List.range maxInstrBytes).map fun k =>
    if 8 * (k + 1) ≤ nbits then BitVec.ofNat 8 (w >>> (nbits - 8 * (k + 1))) else 0

/-- The instruction the decoder reads from the bits of a row of the opcode table. -/
def decodeTableWord (nbits w : Nat) : Option Instr :=
  match decode (tableBytes nbits w) with
  | .ok d => some d.instr
  | .error _ => none

/-! ### The encoder -/

/-- A word of an instruction, low byte first (R158). -/
def encWord (v : Word) : List Byte := [v.extractLsb' 0 8, v.extractLsb' 8 8]

/-- An opcode whose low bits are a register number (`OP_R`). -/
def opReg (base : Byte) (n : BitVec 3) : Byte := base ||| n.setWidth 8

/-- A mod-r/m byte with mod = 11. -/
def modReg (reg mem : BitVec 3) : Byte := 0b11#2 ++ reg ++ mem

/-- A memory operand as mod-r/m byte and displacement (R157, R160). -/
def MemOp.encode (reg : BitVec 3) : MemOp → List Byte
  | .direct addr => (0b00#2 ++ reg ++ 6#3 : Byte) :: encWord addr
  | .based0 b => [0b00#2 ++ reg ++ b.num]
  | .based8 b disp => [0b01#2 ++ reg ++ b.num, disp]
  | .based16 b disp => (0b10#2 ++ reg ++ b.num : Byte) :: encWord disp

/-- A byte operand as mod-r/m byte and displacement. -/
def RM.encode8 (reg : BitVec 3) : RM Reg8 → List Byte
  | .reg r => [modReg reg r.num]
  | .mem m => m.encode reg

/-- A word operand as mod-r/m byte and displacement. -/
def RM.encode16 (reg : BitVec 3) : RM Reg16 → List Byte
  | .reg r => [modReg reg r.num]
  | .mem m => m.encode reg

/-- The bytes of an instruction, in stream order, from the same tables as the decoder (R152, R165, R167). -/
def encode : Instr → List Byte
  | .addEbRb e r => 0x00 :: e.encode8 r.num
  | .addEwRw e r => 0x01 :: e.encode16 r.num
  | .addRbEb r e => 0x02 :: e.encode8 r.num
  | .addRwEw r e => 0x03 :: e.encode16 r.num
  | .addAlImm8 imm => [0x04, imm]
  | .addAwImm16 imm => 0x05 :: encWord imm
  | .addEbImm8 e imm => 0x80 :: (e.encode8 0 ++ [imm])
  | .addEwImm16 e imm => 0x81 :: (e.encode16 0 ++ encWord imm)
  | .addEbImm8Dup e imm => 0x82 :: (e.encode8 0 ++ [imm])
  | .addEwSextImm8 e imm => 0x83 :: (e.encode16 0 ++ [imm])
  | .orEbRb e r => 0x08 :: e.encode8 r.num
  | .orEwRw e r => 0x09 :: e.encode16 r.num
  | .orRbEb r e => 0x0A :: e.encode8 r.num
  | .orRwEw r e => 0x0B :: e.encode16 r.num
  | .orAlImm8 imm => [0x0C, imm]
  | .orAwImm16 imm => 0x0D :: encWord imm
  | .orEbImm8 e imm => 0x80 :: (e.encode8 1 ++ [imm])
  | .orEwImm16 e imm => 0x81 :: (e.encode16 1 ++ encWord imm)
  | .orEbImm8Dup e imm => 0x82 :: (e.encode8 1 ++ [imm])
  | .orEwSextImm8 e imm => 0x83 :: (e.encode16 1 ++ [imm])
  | .addcEbRb e r => 0x10 :: e.encode8 r.num
  | .addcEwRw e r => 0x11 :: e.encode16 r.num
  | .addcRbEb r e => 0x12 :: e.encode8 r.num
  | .addcRwEw r e => 0x13 :: e.encode16 r.num
  | .addcAlImm8 imm => [0x14, imm]
  | .addcAwImm16 imm => 0x15 :: encWord imm
  | .addcEbImm8 e imm => 0x80 :: (e.encode8 2 ++ [imm])
  | .addcEwImm16 e imm => 0x81 :: (e.encode16 2 ++ encWord imm)
  | .addcEbImm8Dup e imm => 0x82 :: (e.encode8 2 ++ [imm])
  | .addcEwSextImm8 e imm => 0x83 :: (e.encode16 2 ++ [imm])
  | .subcEbRb e r => 0x18 :: e.encode8 r.num
  | .subcEwRw e r => 0x19 :: e.encode16 r.num
  | .subcRbEb r e => 0x1A :: e.encode8 r.num
  | .subcRwEw r e => 0x1B :: e.encode16 r.num
  | .subcAlImm8 imm => [0x1C, imm]
  | .subcAwImm16 imm => 0x1D :: encWord imm
  | .subcEbImm8 e imm => 0x80 :: (e.encode8 3 ++ [imm])
  | .subcEwImm16 e imm => 0x81 :: (e.encode16 3 ++ encWord imm)
  | .subcEbImm8Dup e imm => 0x82 :: (e.encode8 3 ++ [imm])
  | .subcEwSextImm8 e imm => 0x83 :: (e.encode16 3 ++ [imm])
  | .andEbRb e r => 0x20 :: e.encode8 r.num
  | .andEwRw e r => 0x21 :: e.encode16 r.num
  | .andRbEb r e => 0x22 :: e.encode8 r.num
  | .andRwEw r e => 0x23 :: e.encode16 r.num
  | .andAlImm8 imm => [0x24, imm]
  | .andAwImm16 imm => 0x25 :: encWord imm
  | .andEbImm8 e imm => 0x80 :: (e.encode8 4 ++ [imm])
  | .andEwImm16 e imm => 0x81 :: (e.encode16 4 ++ encWord imm)
  | .andEbImm8Dup e imm => 0x82 :: (e.encode8 4 ++ [imm])
  | .andEwSextImm8 e imm => 0x83 :: (e.encode16 4 ++ [imm])
  | .subEbRb e r => 0x28 :: e.encode8 r.num
  | .subEwRw e r => 0x29 :: e.encode16 r.num
  | .subRbEb r e => 0x2A :: e.encode8 r.num
  | .subRwEw r e => 0x2B :: e.encode16 r.num
  | .subAlImm8 imm => [0x2C, imm]
  | .subAwImm16 imm => 0x2D :: encWord imm
  | .subEbImm8 e imm => 0x80 :: (e.encode8 5 ++ [imm])
  | .subEwImm16 e imm => 0x81 :: (e.encode16 5 ++ encWord imm)
  | .subEbImm8Dup e imm => 0x82 :: (e.encode8 5 ++ [imm])
  | .subEwSextImm8 e imm => 0x83 :: (e.encode16 5 ++ [imm])
  | .xorEbRb e r => 0x30 :: e.encode8 r.num
  | .xorEwRw e r => 0x31 :: e.encode16 r.num
  | .xorRbEb r e => 0x32 :: e.encode8 r.num
  | .xorRwEw r e => 0x33 :: e.encode16 r.num
  | .xorAlImm8 imm => [0x34, imm]
  | .xorAwImm16 imm => 0x35 :: encWord imm
  | .xorEbImm8 e imm => 0x80 :: (e.encode8 6 ++ [imm])
  | .xorEwImm16 e imm => 0x81 :: (e.encode16 6 ++ encWord imm)
  | .xorEbImm8Dup e imm => 0x82 :: (e.encode8 6 ++ [imm])
  | .xorEwSextImm8 e imm => 0x83 :: (e.encode16 6 ++ [imm])
  | .cmpEbRb e r => 0x38 :: e.encode8 r.num
  | .cmpEwRw e r => 0x39 :: e.encode16 r.num
  | .cmpRbEb r e => 0x3A :: e.encode8 r.num
  | .cmpRwEw r e => 0x3B :: e.encode16 r.num
  | .cmpAlImm8 imm => [0x3C, imm]
  | .cmpAwImm16 imm => 0x3D :: encWord imm
  | .cmpEbImm8 e imm => 0x80 :: (e.encode8 7 ++ [imm])
  | .cmpEwImm16 e imm => 0x81 :: (e.encode16 7 ++ encWord imm)
  | .cmpEbImm8Dup e imm => 0x82 :: (e.encode8 7 ++ [imm])
  | .cmpEwSextImm8 e imm => 0x83 :: (e.encode16 7 ++ [imm])
  | .incReg16 r => [opReg 0x40 r.num]
  | .decReg16 r => [opReg 0x48 r.num]
  | .pushReg16 r => [opReg 0x50 r.num]
  | .popReg16 r => [opReg 0x58 r.num]
  | .chkind r m => 0x62 :: m.encode r.num
  | .fpo2 op reg e => (0x66 ||| op.setWidth 8) :: e.encode16 reg
  | .pushImm16 imm => 0x68 :: encWord imm
  | .mulReg16EwImm16 r e imm => 0x69 :: (e.encode16 r.num ++ encWord imm)
  | .pushImm8 imm => [0x6A, imm]
  | .mulReg16EwImm8 r e imm => 0x6B :: (e.encode16 r.num ++ [imm])
  | .bv disp => [0x70, disp]
  | .bnv disp => [0x71, disp]
  | .bc disp => [0x72, disp]
  | .bnc disp => [0x73, disp]
  | .be disp => [0x74, disp]
  | .bne disp => [0x75, disp]
  | .bnh disp => [0x76, disp]
  | .bh disp => [0x77, disp]
  | .bn disp => [0x78, disp]
  | .bp disp => [0x79, disp]
  | .bpe disp => [0x7A, disp]
  | .bpo disp => [0x7B, disp]
  | .blt disp => [0x7C, disp]
  | .bge disp => [0x7D, disp]
  | .ble disp => [0x7E, disp]
  | .bgt disp => [0x7F, disp]
  | .testEbRb e r => 0x84 :: e.encode8 r.num
  | .testEwRw e r => 0x85 :: e.encode16 r.num
  | .xchEbRb e r => 0x86 :: e.encode8 r.num
  | .xchEwRw e r => 0x87 :: e.encode16 r.num
  | .movEbRb e r => 0x88 :: e.encode8 r.num
  | .movEwRw e r => 0x89 :: e.encode16 r.num
  | .movRbEb r e => 0x8A :: e.encode8 r.num
  | .movRwEw r e => 0x8B :: e.encode16 r.num
  | .movEwSreg e s => 0x8C :: e.encode16 s.field
  | .ldea r m => 0x8D :: m.encode r.num
  | .movSregEw s e => 0x8E :: e.encode16 s.field
  | .popEw e => 0x8F :: e.encode16 0
  | .xchAwReg16 r => [opReg 0x90 r.num]
  | .callFar off seg => 0x9A :: (encWord off ++ encWord seg)
  | .movAlMem addr => 0xA0 :: encWord addr
  | .movAwMem addr => 0xA1 :: encWord addr
  | .movMemAl addr => 0xA2 :: encWord addr
  | .movMemAw addr => 0xA3 :: encWord addr
  | .testAlImm8 imm => [0xA8, imm]
  | .testAwImm16 imm => 0xA9 :: encWord imm
  | .movReg8Imm8 r imm => [opReg 0xB0 r.num, imm]
  | .movReg16Imm16 r imm => opReg 0xB8 r.num :: encWord imm
  | .rolEbImm8 e imm => 0xC0 :: (e.encode8 0 ++ [imm])
  | .rorEbImm8 e imm => 0xC0 :: (e.encode8 1 ++ [imm])
  | .rolcEbImm8 e imm => 0xC0 :: (e.encode8 2 ++ [imm])
  | .rorcEbImm8 e imm => 0xC0 :: (e.encode8 3 ++ [imm])
  | .shlEbImm8 e imm => 0xC0 :: (e.encode8 4 ++ [imm])
  | .shrEbImm8 e imm => 0xC0 :: (e.encode8 5 ++ [imm])
  | .shraEbImm8 e imm => 0xC0 :: (e.encode8 7 ++ [imm])
  | .rolEwImm8 e imm => 0xC1 :: (e.encode16 0 ++ [imm])
  | .rorEwImm8 e imm => 0xC1 :: (e.encode16 1 ++ [imm])
  | .rolcEwImm8 e imm => 0xC1 :: (e.encode16 2 ++ [imm])
  | .rorcEwImm8 e imm => 0xC1 :: (e.encode16 3 ++ [imm])
  | .shlEwImm8 e imm => 0xC1 :: (e.encode16 4 ++ [imm])
  | .shrEwImm8 e imm => 0xC1 :: (e.encode16 5 ++ [imm])
  | .shraEwImm8 e imm => 0xC1 :: (e.encode16 7 ++ [imm])
  | .rolEb1 e => 0xD0 :: e.encode8 0
  | .rorEb1 e => 0xD0 :: e.encode8 1
  | .rolcEb1 e => 0xD0 :: e.encode8 2
  | .rorcEb1 e => 0xD0 :: e.encode8 3
  | .shlEb1 e => 0xD0 :: e.encode8 4
  | .shrEb1 e => 0xD0 :: e.encode8 5
  | .shraEb1 e => 0xD0 :: e.encode8 7
  | .rolEw1 e => 0xD1 :: e.encode16 0
  | .rorEw1 e => 0xD1 :: e.encode16 1
  | .rolcEw1 e => 0xD1 :: e.encode16 2
  | .rorcEw1 e => 0xD1 :: e.encode16 3
  | .shlEw1 e => 0xD1 :: e.encode16 4
  | .shrEw1 e => 0xD1 :: e.encode16 5
  | .shraEw1 e => 0xD1 :: e.encode16 7
  | .rolEbCl e => 0xD2 :: e.encode8 0
  | .rorEbCl e => 0xD2 :: e.encode8 1
  | .rolcEbCl e => 0xD2 :: e.encode8 2
  | .rorcEbCl e => 0xD2 :: e.encode8 3
  | .shlEbCl e => 0xD2 :: e.encode8 4
  | .shrEbCl e => 0xD2 :: e.encode8 5
  | .shraEbCl e => 0xD2 :: e.encode8 7
  | .rolEwCl e => 0xD3 :: e.encode16 0
  | .rorEwCl e => 0xD3 :: e.encode16 1
  | .rolcEwCl e => 0xD3 :: e.encode16 2
  | .rorcEwCl e => 0xD3 :: e.encode16 3
  | .shlEwCl e => 0xD3 :: e.encode16 4
  | .shrEwCl e => 0xD3 :: e.encode16 5
  | .shraEwCl e => 0xD3 :: e.encode16 7
  | .retNearPop imm => 0xC2 :: encWord imm
  | .movDs1Mem32 r m => 0xC4 :: m.encode r.num
  | .movDs0Mem32 r m => 0xC5 :: m.encode r.num
  | .movEbImm8 e imm => 0xC6 :: (e.encode8 0 ++ [imm])
  | .movEwImm16 e imm => 0xC7 :: (e.encode16 0 ++ encWord imm)
  | .prepare size level => 0xC8 :: (encWord size ++ [level])
  | .retFarPop imm => 0xCA :: encWord imm
  | .brkImm8 imm => [0xCD, imm]
  | .fpo1 op reg e => opReg 0xD8 op :: e.encode16 reg
  | .dbnzne disp => [0xE0, disp]
  | .dbnze disp => [0xE1, disp]
  | .dbnz disp => [0xE2, disp]
  | .bcwz disp => [0xE3, disp]
  | .inAlImm8 imm => [0xE4, imm]
  | .inAwImm8 imm => [0xE5, imm]
  | .outImm8Al imm => [0xE6, imm]
  | .outImm8Aw imm => [0xE7, imm]
  | .callNear disp => 0xE8 :: encWord disp
  | .brNear disp => 0xE9 :: encWord disp
  | .brFar off seg => 0xEA :: (encWord off ++ encWord seg)
  | .brShort disp => [0xEB, disp]
  | .testEbImm8 e imm => 0xF6 :: (e.encode8 0 ++ [imm])
  | .notEb e => 0xF6 :: e.encode8 2
  | .negEb e => 0xF6 :: e.encode8 3
  | .muluEb e => 0xF6 :: e.encode8 4
  | .mulEb e => 0xF6 :: e.encode8 5
  | .divuEb e => 0xF6 :: e.encode8 6
  | .divEb e => 0xF6 :: e.encode8 7
  | .testEwImm16 e imm => 0xF7 :: (e.encode16 0 ++ encWord imm)
  | .notEw e => 0xF7 :: e.encode16 2
  | .negEw e => 0xF7 :: e.encode16 3
  | .muluEw e => 0xF7 :: e.encode16 4
  | .mulEw e => 0xF7 :: e.encode16 5
  | .divuEw e => 0xF7 :: e.encode16 6
  | .divEw e => 0xF7 :: e.encode16 7
  | .incEb e => 0xFE :: e.encode8 0
  | .decEb e => 0xFE :: e.encode8 1
  | .incEw e => 0xFF :: e.encode16 0
  | .decEw e => 0xFF :: e.encode16 1
  | .callEw e => 0xFF :: e.encode16 2
  | .callMem32 m => 0xFF :: m.encode 3
  | .brEw e => 0xFF :: e.encode16 4
  | .brMem32 m => 0xFF :: m.encode 5
  | .pushEw e => 0xFF :: e.encode16 6
  | .test1EbCl e => 0x0F :: 0x10 :: e.encode8 0
  | .test1EwCl e => 0x0F :: 0x11 :: e.encode16 0
  | .test1EbImm3 e imm => 0x0F :: 0x18 :: (e.encode8 0 ++ [imm])
  | .test1EwImm4 e imm => 0x0F :: 0x19 :: (e.encode16 0 ++ [imm])
  | .clr1EbCl e => 0x0F :: 0x12 :: e.encode8 0
  | .clr1EwCl e => 0x0F :: 0x13 :: e.encode16 0
  | .clr1EbImm3 e imm => 0x0F :: 0x1A :: (e.encode8 0 ++ [imm])
  | .clr1EwImm4 e imm => 0x0F :: 0x1B :: (e.encode16 0 ++ [imm])
  | .set1EbCl e => 0x0F :: 0x14 :: e.encode8 0
  | .set1EwCl e => 0x0F :: 0x15 :: e.encode16 0
  | .set1EbImm3 e imm => 0x0F :: 0x1C :: (e.encode8 0 ++ [imm])
  | .set1EwImm4 e imm => 0x0F :: 0x1D :: (e.encode16 0 ++ [imm])
  | .not1EbCl e => 0x0F :: 0x16 :: e.encode8 0
  | .not1EwCl e => 0x0F :: 0x17 :: e.encode16 0
  | .not1EbImm3 e imm => 0x0F :: 0x1E :: (e.encode8 0 ++ [imm])
  | .not1EwImm4 e imm => 0x0F :: 0x1F :: (e.encode16 0 ++ [imm])
  | .rol4Eb e => 0x0F :: 0x28 :: e.encode8 0
  | .ror4Eb e => 0x0F :: 0x2A :: e.encode8 0
  | .brkcsReg16 r => [0x0F, 0x2D, opReg 0xC0 r.num]
  | .insReg8Reg8 off len => [0x0F, 0x31, modReg len.num off.num]
  | .extReg8Reg8 off len => [0x0F, 0x33, modReg len.num off.num]
  | .insReg8Imm4 off imm => [0x0F, 0x39, modReg 0 off.num, imm]
  | .extReg8Imm4 off imm => [0x0F, 0x3B, modReg 0 off.num, imm]
  | .tskswReg16 r => [0x0F, 0x94, opReg 0xF8 r.num]
  | .movspbReg16 r => [0x0F, 0x95, opReg 0xF8 r.num]
  | .btclr sfr imm disp => [0x0F, 0x9C, sfr, imm, disp]
  | .pushDs1 => [0x06]
  | .pushPs => [0x0E]
  | .pushSs => [0x16]
  | .pushDs0 => [0x1E]
  | .popDs1 => [0x07]
  | .popSs => [0x17]
  | .popDs0 => [0x1F]
  | .prefixDs1 => [0x26]
  | .prefixPs => [0x2E]
  | .prefixSs => [0x36]
  | .prefixDs0 => [0x3E]
  | .adj4a => [0x27]
  | .adj4s => [0x2F]
  | .adjba => [0x37]
  | .adjbs => [0x3F]
  | .pushR => [0x60]
  | .popR => [0x61]
  | .prefixRepnc => [0x64]
  | .prefixRepc => [0x65]
  | .inmb => [0x6C]
  | .inmw => [0x6D]
  | .outmb => [0x6E]
  | .outmw => [0x6F]
  | .nop => [0x90]
  | .cvtbw => [0x98]
  | .cvtwl => [0x99]
  | .poll => [0x9B]
  | .pushPsw => [0x9C]
  | .popPsw => [0x9D]
  | .movPswAh => [0x9E]
  | .movAhPsw => [0x9F]
  | .movbkb => [0xA4]
  | .movbkw => [0xA5]
  | .cmpbkb => [0xA6]
  | .cmpbkw => [0xA7]
  | .stmb => [0xAA]
  | .stmw => [0xAB]
  | .ldmb => [0xAC]
  | .ldmw => [0xAD]
  | .cmpmb => [0xAE]
  | .cmpmw => [0xAF]
  | .retNear => [0xC3]
  | .dispose => [0xC9]
  | .retFar => [0xCB]
  | .brk3 => [0xCC]
  | .brkv => [0xCE]
  | .reti => [0xCF]
  | .cvtbd => [0xD4, 0x0A]
  | .cvtdb => [0xD5, 0x0A]
  | .trans => [0xD7]
  | .inAlDw => [0xEC]
  | .inAwDw => [0xED]
  | .outDwAl => [0xEE]
  | .outDwAw => [0xEF]
  | .prefixBuslock => [0xF0]
  | .prefixRepne => [0xF2]
  | .prefixRep => [0xF3]
  | .halt => [0xF4]
  | .not1Cy => [0xF5]
  | .clr1Cy => [0xF8]
  | .set1Cy => [0xF9]
  | .di => [0xFA]
  | .ei => [0xFB]
  | .clr1Dir => [0xFC]
  | .set1Dir => [0xFD]
  | .add4s => [0x0F, 0x20]
  | .sub4s => [0x0F, 0x22]
  | .movspa => [0x0F, 0x25]
  | .cmp4s => [0x0F, 0x26]
  | .retrbi => [0x0F, 0x91]
  | .fint => [0x0F, 0x92]
  | .stop => [0x0F, 0x9E]

end Sys2Proof
end

