-- ==== Sys2Proof/Machine/Fetch.lean ====
section
/-! DEFINITION. Fetching: the bytes of the instruction stream, with the prefetch queue's old bytes, and the decoded
instruction at PC (R41, R80, R118, R141). -/

namespace Sys2Proof.Machine

/-- The old values a byte of the instruction stream may still have in the prefetch queue (R141). -/
def State.oldBytes (s : State) (a : PhysAddr) : List Byte :=
  (s.queueOld.filter fun c => c.1 == a.toNat).map (·.2)

/-- The byte in memory, or, if the queue may hold older ones, one of all of them by a free value (log 19). -/
def pickByte (new : Byte) (old : List Byte) (free : Word) : Byte :=
  match old with
  | [] => new
  | _ :: _ => (new :: old).getD (free.toNat % (old.length + 1)) new

/-- `FetchB()` for the byte `k` places ahead of PC: always external memory (R118). -/
def State.fetchByte (s : State) (k : Nat) : Except Stop Byte :=
  let a := s.fetchAddr k
  if reservedFetch a then .error (.fault .reservedFetch)
  else
    match s.kindAt a with
    | none => .error (.fault .unmappedFetch)
    | some _ => .ok (pickByte (s.ext.read a.toNat) (s.oldBytes a) (Config.freeWord (s.draws + k)))

/-- Up to `n` bytes from place `k` on, and why the next one cannot be fetched, if it cannot. -/
def State.fetchBytes (s : State) : Nat → Nat → List Byte × Option Stop
  | 0, _ => ([], none)
  | n + 1, k =>
    match s.fetchByte k with
    | .error e => ([], some e)
    | .ok b =>
      let rest := s.fetchBytes n (k + 1)
      (b :: rest.1, rest.2)

/-- The instruction at PC, a prefix being one, and its length; or why there is none. Only the bytes the instruction needs
have to be there. -/
def State.fetch (s : State) : Except Stop (Instr × Nat) :=
  let bytes := s.fetchBytes maxInstrBytes 0
  match decodeWith s.stopOpcode bytes.1 with
  | .ok d => .ok (d.instr, d.length)
  | .error .undefinedEncoding => .error (.refused .undefinedEncoding)
  | .error .stopUnset => .error (.refused .stopEncodingUnknown)
  | .error .truncated => .error (bytes.2.getD (.refused .undefinedEncoding))

/-- PC moved past `n` bytes; the count of its wraps keeps up (R41, R44). -/
def State.advancePc (s : State) (n : Nat) : State :=
  { s with
    pc := s.pc + BitVec.ofNat 16 n
    pcHigh := s.pcHigh + BitVec.ofNat 4 ((s.pc.toNat + n) / 0x10000) }

/-- Bytes put where the next instruction is fetched, the queue empty. -/
def State.placeBytes (s : State) : List Byte → Nat → State
  | [], _ => s.withQueueOld []
  | b :: rest, k => (s.withExt (s.ext.write (s.fetchAddr k).toNat b)).placeBytes rest (k + 1)

end Sys2Proof.Machine
end

