-- ==== Sys2Proof/Machine/Cycle.lean ====
section
/-! DEFINITION. One step: what is due at the boundary before an instruction (reset, standby, single step, NMI, a maskable
request), and the execution of one instruction, one prefix or one iteration of a repeated block instruction (R234, R430,
R431, R449, R503, R516, R517, R600). -/

namespace Sys2Proof.Machine

/-! ### Kinds of instructions -/

/-- The prefixes (R164). -/
def isPrefix : Instr → Bool
  | .prefixDs1 => true
  | .prefixPs => true
  | .prefixSs => true
  | .prefixDs0 => true
  | .prefixRep => true
  | .prefixRepne => true
  | .prefixRepc => true
  | .prefixRepnc => true
  | .prefixBuslock => true
  | _ => false

/-- The instruction of a block operation. -/
def BlockOp.toInstr : BlockOp → Instr
  | .movbkb => .movbkb
  | .movbkw => .movbkw
  | .cmpbkb => .cmpbkb
  | .cmpbkw => .cmpbkw
  | .cmpmb => .cmpmb
  | .cmpmw => .cmpmw
  | .ldmb => .ldmb
  | .ldmw => .ldmw
  | .stmb => .stmb
  | .stmw => .stmw
  | .inmb => .inmb
  | .inmw => .inmw
  | .outmb => .outmb
  | .outmw => .outmw

/-- The instruction the next step goes on with. -/
def Resume.toInstr : Resume → Instr
  | .block b => b.toInstr
  | .poll => .poll

/-- The block instructions, which a repeat prefix may precede (R234). -/
def isBlock : Instr → Bool
  | .movbkb => true
  | .movbkw => true
  | .cmpbkb => true
  | .cmpbkw => true
  | .cmpmb => true
  | .cmpmw => true
  | .ldmb => true
  | .ldmw => true
  | .stmb => true
  | .stmw => true
  | .inmb => true
  | .inmw => true
  | .outmb => true
  | .outmw => true
  | _ => false

/-! ### The boundary between instructions -/

/-- The offset of the next instruction to execute, which an external interrupt saves: PC, or the first prefix of the
instruction to be resumed (R234, R449, R501). -/
def State.nextOffset (s : State) : Word := if s.resume.isSome then s.start else s.pc

/-- A prefix has been taken and its instruction has not begun (R517 b). -/
def State.afterPrefix (s : State) : Bool := s.pre != Prefixes.none && s.resume.isNone

/-- What is due. -/
inductive Boundary where
  | reset
  /-- In standby, with nothing to end it. -/
  | asleep
  /-- Standby ends. -/
  | wake
  | singleStep
  | nmi
  | request (r : IrqRequest)
  | execute
  deriving DecidableEq, Repr

/-- What is due before the next instruction, in the order of R516 and R517: RESET, the end of standby (R430, R431), the
single-step trap (R503), NMI, a maskable request if IE = 1 (R515), the next instruction. A trap due after HALT or STOP waits
until standby ends (DESIGN CHOICE, log 17). In HALT with IE = 1 a macro service request is served and HALT goes on (R430,
R515); whether another request ends HALT with IE = 0 is open (log 25). A request that is not masked but is not presented, for its
priority is too low (R516), does not end HALT, whatever IE is (DESIGN CHOICE, log 25). A protected boundary holds between the iterations of a
repeated block instruction too, also against the single-step trap (DESIGN CHOICE, log 42). RESET is served here alone, so never
between two accesses of one instruction or iteration (DESIGN CHOICE, log 43). BUSLOCK holds off no macro service between the
iterations of a repeated block instruction (DESIGN CHOICE, log 49). -/
def State.boundary (s : State) : Boundary :=
  if s.resetPin then .reset
  else
    match s.run with
    | .stopped => if s.nmi then .wake else .asleep
    | .halted =>
      if s.nmi then .wake
      else
        match s.irq with
        | none => .asleep
        | some .macroService => if s.flag .ie then .request .macroService else .asleep
        | some _ => if s.flag .ie || Config.haltEndsWithoutIe then .wake else .asleep
    | .running =>
      if s.afterPrefix then .execute
      else if s.hold then .execute
      else if s.trace && (s.resume.isNone || Config.stepTrapBetweenIterations) then .singleStep
      else if s.nmi then .nmi
      else
        match s.irq with
        | none => .execute
        | some r => if s.flag .ie then .request r else .execute

/-- The instruction under way is over: no prefix is left, and a new IDB is in force (R120, R164). -/
def State.settle (s : State) : State := { s with pre := Prefixes.none, area := s.idb }

/-- RESET asserted during a run: the state of R601, with external memory and the outside world as they are and STBC, DMAC0
and DMAC1 held (R600, R604; log 43). -/
def State.warmReset (s : State) : State :=
  { State.reset with
    ext := s.ext
    memmap := s.memmap
    iomap := s.iomap
    stopOpcode := s.stopOpcode
    events := s.events
    draws := s.draws
    stbc := s.stbc
    sfr := (State.reset.sfr.write 0xA0 (s.sfr.read 0xA0)).write 0xA2 (s.sfr.read 0xA2) }

/-- An entry, and after it the boundary settled. -/
def enter (x : M Unit) : M Unit := do
  x
  update State.settle

/-- The single-step trap (R503). -/
def takeSingleStep : M Unit := do
  enter (raise 1 (← reads State.nextOffset))

/-- NMI: the latch is cleared, entry through vector 2 (R507). -/
def takeNmi : M Unit := do
  update fun s => { s with nmi := false }
  enter (raise 2 (← reads State.nextOffset))

/-- A macro service response: a step of the environment between two instructions, or in HALT (R430, R538). An IDB it writes is in force from
the next instruction on (R120). -/
def State.serviced (s : State) : State :=
  if s.resume.isNone then { s.service with area := s.service.idb } else s.service

/-- A maskable request, by its response mode (R519, R530, R535, R538). -/
def takeRequest (r : IrqRequest) : M Unit := do
  update fun s => { s with irq := none }
  match r with
  | .vectored v => enter (raise v (← reads State.nextOffset))
  | .bankSwitch n => enter (bankEntry n (← reads State.nextOffset))
  | .macroService => update State.serviced

/-! ### One instruction -/

/-- The state an instruction of `n` bytes starts in: PC past it, its first byte noted, a trap due after it if BRK = 1
(R503); the values the fetch drew are used up. A prefix keeps all that for its instruction. -/
def State.begin (s : State) (i : Instr) (n : Nat) : State :=
  let t := { s.advancePc n with
    start := if s.afterPrefix then s.start else s.pc
    draws := if s.queueOld.isEmpty then s.draws else s.draws + maxInstrBytes }
  if isPrefix i then t else { t with hold := false, trace := s.flag .brk, resume := none }

/-- The state a resumed instruction starts its next iteration in. -/
def State.beginAgain (s : State) : State := { s with hold := false, trace := s.flag .brk, resume := none }

/-- What follows an instruction that began in `s` and left `t`. A prefix leaves its mark standing; between two iterations
the prefixes stand and a protected boundary stays protected (R234, R517). A POLL that waits ends the protection of the boundary
before it: from its first look on, interrupts are accepted (R449; DESIGN CHOICE, log 42). -/
def State.finish (s : State) (i : Instr) (t : State) : State :=
  if isPrefix i then t
  else
    match t.resume with
    | some (.block _) => t.withHold s.hold
    | some .poll => t
    | none => t.settle

/-- One instruction that began in `s`, from the state `b`. -/
def runInstr (s : State) (i : Instr) (b : State) : Host.Outcome State Fault Refusal :=
  match exec i b with
  | .next t => .next (s.finish i t)
  | .fault f => .fault f
  | .refused r => .refused r

/-- The next instruction: the one to be resumed, or the one at PC. A repeat prefix in front of anything but a block
instruction or another prefix has no meaning (R234, log 32). -/
def execute (s : State) : Host.Outcome State Fault Refusal :=
  match s.resume with
  | some r => runInstr s r.toInstr s.beginAgain
  | none =>
    match s.fetch with
    | .error (.fault f) => .fault f
    | .error (.refused r) => .refused r
    | .ok (i, n) =>
      if s.pre.rep.isSome && !isPrefix i && !isBlock i then .refused .repeatOnNonBlock
      else runInstr s i (s.begin i n)

/-- One step of the machine. -/
def cycle (s : State) : Host.Outcome State Fault Refusal :=
  match s.boundary with
  | .reset => .next s.warmReset
  | .asleep => .next s
  | .wake => .next (s.withRun .running)
  | .singleStep => act takeSingleStep s
  | .nmi => act takeNmi s
  | .request r => act (takeRequest r) s
  | .execute => execute s

end Sys2Proof.Machine
end

