-- ==== Sys2Proof/Machine/Step.lean ====
section
/-! DEFINITION. The step function of the machine, and where its next instruction is placed. -/

namespace Sys2Proof.Machine

/-- One step: whatever is due at the boundary, else one instruction (`cycle`). -/
def step (s : State) : Host.Outcome State Fault Refusal := cycle s

/-- The state with the instruction of a table word stored where `step` fetches its next instruction, followed by bytes of
zeros up to the longest instruction (log 1, 2). -/
def State.withFetchWord (s : State) (nbits w : Nat) : State := s.placeBytes (tableBytes nbits w) 0

end Sys2Proof.Machine
end

