-- ==== Sys2Proof/Safety.lean ====
section
/-! DEFINITION. The terms the claims are stated in: the invariant of every step, runs, when an access completes, what an
entry leaves, and what an instruction leaves unchanged. -/

namespace Sys2Proof.Machine

/-! ### The invariant and runs -/

/-- What every step keeps: the three memories stay in their canonical form, and bit 15 of the PSW stays 1 (R47). -/
structure State.Inv (s : State) : Prop where
  ext : s.ext.wf 0x100000 = true
  iram : s.iram.wf 0x100 = true
  sfr : s.sfr.wf 0x100 = true
  psw15 : bit15 s.psw = true

/-- `n` steps, none of them a fault or a refusal, lead from one state to another. -/
def Runs : Nat → State → State → Prop
  | 0, s, t => s = t
  | n + 1, s, t => ∃ u, step s = .next u ∧ Runs n u t

/-- A run of `n` steps is safe: no step of it stops the machine. -/
def RunsSafely (n : Nat) (s : State) : Prop := ∃ t, Runs n s t

/-! ### When an access completes -/

/-- An external memory address a data access may reach: mapped and not reserved (R114, R115). -/
def State.memAt (s : State) (a : PhysAddr) : Bool := s.target a == .ext && !reservedData a && (s.kindAt a).isSome

/-- The same, and it is RAM, so that a store is kept (R116). -/
def State.ramAt (s : State) (a : PhysAddr) : Bool := s.target a == .ext && !reservedData a && s.kindAt a == some .ram

/-- A byte access at this address completes (R113 to R117). -/
def State.byteOk (s : State) (a : PhysAddr) : Bool :=
  match s.target a with
  | .idbReg => true
  | .iram _ => true
  | .sfr o => sfrByteKind o != .wordOnly
  | .ext => s.memAt a

/-- A word access at this address completes: one access of a 16-bit SFR, or two byte accesses (R115, R117). -/
def State.wordOk (s : State) (a : PhysAddr) : Bool := s.isSfrWord a || (s.byteOk a && s.byteOk (a + 1))

/-- A 32-bit operand can be read: it fits in the segment, and both its words can be (R106). -/
def State.pairOk (s : State) (seg off : Word) : Bool :=
  decide (off.toNat < 0xFFFE) && s.wordOk (phys seg off) && s.wordOk (phys seg (off + 2))

/-- The word in external memory at an address, low byte first (R104, R106). -/
def State.extWord (s : State) (a : PhysAddr) : Word := s.ext.read (a + 1).toNat ++ s.ext.read a.toNat

/-- A word in plain RAM. -/
def State.ramWordAt (s : State) (a : PhysAddr) : Bool := s.ramAt a && s.ramAt (a + 1)

/-- A word in plain external memory. -/
def State.memWordAt (s : State) (a : PhysAddr) : Bool := s.memAt a && s.memAt (a + 1)

/-! ### The stack -/

/-- The address `k` bytes below the top of the stack. -/
def State.below (s : State) (k : Nat) : PhysAddr := phys (s.sreg .ss) (s.reg16 .sp - BitVec.ofNat 16 k)

/-- The address `k` bytes above the top of the stack. -/
def State.above (s : State) (k : Nat) : PhysAddr := phys (s.sreg .ss) (s.reg16 .sp + BitVec.ofNat 16 k)

/-- There is plain RAM below the top of the stack for `n` words. -/
def State.roomFor (s : State) (n : Nat) : Bool := (List.range n).all fun i => s.ramWordAt (s.below (2 * (i + 1)))

/-- The `n` words on top of the stack lie in plain memory. -/
def State.holdsWords (s : State) (n : Nat) : Bool := (List.range n).all fun i => s.memWordAt (s.above (2 * i))

/-- The bytes of the `n` words below the top of the stack. -/
def State.pushBytes (s : State) (n : Nat) : List PhysAddr :=
  (List.range n).flatMap fun i => [s.below (2 * (i + 1)), s.below (2 * (i + 1)) + 1]

/-- The address of an interrupt vector (R500). -/
def vectorAddr (v : Byte) : PhysAddr := v.setWidth 20 * 4

/-- An entry through a vector completes on plain memory: room for three words, and the vector in plain memory. -/
def State.entryOk (s : State) (v : Byte) : Bool :=
  s.roomFor 3 && s.memWordAt (vectorAddr v) && s.memWordAt (vectorAddr v + 2)

/-! ### Operands of either size -/

/-- What the claims need to know of byte operands and of word operands: the operations, the on-chip RAM cells a register
is, when a memory access completes, the bytes it covers. -/
structure Size (w : Nat) (ρ : Type) where
  ops : Width w ρ
  keys : State → ρ → List Nat
  okAt : State → PhysAddr → Bool
  span : PhysAddr → List PhysAddr

def byteSize : Size 8 Reg8 where
  ops := byteOp
  keys := fun s r => [bankKey s.bank (offReg8 r)]
  okAt := State.byteOk
  span := fun a => [a]

def wordSize : Size 16 Reg16 where
  ops := wordOp
  keys := fun s r => [bankKey s.bank (offReg16 r), bankKey s.bank (offReg16 r + 1)]
  okAt := State.wordOk
  span := fun a => [a, a + 1]

section
variable {w : Nat} {ρ : Type}

/-- An access to the place completes. -/
def Size.placeOk (z : Size w ρ) (s : State) : Place ρ → Bool
  | .reg _ => true
  | .mem seg off => z.okAt s (phys seg off)

/-- The register cells of the place. -/
def Size.placeKeys (z : Size w ρ) (s : State) : Place ρ → List Nat
  | .reg r => z.keys s r
  | .mem _ _ => []

/-- The memory bytes of the place. -/
def Size.placeBytes (z : Size w ρ) : Place ρ → List PhysAddr
  | .reg _ => []
  | .mem seg off => z.span (phys seg off)

end

/-- The cells of a segment register. -/
def sregKeys (s : State) (r : SReg) : List Nat := [bankKey s.bank (offSReg r), bankKey s.bank (offSReg r + 1)]

/-- The cells of a word at an offset of a bank. -/
def bankKeys (b : BitVec 3) (off : Nat) : List Nat := [bankKey b off, bankKey b (off + 1)]

/-! ### What stays unchanged -/

/-- The physical address of a special function register, by the mapping in force (R110). -/
def State.sfrAddr (s : State) (o : Byte) : PhysAddr := s.area ++ 0xF#4 ++ o

/-- The physical address of an on-chip RAM byte, by the mapping in force (R110). -/
def State.iramAddr (s : State) (k : Byte) : PhysAddr := s.area ++ 0xE#4 ++ k

/-- From `s` to `t` nothing changed but the register cells `regs`, the PSW bits of `mask`, and the bytes stored to; a
peripheral's register may also change by being read (R77), so its address must be neither among the bytes loaded nor among
those stored. -/
structure Frame (s t : State) (regs : List Nat) (mask : Word) (loaded stored : List PhysAddr) : Prop where
  /-- Every register of every bank, and all on-chip RAM. -/
  iram : ∀ k : Byte, k.toNat ∉ regs → s.iramAddr k ∉ stored → t.iram.read k.toNat = s.iram.read k.toNat
  /-- External memory. -/
  ext : ∀ a : PhysAddr, a ∉ stored → t.ext.read a.toNat = s.ext.read a.toNat
  /-- The PSW; its bits 5 and 3 can also be stored to, through FLAG (R72). -/
  psw : ∀ i, i < 16 → mask.getLsbD i = false → (i = 3 ∨ i = 5 → s.sfrAddr sfrFlag ∉ stored) →
    t.psw.getLsbD i = s.psw.getLsbD i
  idb : 0xFFFFF#20 ∉ stored → s.sfrAddr sfrIdb ∉ stored → t.idb = s.idb
  prc : s.sfrAddr sfrPrc ∉ stored → t.prc = s.prc
  stbc : s.sfrAddr sfrStbc ∉ stored → t.stbc = s.stbc
  sfr : ∀ o : Byte, s.sfrAddr o ∉ loaded → s.sfrAddr o ∉ stored → t.sfr.read o.toNat = s.sfr.read o.toNat
  area : t.area = s.area
  nmi : t.nmi = s.nmi
  irq : t.irq = s.irq
  resetPin : t.resetPin = s.resetPin
  memmap : t.memmap = s.memmap
  iomap : t.iomap = s.iomap
  stopOpcode : t.stopOpcode = s.stopOpcode

/-- Neither standby nor what is due at the next boundary changed. -/
structure Quiet (s t : State) : Prop where
  run : t.run = s.run
  hold : t.hold = s.hold
  trace : t.trace = s.trace
  pre : t.pre = s.pre
  resume : t.resume = s.resume

/-! ### Plain storage -/

/-- The byte is plain storage for data: external RAM, or on-chip RAM reached as memory. -/
def State.storageAt (s : State) (a : PhysAddr) : Bool :=
  match s.target a with
  | .iram _ => true
  | .ext => s.ramAt a
  | _ => false

/-- Both bytes of a word are. -/
def State.storageWordAt (s : State) (a : PhysAddr) : Bool := s.storageAt a && s.storageAt (a + 1)

/-- The ports of an element of `n` bytes are mapped (R130). -/
def State.portsOk (s : State) (n port : Word) : Bool := s.portMapped port && (n == 1 || s.portMapped (port + 1))

/-! ### Pushed and popped words -/

/-- `t` is `s` after `Push16(v)` (R400). -/
def Pushes (v : Word) (s t : State) : Prop :=
  writeWord (s.below 2) v (s.setReg16 .sp (s.reg16 .sp - 2)) = .ok ((), t)

/-- `t` is `s` after `Pop16()`, which gave `v` (R401). -/
def Pops (s : State) (v : Word) (t : State) : Prop :=
  ∃ u, readWord (s.above 0) s = .ok (v, u) ∧ t = u.setReg16 .sp (u.reg16 .sp + 2)

/-- What a far call leaves: PS and the return offset pushed, PS and PC loaded (R368, R369). -/
structure FarCalled (seg off : Word) (s t : State) : Prop where
  savedPs : t.extWord (s.below 2) = s.sreg .ps
  savedPc : t.extWord (s.below 4) = s.pc
  sp : t.reg16 .sp = s.reg16 .sp - 4
  ps : t.sreg .ps = seg
  pc : t.pc = off
  queue : t.queueOld = []

/-! ### What an entry leaves -/

/-- The state after an entry through vector `v` with `ret` as the offset saved, on plain memory (R530). -/
structure Entered (v : Byte) (ret : Word) (s t : State) : Prop where
  savedPsw : t.extWord (s.below 2) = s.psw
  savedPs : t.extWord (s.below 4) = s.sreg .ps
  savedPc : t.extWord (s.below 6) = ret
  sp : t.reg16 .sp = s.reg16 .sp - 6
  psw : t.psw = withFlag (withFlag s.psw .ie false) .brk false
  pc : t.pc = t.extWord (vectorAddr v)
  ps : t.sreg .ps = t.extWord (vectorAddr v + 2)
  queue : t.queueOld = []
  run : t.run = .running
  resume : t.resume = none
  trace : t.trace = false
  frame : Frame s t (bankKeys s.bank (offReg16 .sp) ++ sregKeys s .ps) 0x0300 [] (s.pushBytes 3)

/-- What a register bank switch to bank `n` leaves, `ret` the offset saved and `mask` the PSW bits it may change
(R460, R535). -/
structure Switched (n : BitVec 3) (ret mask : Word) (s t : State) : Prop where
  savedPsw : t.bankWord n offPswSave = s.psw
  savedPc : t.bankWord n offPcSave = ret
  bank : t.bank = n
  pc : t.pc = s.bankWord n offVectorPc
  queue : t.queueOld = []
  frame : Frame s t (bankKeys n offPswSave ++ bankKeys n offPcSave) mask [] []

/-! ### What macro service leaves -/

/-- The state after a macro service response (R26, R538): PC, PSW and the registers of banks 2 to 7 are as before, and so
is all memory that is not RAM; RAM, the special function registers and banks 0 and 1 hold what the environment chose. -/
structure Serviced (s t : State) : Prop where
  pc : t.pc = s.pc
  pcHigh : t.pcHigh = s.pcHigh
  psw : t.psw = s.psw
  banks : ∀ (b : BitVec 3) (off : Nat), 2 ≤ b.toNat → t.bankByte b off = s.bankByte b off
  ext : ∀ a : PhysAddr, s.kindAt a ≠ some .ram ∨ reservedData a = true → t.ext.read a.toNat = s.ext.read a.toNat
  /-- A write to a reserved address is ignored (R74). -/
  reservedSfr : ∀ o : Byte, sfrByteKind o = .reserved → t.sfr.read o.toNat = s.sfr.read o.toNat
  /-- A bit of STBC is never cleared (R76). -/
  stbc : s.stbc &&& t.stbc = s.stbc
  /-- A new IDB is in force from the next instruction on (R120). -/
  area : t.area = if s.resume.isNone then t.idb else s.area
  start : t.start = s.start
  quiet : Quiet s t
  nmi : t.nmi = s.nmi
  irq : t.irq = s.irq
  resetPin : t.resetPin = s.resetPin
  memmap : t.memmap = s.memmap
  iomap : t.iomap = s.iomap
  stopOpcode : t.stopOpcode = s.stopOpcode
  events : t.events = .macroService :: s.events

/-! ### After reset -/

/-- The special function registers other than STBC, FLAG, PRC and IDB to which the spec gives a value after reset, with
that value (R75). -/
def resetCells : List (Byte × Byte) := [
  (0x01, 0xFF), (0x02, 0x00), (0x09, 0xFF), (0x0A, 0x00), (0x11, 0xFF), (0x12, 0x00), (0x3B, 0x00), (0x40, 0x00),
  (0x4C, 0x47), (0x4D, 0x47), (0x4E, 0x47), (0x68, 0x00), (0x69, 0x00), (0x6A, 0x00), (0x6B, 0x60), (0x6C, 0x47),
  (0x6D, 0x47), (0x6E, 0x47), (0x78, 0x00), (0x79, 0x00), (0x7A, 0x00), (0x7B, 0x60), (0x7C, 0x47), (0x7D, 0x47),
  (0x7E, 0x47), (0x90, 0x00), (0x91, 0x00), (0x9C, 0x47), (0x9D, 0x47), (0x9E, 0x47), (0xA1, 0x00), (0xA3, 0x00),
  (0xAC, 0x47), (0xAD, 0x47), (0xE1, 0xFC), (0xE8, 0xFF), (0xE9, 0xFF), (0xEC, 0x47), (0xFC, 0x00)]

/-- The registers to which the spec gives a value after reset hold it (R601). -/
structure AfterReset (t : State) : Prop where
  pc : t.pc = 0x0000
  psw : t.psw = 0xF002
  ps : t.sreg .ps = 0xFFFF
  ss : t.sreg .ss = 0x0000
  ds0 : t.sreg .ds0 = 0x0000
  ds1 : t.sreg .ds1 = 0x0000
  idb : t.idb = 0xFF
  area : t.area = 0xFF
  prc : t.prc = 0x4E
  cells : ∀ c ∈ resetCells, t.sfr.read c.1.toNat = c.2
  queue : t.queueOld = []
  pre : t.pre = Prefixes.none
  resume : t.resume = none
  run : t.run = .running
  hold : t.hold = false
  trace : t.trace = false
  nmi : t.nmi = false
  irq : t.irq = none

/-! ### The rows of Table 3-4 (R74, R75, R117), written out once more for the claims -/

/-- The offsets a byte access reads and writes: the rows marked R/W, and E9H, the high-order byte of WTC (log 56). -/
def sfrReadWriteOffsets : List Byte := [
  0x00, 0x08, 0x10, 0x3B, 0x40, 0x44, 0x45, 0x46, 0x4C, 0x4D, 0x4E, 0x65, 0x66, 0x68, 0x69, 0x6A, 0x6C, 0x6D,
  0x6E, 0x75, 0x76, 0x78, 0x79, 0x7A, 0x7C, 0x7D, 0x7E, 0x90, 0x91, 0x94, 0x95, 0x96, 0x9C, 0x9D, 0x9E, 0xA0,
  0xA1, 0xA2, 0xA3, 0xAC, 0xAD, 0xC0, 0xC1, 0xC2, 0xC4, 0xC5, 0xC6, 0xC8, 0xC9, 0xD0, 0xD1, 0xD2, 0xD4, 0xD5,
  0xD6, 0xD8, 0xD9, 0xE0, 0xE1, 0xE8, 0xE9, 0xEA, 0xEB, 0xEC, 0xFF]

/-- The rows marked R; FCH is ISPR (log 58). -/
def sfrReadOnlyOffsets : List Byte := [
  0x38, 0x60, 0x6B, 0x70, 0x7B, 0xEF, 0xFC]

/-- The rows marked W. -/
def sfrWriteOnlyOffsets : List Byte := [
  0x01, 0x02, 0x09, 0x0A, 0x11, 0x12, 0x62, 0x72]

/-- Both bytes of the registers of 16 bits alone. -/
def sfrWordOnlyOffsets : List Byte := [
  0x80, 0x81, 0x82, 0x83, 0x88, 0x89, 0x8A, 0x8B]

/-- The offsets at which a word access is one access of 16 bits. -/
def sfrWordOffsets : List Byte := [
  0x80, 0x82, 0x88, 0x8A, 0xC0, 0xC1, 0xC4, 0xC5, 0xC8, 0xC9, 0xD0, 0xD1, 0xD4, 0xD5, 0xD8, 0xD9, 0xE8]

/-! ### Decimal numbers -/

/-- The packed decimal byte of a number below 100. -/
def packedByte (k : Nat) : Byte := BitVec.ofNat 8 (k / 10 * 16 + k % 10)

/-- The number a byte of two decimal digits stands for. -/
def digitsOf (x : Byte) : Nat := x.toNat / 16 * 10 + x.toNat % 16

/-- The number a string of such bytes stands for, the least significant byte first. -/
def decimalOf : List Byte → Nat
  | [] => 0
  | x :: rest => digitsOf x + 100 * decimalOf rest

/-- The bytes of external memory at `n` offsets from `off` on. -/
def State.extBytes (s : State) (seg off : Word) (n : Nat) : List Byte :=
  (List.range n).map fun i => s.ext.read (phys seg (off + BitVec.ofNat 16 i)).toNat

/-! ### Logical operations -/

/-- What a logical operation makes of two bits (R321 to R324). -/
def AluOp.onBits : AluOp → Bool → Bool → Bool
  | .or, x, y => x || y
  | .xor, x, y => x != y
  | _, x, y => x && y

/-! ### What an instruction of each shape leaves -/

/-- The instructions that set, clear or invert one bit of an operand (R331 to R333). -/
inductive BitOp where
  | clear | set | invert
  deriving DecidableEq, Repr

/-- What the bit becomes. -/
def BitOp.apply : BitOp → Bool → Bool
  | .clear, _ => false
  | .set, _ => true
  | .invert, b => !b

section
variable {w : Nat} {ρ : Type}

/-- `i` ends in `t`: the flags of `op` on `a` and `b` written, then, if the operation stores, the result in `d`. The values
of undefined flags are any. -/
def Size.AluEnds (z : Size w ρ) (op : AluOp) (d : Place ρ) (a b : BitVec w) (s1 : State) (i : Instr) (s : State) : Prop :=
  ∃ n free t, s1.draws ≤ n ∧ exec i s = .next t ∧
    (let u := (s1.withDraws n).setStatus maskStatus (op.status a b (s.flag .cy) free)
     if op.stores then writePlace z.ops d (op.result a b (s.flag .cy)) u = .ok ((), t) else t = u)

/-- `i` ends in the state that reading `d` and writing `f` of its value back leaves, `mask` flags then set to `status`. -/
def Size.ModifyEnds (z : Size w ρ) (d : Place ρ) (f : BitVec w → BitVec w) (mask : Word) (status : BitVec w → Word)
    (i : Instr) (s : State) : Prop :=
  ∃ a s1 t, readPlace z.ops d s = .ok (a, s1) ∧ writePlace z.ops d (f a) s1 = .ok ((), t) ∧
    exec i s = .next (t.setStatus mask (status a))

/-- `i` ends in a shift or rotate of `d` by `c`: with `c = 0` the operand is written back and no flag; else the flags and
the result of `c` one-bit steps are written. -/
def Size.ShiftEnds (z : Size w ρ) (op : ShiftOp) (d : Place ρ) (c : Nat) (i : Instr) (s : State) : Prop :=
  ∃ a s1 n free t, readPlace z.ops d s = .ok (a, s1) ∧ s1.draws ≤ n ∧ exec i s = .next t ∧
    (if c = 0 then writePlace z.ops d a s1 = .ok ((), t)
     else
       let out := op.steps c (a, s.flag .cy)
       writePlace z.ops d out.1 ((s1.withDraws n).setStatus op.mask (op.status out.1 out.2 c free)) = .ok ((), t))

/-- `i` ends in one bit of `d` changed, no other bit and no flag. -/
def Size.BitEnds (z : Size w ρ) (op : BitOp) (d : Place ρ) (n : Nat) (i : Instr) (s : State) : Prop :=
  ∃ a s1 r t, readPlace z.ops d s = .ok (a, s1) ∧
    (∀ j, j < w → r.getLsbD j = if j = n then op.apply (a.getLsbD j) else a.getLsbD j) ∧
    writePlace z.ops d r s1 = .ok ((), t) ∧ exec i s = .next t

/-! ### Block instructions, without a repeat prefix -/

/-- MOVBK ends (R240): the element at `srcseg:IX` stored at `DS1:IY`, both indices stepped. -/
def Size.MoveEnds (z : Size w ρ) (i : Instr) (s : State) : Prop :=
  ∃ v u t, z.ops.readMem (s.segValue .ds0) (s.reg16 .ix) s = .ok (v, u) ∧
    z.ops.writeMem (s.sreg .ds1) (s.reg16 .iy) v u = .ok ((), t) ∧
    exec i s = .next ((t.setReg16 .ix (t.stepIndex z.ops.bytes (t.reg16 .ix))).setReg16 .iy
      (t.stepIndex z.ops.bytes (t.reg16 .iy)))

/-- CMPBK ends (R241): the flags of source minus destination, both indices stepped. -/
def Size.CompareEnds (z : Size w ρ) (i : Instr) (s : State) : Prop :=
  ∃ a u b t, z.ops.readMem (s.segValue .ds0) (s.reg16 .ix) s = .ok (a, u) ∧
    z.ops.readMem (s.sreg .ds1) (s.reg16 .iy) u = .ok (b, t) ∧
    exec i s = .next (((t.setStatus maskStatus (subStatus a b false)).setReg16 .ix
      (s.stepIndex z.ops.bytes (s.reg16 .ix))).setReg16 .iy (s.stepIndex z.ops.bytes (s.reg16 .iy)))

/-- CMPM ends (R242): the flags of accumulator minus element, IY stepped. -/
def Size.ScanEnds (z : Size w ρ) (i : Instr) (s : State) : Prop :=
  ∃ b t, z.ops.readMem (s.sreg .ds1) (s.reg16 .iy) s = .ok (b, t) ∧
    exec i s = .next ((t.setStatus maskStatus (subStatus (z.ops.getReg s z.ops.acc) b false)).setReg16 .iy
      (s.stepIndex z.ops.bytes (s.reg16 .iy)))

/-- LDM ends (R243): the accumulator loaded, IX stepped. -/
def Size.LoadEnds (z : Size w ρ) (i : Instr) (s : State) : Prop :=
  ∃ v t, z.ops.readMem (s.segValue .ds0) (s.reg16 .ix) s = .ok (v, t) ∧
    exec i s = .next ((z.ops.setReg t z.ops.acc v).setReg16 .ix (s.stepIndex z.ops.bytes (s.reg16 .ix)))

/-- STM ends (R244): the accumulator stored, IY stepped. -/
def Size.StoreEnds (z : Size w ρ) (i : Instr) (s : State) : Prop :=
  ∃ t, z.ops.writeMem (s.sreg .ds1) (s.reg16 .iy) (z.ops.getReg s z.ops.acc) s = .ok ((), t) ∧
    exec i s = .next (t.setReg16 .iy (t.stepIndex z.ops.bytes (t.reg16 .iy)))

/-- INM ends (R255): the value of the port in DW stored, IY stepped. -/
def Size.InputEnds (z : Size w ρ) (i : Instr) (s : State) : Prop :=
  ∃ v u t, z.ops.ioRead (s.reg16 .dw) s = .ok (v, u) ∧ z.ops.writeMem (s.sreg .ds1) (s.reg16 .iy) v u = .ok ((), t) ∧
    exec i s = .next (t.setReg16 .iy (t.stepIndex z.ops.bytes (t.reg16 .iy)))

/-- OUTM ends (R256): the element sent to the port in DW, IX stepped. -/
def Size.OutputEnds (z : Size w ρ) (i : Instr) (s : State) : Prop :=
  ∃ v u t, z.ops.readMem (s.segValue .ds0) (s.reg16 .ix) s = .ok (v, u) ∧ z.ops.ioWrite (s.reg16 .dw) v u = .ok ((), t) ∧
    exec i s = .next (t.setReg16 .ix (s.stepIndex z.ops.bytes (s.reg16 .ix)))

/-- The bytes of the element at `srcseg:IX`. -/
def Size.sourceBytes (z : Size w ρ) (s : State) : List PhysAddr := z.span (phys (s.segValue .ds0) (s.reg16 .ix))

/-- The bytes of the element at `DS1:IY`. -/
def Size.destBytes (z : Size w ρ) (s : State) : List PhysAddr := z.span (phys (s.sreg .ds1) (s.reg16 .iy))

end

/-- The registers a block instruction counts down: CW under a repeat prefix (R234). -/
def countKeys (s : State) : List Nat := if s.pre.rep = none then [] else bankKeys s.bank (offReg16 .cw)

/-! ### Bit fields -/

/-- The words a bit field of `total = off + len` bits covers: the one at `off16`, and the next one if it reaches into it
(R260, R261). -/
def fieldReads (seg off16 : Word) (total : Nat) (s : State) (x : BitVec 32) (t : State) : Prop :=
  ∃ lo u hi, readWord (phys seg off16) s = .ok (lo, u) ∧ x = (hi ++ lo : BitVec 32) ∧
    (if 16 < total then readWord (phys seg (off16 + 2)) u = .ok (hi, t) else hi = 0 ∧ t = u)

/-- The words a bit field covers written. -/
def fieldWrites (seg off16 : Word) (total : Nat) (x : BitVec 32) (s t : State) : Prop :=
  ∃ u, writeWord (phys seg off16) (x.extractLsb' 0 16) s = .ok ((), u) ∧
    (if 16 < total then writeWord (phys seg (off16 + 2)) (x.extractLsb' 16 16) u = .ok ((), t) else t = u)

/-- What INS and EXT leave besides the field: the offset register advanced modulo 16, its upper digit `high`; the index
advanced past a word boundary; the status flags undefined (R260, R261, log 23). -/
def State.fieldDone (s : State) (index : Reg16) (offReg : Reg8) (total : Nat) (high : BitVec 4) (draws : Nat)
    (flags : Word) : State :=
  let t := (s.withDraws draws).setReg8 offReg (high ++ BitVec.ofNat 4 total)
  (if 16 ≤ total then t.setReg16 index (t.reg16 index + 2) else t).setStatus maskStatus flags

/-! ### The forms of the instructions, so that one claim names every constructor of a shape -/

/-- Destination a byte operand, source a byte register (R271 to R275, R321 to R324). -/
def aluByteRmReg : List (AluOp × (RM Reg8 → Reg8 → Instr)) := [
  (.add, .addEbRb), (.or, .orEbRb), (.addc, .addcEbRb), (.subc, .subcEbRb), (.and, .andEbRb), (.sub, .subEbRb),
  (.xor, .xorEbRb), (.cmp, .cmpEbRb), (.test, .testEbRb)]

/-- Destination a word operand, source a word register. -/
def aluWordRmReg : List (AluOp × (RM Reg16 → Reg16 → Instr)) := [
  (.add, .addEwRw), (.or, .orEwRw), (.addc, .addcEwRw), (.subc, .subcEwRw), (.and, .andEwRw), (.sub, .subEwRw),
  (.xor, .xorEwRw), (.cmp, .cmpEwRw), (.test, .testEwRw)]

/-- Destination a byte register, source a byte operand. -/
def aluByteRegRm : List (AluOp × (Reg8 → RM Reg8 → Instr)) := [
  (.add, .addRbEb), (.or, .orRbEb), (.addc, .addcRbEb), (.subc, .subcRbEb), (.and, .andRbEb), (.sub, .subRbEb),
  (.xor, .xorRbEb), (.cmp, .cmpRbEb)]

/-- Destination a word register, source a word operand. -/
def aluWordRegRm : List (AluOp × (Reg16 → RM Reg16 → Instr)) := [
  (.add, .addRwEw), (.or, .orRwEw), (.addc, .addcRwEw), (.subc, .subcRwEw), (.and, .andRwEw), (.sub, .subRwEw),
  (.xor, .xorRwEw), (.cmp, .cmpRwEw)]

/-- Destination a byte operand, source an immediate byte. -/
def aluByteRmImm : List (AluOp × (RM Reg8 → Byte → Instr)) := [
  (.add, .addEbImm8), (.or, .orEbImm8), (.addc, .addcEbImm8), (.subc, .subcEbImm8), (.and, .andEbImm8),
  (.sub, .subEbImm8), (.xor, .xorEbImm8), (.cmp, .cmpEbImm8), (.test, .testEbImm8), (.add, .addEbImm8Dup),
  (.or, .orEbImm8Dup), (.addc, .addcEbImm8Dup), (.subc, .subcEbImm8Dup), (.and, .andEbImm8Dup),
  (.sub, .subEbImm8Dup), (.xor, .xorEbImm8Dup), (.cmp, .cmpEbImm8Dup)]

/-- Destination a word operand, source an immediate word. -/
def aluWordRmImm : List (AluOp × (RM Reg16 → Word → Instr)) := [
  (.add, .addEwImm16), (.or, .orEwImm16), (.addc, .addcEwImm16), (.subc, .subcEwImm16), (.and, .andEwImm16),
  (.sub, .subEwImm16), (.xor, .xorEwImm16), (.cmp, .cmpEwImm16), (.test, .testEwImm16)]

/-- Destination a word operand, source an immediate byte, sign-extended. -/
def aluWordRmSext : List (AluOp × (RM Reg16 → Byte → Instr)) := [
  (.add, .addEwSextImm8), (.or, .orEwSextImm8), (.addc, .addcEwSextImm8), (.subc, .subcEwSextImm8),
  (.and, .andEwSextImm8), (.sub, .subEwSextImm8), (.xor, .xorEwSextImm8), (.cmp, .cmpEwSextImm8)]

/-- Destination AL, source an immediate byte. -/
def aluByteAccImm : List (AluOp × (Byte → Instr)) := [
  (.add, .addAlImm8), (.or, .orAlImm8), (.addc, .addcAlImm8), (.subc, .subcAlImm8), (.and, .andAlImm8),
  (.sub, .subAlImm8), (.xor, .xorAlImm8), (.cmp, .cmpAlImm8), (.test, .testAlImm8)]

/-- Destination AW, source an immediate word. -/
def aluWordAccImm : List (AluOp × (Word → Instr)) := [
  (.add, .addAwImm16), (.or, .orAwImm16), (.addc, .addcAwImm16), (.subc, .subcAwImm16), (.and, .andAwImm16),
  (.sub, .subAwImm16), (.xor, .xorAwImm16), (.cmp, .cmpAwImm16), (.test, .testAwImm16)]

/-- Shifts and rotates of a byte operand by one (R340 to R349). -/
def shiftByteOnce : List (ShiftOp × (RM Reg8 → Instr)) := [
  (.rol, .rolEb1), (.ror, .rorEb1), (.rolc, .rolcEb1), (.rorc, .rorcEb1), (.shl, .shlEb1), (.shr, .shrEb1),
  (.shra, .shraEb1)]

/-- Shifts and rotates of a byte operand by CL. -/
def shiftByteCl : List (ShiftOp × (RM Reg8 → Instr)) := [
  (.rol, .rolEbCl), (.ror, .rorEbCl), (.rolc, .rolcEbCl), (.rorc, .rorcEbCl), (.shl, .shlEbCl), (.shr, .shrEbCl),
  (.shra, .shraEbCl)]

/-- Shifts and rotates of a byte operand by an immediate count. -/
def shiftByteImm : List (ShiftOp × (RM Reg8 → Byte → Instr)) := [
  (.rol, .rolEbImm8), (.ror, .rorEbImm8), (.rolc, .rolcEbImm8), (.rorc, .rorcEbImm8), (.shl, .shlEbImm8),
  (.shr, .shrEbImm8), (.shra, .shraEbImm8)]

/-- Shifts and rotates of a word operand by one (R340 to R349). -/
def shiftWordOnce : List (ShiftOp × (RM Reg16 → Instr)) := [
  (.rol, .rolEw1), (.ror, .rorEw1), (.rolc, .rolcEw1), (.rorc, .rorcEw1), (.shl, .shlEw1), (.shr, .shrEw1),
  (.shra, .shraEw1)]

/-- Shifts and rotates of a word operand by CL. -/
def shiftWordCl : List (ShiftOp × (RM Reg16 → Instr)) := [
  (.rol, .rolEwCl), (.ror, .rorEwCl), (.rolc, .rolcEwCl), (.rorc, .rorcEwCl), (.shl, .shlEwCl), (.shr, .shrEwCl),
  (.shra, .shraEwCl)]

/-- Shifts and rotates of a word operand by an immediate count. -/
def shiftWordImm : List (ShiftOp × (RM Reg16 → Byte → Instr)) := [
  (.rol, .rolEwImm8), (.ror, .rorEwImm8), (.rolc, .rolcEwImm8), (.rorc, .rorcEwImm8), (.shl, .shlEwImm8),
  (.shr, .shrEwImm8), (.shra, .shraEwImm8)]

/-- CLR1, SET1, NOT1 of a byte operand, the bit number in CL. -/
def bitByteCl : List (BitOp × (RM Reg8 → Instr)) := [
  (.clear, .clr1EbCl), (.set, .set1EbCl), (.invert, .not1EbCl)]

/-- CLR1, SET1, NOT1 of a byte operand, the bit number an immediate. -/
def bitByteImm : List (BitOp × (RM Reg8 → Byte → Instr)) := [
  (.clear, .clr1EbImm3), (.set, .set1EbImm3), (.invert, .not1EbImm3)]

/-- CLR1, SET1, NOT1 of a word operand, the bit number in CL. -/
def bitWordCl : List (BitOp × (RM Reg16 → Instr)) := [
  (.clear, .clr1EwCl), (.set, .set1EwCl), (.invert, .not1EwCl)]

/-- CLR1, SET1, NOT1 of a word operand, the bit number an immediate. -/
def bitWordImm : List (BitOp × (RM Reg16 → Byte → Instr)) := [
  (.clear, .clr1EwImm4), (.set, .set1EwImm4), (.invert, .not1EwImm4)]

/-- The conditional branches with the condition each takes (R381 to R396). -/
def branches : List ((State → Bool) × (Byte → Instr)) := [
  (fun s => s.flag .v, .bv), (fun s => !s.flag .v, .bnv),
  (fun s => s.flag .cy, .bc), (fun s => !s.flag .cy, .bnc),
  (fun s => s.flag .z, .be), (fun s => !s.flag .z, .bne),
  (fun s => s.flag .cy || s.flag .z, .bnh), (fun s => !(s.flag .cy || s.flag .z), .bh),
  (fun s => s.flag .s, .bn), (fun s => !s.flag .s, .bp),
  (fun s => s.flag .p, .bpe), (fun s => !s.flag .p, .bpo),
  (fun s => s.flag .s != s.flag .v, .blt), (fun s => s.flag .s == s.flag .v, .bge),
  (fun s => s.flag .s != s.flag .v || s.flag .z, .ble), (fun s => s.flag .s == s.flag .v && !s.flag .z, .bgt)]

/-- The loop instructions with the condition each adds to CW not 0 (R374 to R376). -/
def loops : List ((State → Bool) × (Byte → Instr)) := [
  (fun s => !s.flag .z, .dbnzne), (fun s => s.flag .z, .dbnze), (fun _ => true, .dbnz)]

/-- The pushes of a segment register (R404). -/
def sregPushes : List (SReg × Instr) := [(.ds1, .pushDs1), (.ps, .pushPs), (.ss, .pushSs), (.ds0, .pushDs0)]

/-- The pops into a segment register (R405). -/
def sregPops : List (SReg × Instr) := [(.ds1, .popDs1), (.ss, .popSs), (.ds0, .popDs0)]

/-- The segment override prefixes (R457). -/
def segmentPrefixes : List (SReg × Instr) := [
  (.ds1, .prefixDs1), (.ps, .prefixPs), (.ss, .prefixSs), (.ds0, .prefixDs0)]

/-- The repeat prefixes (R230 to R233). -/
def repeatPrefixes : List (Rep × Instr) := [
  (.rep, .prefixRep), (.repne, .prefixRepne), (.repc, .prefixRepc), (.repnc, .prefixRepnc)]

/-- The instructions that set a flag to a value known in advance (R450, R452, R453, R455, R456). -/
def flagSetters : List (Flag × Bool × Instr) := [
  (.cy, false, .clr1Cy), (.cy, true, .set1Cy), (.dir, false, .clr1Dir), (.dir, true, .set1Dir), (.ie, false, .di)]

end Sys2Proof.Machine
end

