-- ==== Sys2Proof/Certificates/Slice0/Obligations.lean ====
section
/-! DEFINITION. What the provers are asked to prove of the model. -/

open Sys2Proof Sys2Proof.Machine

/-! ### Two-operand arithmetic and logic -/

/-- R270 to R275, R321 to R324, one operand a register and the other a register-or-memory operand, either the destination. -/
def Obligations.AluOperands : Prop :=
  (∀ p ∈ aluByteRmReg, ∀ e r s, byteSize.placeOk s (s.place e) = true → ∃ a s1,
    readPlace byteOp (s.place e) s = .ok (a, s1) ∧ byteSize.AluEnds p.1 (s.place e) a (s.reg8 r) s1 (p.2 e r) s) ∧
  (∀ p ∈ aluWordRmReg, ∀ e r s, wordSize.placeOk s (s.place e) = true → ∃ a s1,
    readPlace wordOp (s.place e) s = .ok (a, s1) ∧ wordSize.AluEnds p.1 (s.place e) a (s.reg16 r) s1 (p.2 e r) s) ∧
  (∀ p ∈ aluByteRegRm, ∀ r e s, byteSize.placeOk s (s.place e) = true → ∃ b s1,
    readPlace byteOp (s.place e) s = .ok (b, s1) ∧ byteSize.AluEnds p.1 (.reg r) (s.reg8 r) b s1 (p.2 r e) s) ∧
  (∀ p ∈ aluWordRegRm, ∀ r e s, wordSize.placeOk s (s.place e) = true → ∃ b s1,
    readPlace wordOp (s.place e) s = .ok (b, s1) ∧ wordSize.AluEnds p.1 (.reg r) (s.reg16 r) b s1 (p.2 r e) s)

/-- The same, source an immediate: destination a register-or-memory operand (an immediate byte sign-extended for some
words) or the accumulator. -/
def Obligations.AluImmediate : Prop :=
  (∀ p ∈ aluByteRmImm, ∀ e imm s, byteSize.placeOk s (s.place e) = true → ∃ a s1,
    readPlace byteOp (s.place e) s = .ok (a, s1) ∧ byteSize.AluEnds p.1 (s.place e) a imm s1 (p.2 e imm) s) ∧
  (∀ p ∈ aluWordRmImm, ∀ e imm s, wordSize.placeOk s (s.place e) = true → ∃ a s1,
    readPlace wordOp (s.place e) s = .ok (a, s1) ∧ wordSize.AluEnds p.1 (s.place e) a imm s1 (p.2 e imm) s) ∧
  (∀ p ∈ aluWordRmSext, ∀ e imm s, wordSize.placeOk s (s.place e) = true → ∃ a s1,
    readPlace wordOp (s.place e) s = .ok (a, s1) ∧
      wordSize.AluEnds p.1 (s.place e) a (imm.signExtend 16) s1 (p.2 e imm) s) ∧
  (∀ p ∈ aluByteAccImm, ∀ imm s, byteSize.AluEnds p.1 (.reg .al) (s.reg8 .al) imm s (p.2 imm) s) ∧
  (∀ p ∈ aluWordAccImm, ∀ imm s, wordSize.AluEnds p.1 (.reg .aw) (s.reg16 .aw) imm s (p.2 imm) s)

/-- What the two-operand instructions leave unchanged. -/
def Obligations.AluFrame : Prop :=
  (∀ p ∈ aluByteRmReg, ∀ e r s t, exec (p.2 e r) s = .next t → Quiet s t ∧ Frame s t
    (if p.1.stores then byteSize.placeKeys s (s.place e) else []) maskStatus (byteSize.placeBytes (s.place e))
    (if p.1.stores then byteSize.placeBytes (s.place e) else [])) ∧
  (∀ p ∈ aluWordRmReg, ∀ e r s t, exec (p.2 e r) s = .next t → Quiet s t ∧ Frame s t
    (if p.1.stores then wordSize.placeKeys s (s.place e) else []) maskStatus (wordSize.placeBytes (s.place e))
    (if p.1.stores then wordSize.placeBytes (s.place e) else [])) ∧
  (∀ p ∈ aluByteRegRm, ∀ r e s t, exec (p.2 r e) s = .next t → Quiet s t ∧ Frame s t
    (if p.1.stores then byteSize.keys s r else []) maskStatus (byteSize.placeBytes (s.place e)) []) ∧
  (∀ p ∈ aluWordRegRm, ∀ r e s t, exec (p.2 r e) s = .next t → Quiet s t ∧ Frame s t
    (if p.1.stores then wordSize.keys s r else []) maskStatus (wordSize.placeBytes (s.place e)) []) ∧
  (∀ p ∈ aluByteRmImm, ∀ e imm s t, exec (p.2 e imm) s = .next t → Quiet s t ∧ Frame s t
    (if p.1.stores then byteSize.placeKeys s (s.place e) else []) maskStatus (byteSize.placeBytes (s.place e))
    (if p.1.stores then byteSize.placeBytes (s.place e) else [])) ∧
  (∀ p ∈ aluWordRmImm, ∀ e imm s t, exec (p.2 e imm) s = .next t → Quiet s t ∧ Frame s t
    (if p.1.stores then wordSize.placeKeys s (s.place e) else []) maskStatus (wordSize.placeBytes (s.place e))
    (if p.1.stores then wordSize.placeBytes (s.place e) else [])) ∧
  (∀ p ∈ aluWordRmSext, ∀ e imm s t, exec (p.2 e imm) s = .next t → Quiet s t ∧ Frame s t
    (if p.1.stores then wordSize.placeKeys s (s.place e) else []) maskStatus (wordSize.placeBytes (s.place e))
    (if p.1.stores then wordSize.placeBytes (s.place e) else [])) ∧
  (∀ p ∈ aluByteAccImm, ∀ imm s t, exec (p.2 imm) s = .next t → Quiet s t ∧
    Frame s t (if p.1.stores then byteSize.keys s .al else []) maskStatus [] []) ∧
  (∀ p ∈ aluWordAccImm, ∀ imm s t, exec (p.2 imm) s = .next t → Quiet s t ∧
    Frame s t (if p.1.stores then wordSize.keys s .aw else []) maskStatus [] [])

/-! ### One-operand instructions, shifts, bits -/

/-- INC and DEC (R277 to R280), NEG (R281), NOT (R325). -/
def Obligations.IncDecNegNot : Prop :=
  (∀ r s, exec (.incReg16 r) s = .next
      ((s.setReg16 r (s.reg16 r + 1)).setStatus maskStatusNoCy (addStatus (s.reg16 r) 1 false)) ∧
    exec (.decReg16 r) s = .next
      ((s.setReg16 r (s.reg16 r - 1)).setStatus maskStatusNoCy (subStatus (s.reg16 r) 1 false))) ∧
  (∀ e s, byteSize.placeOk s (s.place e) = true →
    byteSize.ModifyEnds (s.place e) (fun a => a + 1) maskStatusNoCy (fun a => addStatus a 1 false) (.incEb e) s ∧
    byteSize.ModifyEnds (s.place e) (fun a => a - 1) maskStatusNoCy (fun a => subStatus a 1 false) (.decEb e) s ∧
    byteSize.ModifyEnds (s.place e) (fun a => -a) maskStatus (fun a => subStatus 0 a false) (.negEb e) s ∧
    byteSize.ModifyEnds (s.place e) (fun a => ~~~a) 0 (fun _ => 0) (.notEb e) s) ∧
  (∀ e s, wordSize.placeOk s (s.place e) = true →
    wordSize.ModifyEnds (s.place e) (fun a => a + 1) maskStatusNoCy (fun a => addStatus a 1 false) (.incEw e) s ∧
    wordSize.ModifyEnds (s.place e) (fun a => a - 1) maskStatusNoCy (fun a => subStatus a 1 false) (.decEw e) s ∧
    wordSize.ModifyEnds (s.place e) (fun a => -a) maskStatus (fun a => subStatus 0 a false) (.negEw e) s ∧
    wordSize.ModifyEnds (s.place e) (fun a => ~~~a) 0 (fun _ => 0) (.notEw e) s)

/-- The shifts and rotates by one, by CL, by an immediate (R340 to R349). -/
def Obligations.ShiftsAndRotates : Prop :=
  (∀ e s, byteSize.placeOk s (s.place e) = true →
    (∀ p ∈ shiftByteOnce, byteSize.ShiftEnds p.1 (s.place e) 1 (p.2 e) s) ∧
    (∀ p ∈ shiftByteCl, byteSize.ShiftEnds p.1 (s.place e) (shiftCount (s.reg8 .cl)) (p.2 e) s) ∧
    (∀ p ∈ shiftByteImm, ∀ imm, byteSize.ShiftEnds p.1 (s.place e) (shiftCount imm) (p.2 e imm) s)) ∧
  (∀ e s, wordSize.placeOk s (s.place e) = true →
    (∀ p ∈ shiftWordOnce, wordSize.ShiftEnds p.1 (s.place e) 1 (p.2 e) s) ∧
    (∀ p ∈ shiftWordCl, wordSize.ShiftEnds p.1 (s.place e) (shiftCount (s.reg8 .cl)) (p.2 e) s) ∧
    (∀ p ∈ shiftWordImm, ∀ imm, wordSize.ShiftEnds p.1 (s.place e) (shiftCount imm) (p.2 e imm) s))

/-- CLR1, SET1, NOT1 (R331 to R333): the bit number is the low 3 bits of CL or of the immediate for a byte, the low 4 for a
word. -/
def Obligations.BitInstructions : Prop :=
  (∀ e s, byteSize.placeOk s (s.place e) = true →
    (∀ p ∈ bitByteCl, byteSize.BitEnds p.1 (s.place e) ((s.reg8 .cl).toNat % 8) (p.2 e) s) ∧
    (∀ p ∈ bitByteImm, ∀ imm, byteSize.BitEnds p.1 (s.place e) (imm.toNat % 8) (p.2 e imm) s)) ∧
  (∀ e s, wordSize.placeOk s (s.place e) = true →
    (∀ p ∈ bitWordCl, wordSize.BitEnds p.1 (s.place e) ((s.reg8 .cl).toNat % 16) (p.2 e) s) ∧
    (∀ p ∈ bitWordImm, ∀ imm, wordSize.BitEnds p.1 (s.place e) (imm.toNat % 16) (p.2 e imm) s))

/-- TEST1 (R330): Z from the bit, CY and V reset, S, AC, P undefined, nothing else written. -/
def Obligations.TestBit : Prop :=
  (∀ e s, byteSize.placeOk s (s.place e) = true → ∃ a s1, readPlace byteOp (s.place e) s = .ok (a, s1) ∧
    (∃ n free, s1.draws ≤ n ∧ exec (.test1EbCl e) s = .next ((s1.withDraws n).setStatus maskStatus
      (testBitStatus (!a.getLsbD ((s.reg8 .cl).toNat % 8)) free))) ∧
    (∀ imm, ∃ n free, s1.draws ≤ n ∧ exec (.test1EbImm3 e imm) s = .next ((s1.withDraws n).setStatus maskStatus
      (testBitStatus (!a.getLsbD (imm.toNat % 8)) free)))) ∧
  (∀ e s, wordSize.placeOk s (s.place e) = true → ∃ a s1, readPlace wordOp (s.place e) s = .ok (a, s1) ∧
    (∃ n free, s1.draws ≤ n ∧ exec (.test1EwCl e) s = .next ((s1.withDraws n).setStatus maskStatus
      (testBitStatus (!a.getLsbD ((s.reg8 .cl).toNat % 16)) free))) ∧
    (∀ imm, ∃ n free, s1.draws ≤ n ∧ exec (.test1EwImm4 e imm) s = .next ((s1.withDraws n).setStatus maskStatus
      (testBitStatus (!a.getLsbD (imm.toNat % 16)) free))))

/-- What the one-operand instructions, the shifts and rotates and the bit instructions leave unchanged. -/
def Obligations.ModifyFrame : Prop :=
  (∀ r s t, exec (.incReg16 r) s = .next t ∨ exec (.decReg16 r) s = .next t → Quiet s t ∧
    Frame s t (wordSize.keys s r) maskStatusNoCy [] []) ∧
  (∀ e s t, exec (.incEb e) s = .next t ∨ exec (.decEb e) s = .next t → Quiet s t ∧
    Frame s t (byteSize.placeKeys s (s.place e)) maskStatusNoCy (byteSize.placeBytes (s.place e))
      (byteSize.placeBytes (s.place e))) ∧
  (∀ e s t, exec (.incEw e) s = .next t ∨ exec (.decEw e) s = .next t → Quiet s t ∧
    Frame s t (wordSize.placeKeys s (s.place e)) maskStatusNoCy (wordSize.placeBytes (s.place e))
      (wordSize.placeBytes (s.place e))) ∧
  (∀ e s t, exec (.negEb e) s = .next t → Quiet s t ∧
    Frame s t (byteSize.placeKeys s (s.place e)) maskStatus (byteSize.placeBytes (s.place e)) (byteSize.placeBytes (s.place e))) ∧
  (∀ p ∈ shiftByteOnce ++ shiftByteCl, ∀ e s t, exec (p.2 e) s = .next t → Quiet s t ∧
    Frame s t (byteSize.placeKeys s (s.place e)) p.1.mask (byteSize.placeBytes (s.place e)) (byteSize.placeBytes (s.place e))) ∧
  (∀ p ∈ shiftByteImm, ∀ e imm s t, exec (p.2 e imm) s = .next t → Quiet s t ∧
    Frame s t (byteSize.placeKeys s (s.place e)) p.1.mask (byteSize.placeBytes (s.place e)) (byteSize.placeBytes (s.place e))) ∧
  (∀ e s t, exec (.negEw e) s = .next t → Quiet s t ∧
    Frame s t (wordSize.placeKeys s (s.place e)) maskStatus (wordSize.placeBytes (s.place e)) (wordSize.placeBytes (s.place e))) ∧
  (∀ p ∈ shiftWordOnce ++ shiftWordCl, ∀ e s t, exec (p.2 e) s = .next t → Quiet s t ∧
    Frame s t (wordSize.placeKeys s (s.place e)) p.1.mask (wordSize.placeBytes (s.place e)) (wordSize.placeBytes (s.place e))) ∧
  (∀ p ∈ shiftWordImm, ∀ e imm s t, exec (p.2 e imm) s = .next t → Quiet s t ∧
    Frame s t (wordSize.placeKeys s (s.place e)) p.1.mask (wordSize.placeBytes (s.place e)) (wordSize.placeBytes (s.place e))) ∧
  (∀ e s t, (exec (.notEb e) s = .next t ∨ (∃ p ∈ bitByteCl, exec (p.2 e) s = .next t) ∨
      (∃ p ∈ bitByteImm, ∃ imm, exec (p.2 e imm) s = .next t)) → Quiet s t ∧
    Frame s t (byteSize.placeKeys s (s.place e)) 0 (byteSize.placeBytes (s.place e)) (byteSize.placeBytes (s.place e))) ∧
  (∀ e s t, (exec (.notEw e) s = .next t ∨ (∃ p ∈ bitWordCl, exec (p.2 e) s = .next t) ∨
      (∃ p ∈ bitWordImm, ∃ imm, exec (p.2 e imm) s = .next t)) → Quiet s t ∧
    Frame s t (wordSize.placeKeys s (s.place e)) 0 (wordSize.placeBytes (s.place e)) (wordSize.placeBytes (s.place e))) ∧
  (∀ e s t, (exec (.test1EbCl e) s = .next t ∨ ∃ imm, exec (.test1EbImm3 e imm) s = .next t) → Quiet s t ∧
    Frame s t [] maskStatus (byteSize.placeBytes (s.place e)) []) ∧
  (∀ e s t, (exec (.test1EwCl e) s = .next t ∨ ∃ imm, exec (.test1EwImm4 e imm) s = .next t) → Quiet s t ∧
    Frame s t [] maskStatus (wordSize.placeBytes (s.place e)) [])

/-! ### Data transfer -/

/-- MOV between registers, memory and immediates (R201 to R204), MOV ew,sreg (R206). -/
def Obligations.Moves : Prop :=
  (∀ e s, byteSize.placeOk s (s.place e) = true →
    (∀ r, ∃ t, writePlace byteOp (s.place e) (s.reg8 r) s = .ok ((), t) ∧ exec (.movEbRb e r) s = .next t) ∧
    (∀ imm, ∃ t, writePlace byteOp (s.place e) imm s = .ok ((), t) ∧ exec (.movEbImm8 e imm) s = .next t) ∧
    (∀ r, ∃ v s1, readPlace byteOp (s.place e) s = .ok (v, s1) ∧ exec (.movRbEb r e) s = .next (s1.setReg8 r v))) ∧
  (∀ e s, wordSize.placeOk s (s.place e) = true →
    (∀ r, ∃ t, writePlace wordOp (s.place e) (s.reg16 r) s = .ok ((), t) ∧ exec (.movEwRw e r) s = .next t) ∧
    (∀ imm, ∃ t, writePlace wordOp (s.place e) imm s = .ok ((), t) ∧ exec (.movEwImm16 e imm) s = .next t) ∧
    (∀ sr, ∃ t, writePlace wordOp (s.place e) (s.sreg sr) s = .ok ((), t) ∧ exec (.movEwSreg e sr) s = .next t) ∧
    (∀ r, ∃ v s1, readPlace wordOp (s.place e) s = .ok (v, s1) ∧ exec (.movRwEw r e) s = .next (s1.setReg16 r v))) ∧
  (∀ r imm s, exec (.movReg8Imm8 r imm) s = .next (s.setReg8 r imm)) ∧
  (∀ r imm s, exec (.movReg16Imm16 r imm) s = .next (s.setReg16 r imm)) ∧
  (∀ addr s, s.byteOk (phys (s.segValue .ds0) addr) = true →
    (∃ v s1, readByte (phys (s.segValue .ds0) addr) s = .ok (v, s1) ∧
      exec (.movAlMem addr) s = .next (s1.setReg8 .al v)) ∧
    (∃ t, writeByte (phys (s.segValue .ds0) addr) (s.reg8 .al) s = .ok ((), t) ∧ exec (.movMemAl addr) s = .next t)) ∧
  (∀ addr s, s.wordOk (phys (s.segValue .ds0) addr) = true →
    (∃ v s1, readWord (phys (s.segValue .ds0) addr) s = .ok (v, s1) ∧
      exec (.movAwMem addr) s = .next (s1.setReg16 .aw v)) ∧
    (∃ t, writeWord (phys (s.segValue .ds0) addr) (s.reg16 .aw) s = .ok ((), t) ∧ exec (.movMemAw addr) s = .next t))

/-- MOV sreg,ew (R205), the far pointer loads (R207, R208; refused where the operand does not fit in the segment), LDEA (R209), XCH (R210), TRANS (R211). -/
def Obligations.OtherTransfers : Prop :=
  (∀ sr e s, wordSize.placeOk s (s.place e) = true → ∃ v s1, readPlace wordOp (s.place e) s = .ok (v, s1) ∧
    exec (.movSregEw sr e) s = .next (((s1.setSreg sr v).withHold true).withTrace false)) ∧
  (∀ r m s, s.pairOk (s.memSeg m) (s.ea m) = true → ∃ p s1, readPair (s.memSeg m) (s.ea m) s = .ok (p, s1) ∧
    exec (.movDs0Mem32 r m) s = .next ((s1.setReg16 r p.1).setSreg .ds0 p.2) ∧
    exec (.movDs1Mem32 r m) s = .next ((s1.setReg16 r p.1).setSreg .ds1 p.2)) ∧
  (∀ r m s, 0xFFFE ≤ (s.ea m).toNat → exec (.movDs0Mem32 r m) s = .refused .operandPastSegmentEnd ∧
    exec (.movDs1Mem32 r m) s = .refused .operandPastSegmentEnd) ∧
  (∀ r m s, exec (.ldea r m) s = .next (s.setReg16 r (s.ea m))) ∧
  (∀ e r s, byteSize.placeOk s (s.place e) = true → ∃ a s1 t, readPlace byteOp (s.place e) s = .ok (a, s1) ∧
    writePlace byteOp (s.place e) (s.reg8 r) s1 = .ok ((), t) ∧ exec (.xchEbRb e r) s = .next (t.setReg8 r a)) ∧
  (∀ e r s, wordSize.placeOk s (s.place e) = true → ∃ a s1 t, readPlace wordOp (s.place e) s = .ok (a, s1) ∧
    writePlace wordOp (s.place e) (s.reg16 r) s1 = .ok ((), t) ∧ exec (.xchEwRw e r) s = .next (t.setReg16 r a)) ∧
  (∀ r s, exec (.xchAwReg16 r) s = .next ((s.setReg16 .aw (s.reg16 r)).setReg16 r (s.reg16 .aw))) ∧
  (∀ s, s.byteOk (phys (s.segValue .ds0) (s.reg16 .bw + (s.reg8 .al).setWidth 16)) = true → ∃ v s1,
    readByte (phys (s.segValue .ds0) (s.reg16 .bw + (s.reg8 .al).setWidth 16)) s = .ok (v, s1) ∧
    exec .trans s = .next (s1.setReg8 .al v))

/-- MOV AH,PSW copies the low eight bits of the PSW to AH (R212); MOV PSW,AH loads S, Z, F1, AC, F0, P, IBRK, CY from AH
bits 7 to 0 and changes no other bit (R213). -/
def Obligations.MovesOfPsw : Prop :=
  (∀ s, ∃ t, exec .movAhPsw s = .next t ∧ t.reg8 .ah = s.psw.extractLsb' 0 8 ∧ t.psw = s.psw ∧ t.pc = s.pc ∧ t.events = s.events ∧
    Quiet s t ∧ Frame s t (byteSize.keys s .ah) 0 [] []) ∧
  (∀ s, ∃ t, exec .movPswAh s = .next t ∧
    t.flag .s = (s.reg8 .ah).getLsbD 7 ∧ t.flag .z = (s.reg8 .ah).getLsbD 6 ∧ t.flag .f1 = (s.reg8 .ah).getLsbD 5 ∧
    t.flag .ac = (s.reg8 .ah).getLsbD 4 ∧ t.flag .f0 = (s.reg8 .ah).getLsbD 3 ∧ t.flag .p = (s.reg8 .ah).getLsbD 2 ∧
    t.flag .ibrk = (s.reg8 .ah).getLsbD 1 ∧ t.flag .cy = (s.reg8 .ah).getLsbD 0 ∧
    t.psw.extractLsb' 8 8 = s.psw.extractLsb' 8 8 ∧ t.pc = s.pc ∧ t.events = s.events ∧ Quiet s t ∧ Frame s t [] 0x00FF [] [])

/-- What the transfers leave unchanged. No flag is written by any. -/
def Obligations.TransferFrame : Prop :=
  (∀ e s t, (∃ r, exec (.movEbRb e r) s = .next t) ∨ (∃ imm, exec (.movEbImm8 e imm) s = .next t) → Quiet s t ∧
    Frame s t (byteSize.placeKeys s (s.place e)) 0 [] (byteSize.placeBytes (s.place e))) ∧
  (∀ e s t, (∃ r, exec (.movEwRw e r) s = .next t) ∨ (∃ imm, exec (.movEwImm16 e imm) s = .next t) ∨
      (∃ sr, exec (.movEwSreg e sr) s = .next t) → Quiet s t ∧
    Frame s t (wordSize.placeKeys s (s.place e)) 0 [] (wordSize.placeBytes (s.place e))) ∧
  (∀ r e s t, exec (.movRbEb r e) s = .next t → Quiet s t ∧
    Frame s t (byteSize.keys s r) 0 (byteSize.placeBytes (s.place e)) []) ∧
  (∀ r e s t, exec (.movRwEw r e) s = .next t → Quiet s t ∧
    Frame s t (wordSize.keys s r) 0 (wordSize.placeBytes (s.place e)) []) ∧
  (∀ r s t, (∃ imm, exec (.movReg8Imm8 r imm) s = .next t) → Quiet s t ∧ Frame s t (byteSize.keys s r) 0 [] []) ∧
  (∀ r s t, (∃ imm, exec (.movReg16Imm16 r imm) s = .next t) ∨ (∃ m, exec (.ldea r m) s = .next t) → Quiet s t ∧
    Frame s t (wordSize.keys s r) 0 [] []) ∧
  (∀ addr s t, exec (.movAlMem addr) s = .next t → Quiet s t ∧
    Frame s t (byteSize.keys s .al) 0 [phys (s.segValue .ds0) addr] []) ∧
  (∀ addr s t, exec (.movAwMem addr) s = .next t → Quiet s t ∧
    Frame s t (wordSize.keys s .aw) 0 (wordSize.span (phys (s.segValue .ds0) addr)) []) ∧
  (∀ addr s t, exec (.movMemAl addr) s = .next t → Quiet s t ∧
    Frame s t [] 0 [] [phys (s.segValue .ds0) addr]) ∧
  (∀ addr s t, exec (.movMemAw addr) s = .next t → Quiet s t ∧
    Frame s t [] 0 [] (wordSize.span (phys (s.segValue .ds0) addr))) ∧
  (∀ sr e s t, exec (.movSregEw sr e) s = .next t → t.run = s.run ∧ t.pre = s.pre ∧ t.resume = s.resume ∧
    Frame s t (sregKeys s sr) 0 (wordSize.placeBytes (s.place e)) []) ∧
  (∀ r m s t, exec (.movDs0Mem32 r m) s = .next t → Quiet s t ∧ Frame s t (wordSize.keys s r ++ sregKeys s .ds0) 0
    (wordSize.span (phys (s.memSeg m) (s.ea m)) ++ wordSize.span (phys (s.memSeg m) (s.ea m + 2))) []) ∧
  (∀ r m s t, exec (.movDs1Mem32 r m) s = .next t → Quiet s t ∧ Frame s t (wordSize.keys s r ++ sregKeys s .ds1) 0
    (wordSize.span (phys (s.memSeg m) (s.ea m)) ++ wordSize.span (phys (s.memSeg m) (s.ea m + 2))) []) ∧
  (∀ e r s t, exec (.xchEbRb e r) s = .next t → Quiet s t ∧
    Frame s t (byteSize.placeKeys s (s.place e) ++ byteSize.keys s r) 0 (byteSize.placeBytes (s.place e))
      (byteSize.placeBytes (s.place e))) ∧
  (∀ e r s t, exec (.xchEwRw e r) s = .next t → Quiet s t ∧
    Frame s t (wordSize.placeKeys s (s.place e) ++ wordSize.keys s r) 0 (wordSize.placeBytes (s.place e))
      (wordSize.placeBytes (s.place e))) ∧
  (∀ r s t, exec (.xchAwReg16 r) s = .next t → Quiet s t ∧
    Frame s t (wordSize.keys s .aw ++ wordSize.keys s r) 0 [] []) ∧
  (∀ s t, exec .trans s = .next t → Quiet s t ∧ Frame s t (byteSize.keys s .al) 0
    [phys (s.segValue .ds0) (s.reg16 .bw + (s.reg8 .al).setWidth 16)] [])

/-! ### Multiplication, division, decimal instructions -/

/-- MULU, MUL and MUL by an immediate (R282, R283, R287): the product, and CY = V = 1 exactly when the product does not fit
the low half; P, AC, Z, S undefined. -/
def Obligations.Multiply : Prop :=
  (∀ e s, byteSize.placeOk s (s.place e) = true → ∃ b s1, readPlace byteOp (s.place e) s = .ok (b, s1) ∧
    (let p := (s.reg8 .al).toNat * b.toNat
     ∃ n free, s1.draws ≤ n ∧
         exec (.muluEb e) s = .next (((s1.withDraws n).setReg16 .aw (BitVec.ofNat 16 p)).setStatus
       maskStatus (mulStatus (decide (0xFF < p)) free))) ∧
    (let p := (s.reg8 .al).toInt * b.toInt
     ∃ n free, s1.draws ≤ n ∧ exec (.mulEb e) s = .next (((s1.withDraws n).setReg16 .aw (BitVec.ofInt 16 p)).setStatus
       maskStatus (mulStatus (decide (p < -128 ∨ 127 < p)) free)))) ∧
  (∀ e s, wordSize.placeOk s (s.place e) = true → ∃ b s1, readPlace wordOp (s.place e) s = .ok (b, s1) ∧
    (let p := (s.reg16 .aw).toNat * b.toNat
     ∃ n free, s1.draws ≤ n ∧
         exec (.muluEw e) s = .next ((((s1.withDraws n).setReg16 .aw (BitVec.ofNat 16 p)).setReg16 .dw
       (BitVec.ofNat 16 (p / 0x10000))).setStatus maskStatus (mulStatus (decide (0xFFFF < p)) free))) ∧
    (let p := (s.reg16 .aw).toInt * b.toInt
     ∃ n free, s1.draws ≤ n ∧
         exec (.mulEw e) s = .next ((((s1.withDraws n).setReg16 .aw (BitVec.ofInt 16 p)).setReg16 .dw
       (BitVec.ofInt 16 (p / 0x10000))).setStatus maskStatus (mulStatus (decide (p < -32768 ∨ 32767 < p)) free))) ∧
    (∀ r (imm : Word), let p := b.toInt * imm.toInt
     ∃ n free, s1.draws ≤ n ∧ exec (.mulReg16EwImm16 r e imm) s = .next (((s1.withDraws n).setReg16 r
       (BitVec.ofInt 16 p)).setStatus maskStatus (mulStatus (decide (p < -32768 ∨ 32767 < p)) free))) ∧
    (∀ r (imm : Byte), let p := b.toInt * imm.toInt
     ∃ n free, s1.draws ≤ n ∧ exec (.mulReg16EwImm8 r e imm) s = .next (((s1.withDraws n).setReg16 r
       (BitVec.ofInt 16 p)).setStatus maskStatus (mulStatus (decide (p < -32768 ∨ 32767 < p)) free))))

/-- DIVU and DIV (R284 to R286): quotient and remainder, V reset and the other status flags undefined, or the divide error.
Whether a signed quotient equal to the most negative value is an error is open (log 14). -/
def Obligations.Divide : Prop :=
  (∀ e s, byteSize.placeOk s (s.place e) = true → ∃ d s1, readPlace byteOp (s.place e) s = .ok (d, s1) ∧
    (let a := (s.reg16 .aw).toNat
     d ≠ 0 → a / d.toNat ≤ 0xFF → ∃ n free, s1.draws ≤ n ∧ exec (.divuEb e) s = .next ((((s1.withDraws n).setReg8 .al
       (BitVec.ofNat 8 (a / d.toNat))).setReg8 .ah (BitVec.ofNat 8 (a % d.toNat))).setStatus maskStatus (divStatus free))) ∧
    (let a := (s.reg16 .aw).toInt
     d ≠ 0 → -128 ≤ a.tdiv d.toInt → a.tdiv d.toInt ≤ 127 →
     (a.tdiv d.toInt = -128 → Config.divMostNegativeTraps = false) →
     ∃ n free, s1.draws ≤ n ∧ exec (.divEb e) s = .next ((((s1.withDraws n).setReg8 .al
       (BitVec.ofInt 8 (a.tdiv d.toInt))).setReg8 .ah (BitVec.ofInt 8 (a.tmod d.toInt))).setStatus maskStatus
       (divStatus free)))) ∧
  (∀ e s, wordSize.placeOk s (s.place e) = true → ∃ d s1, readPlace wordOp (s.place e) s = .ok (d, s1) ∧
    (let a := (s.reg16 .dw ++ s.reg16 .aw : BitVec 32).toNat
     d ≠ 0 → a / d.toNat ≤ 0xFFFF → ∃ n free, s1.draws ≤ n ∧
         exec (.divuEw e) s = .next ((((s1.withDraws n).setReg16 .aw
       (BitVec.ofNat 16 (a / d.toNat))).setReg16 .dw (BitVec.ofNat 16 (a % d.toNat))).setStatus maskStatus
       (divStatus free))) ∧
    (let a := (s.reg16 .dw ++ s.reg16 .aw : BitVec 32).toInt
     d ≠ 0 → -32768 ≤ a.tdiv d.toInt → a.tdiv d.toInt ≤ 32767 →
     (a.tdiv d.toInt = -32768 → Config.divMostNegativeTraps = false) →
     ∃ n free, s1.draws ≤ n ∧ exec (.divEw e) s = .next ((((s1.withDraws n).setReg16 .aw
       (BitVec.ofInt 16 (a.tdiv d.toInt))).setReg16 .dw (BitVec.ofInt 16 (a.tmod d.toInt))).setStatus maskStatus
       (divStatus free))))

/-- The divide error (R284): entry through vector 0, the dividend registers not written. -/
def Obligations.DivideError : Prop :=
  (∀ e s, byteSize.placeOk s (s.place e) = true → s.entryOk 0 = true → ∃ d s1,
    readPlace byteOp (s.place e) s = .ok (d, s1) ∧
    (d = 0 ∨ 0xFF < (s.reg16 .aw).toNat / d.toNat → ∃ n free t, exec (.divuEb e) s = .next t ∧
      Entered 0 (if Config.divErrorSavesNext then s.pc else s.start)
        ((s1.withDraws n).setStatus maskStatus (divStatus free)) t) ∧
    (d = 0 ∨ (s.reg16 .aw).toInt.tdiv d.toInt < -128 ∨ 127 < (s.reg16 .aw).toInt.tdiv d.toInt →
      ∃ n free t, exec (.divEb e) s = .next t ∧ Entered 0 (if Config.divErrorSavesNext then s.pc else s.start)
        ((s1.withDraws n).setStatus maskStatus (divStatus free)) t)) ∧
  (∀ e s, wordSize.placeOk s (s.place e) = true → s.entryOk 0 = true → ∃ d s1,
    readPlace wordOp (s.place e) s = .ok (d, s1) ∧
    (d = 0 ∨ 0xFFFF < (s.reg16 .dw ++ s.reg16 .aw : BitVec 32).toNat / d.toNat →
      ∃ n free t, exec (.divuEw e) s = .next t ∧ Entered 0 (if Config.divErrorSavesNext then s.pc else s.start)
        ((s1.withDraws n).setStatus maskStatus (divStatus free)) t) ∧
    (d = 0 ∨ (s.reg16 .dw ++ s.reg16 .aw : BitVec 32).toInt.tdiv d.toInt < -32768 ∨
        32767 < (s.reg16 .dw ++ s.reg16 .aw : BitVec 32).toInt.tdiv d.toInt →
      ∃ n free t, exec (.divEw e) s = .next t ∧ Entered 0 (if Config.divErrorSavesNext then s.pc else s.start)
        ((s1.withDraws n).setStatus maskStatus (divStatus free)) t))

/-- CVTBW and CVTWL extend the sign (R288, R289); CVTBD and CVTDB convert between binary and unpacked decimal (R305, R306). -/
def Obligations.Conversions : Prop :=
  (∀ s, ∃ t, exec .cvtbw s = .next t ∧ t.reg16 .aw = (s.reg8 .al).signExtend 16 ∧ t.pc = s.pc ∧ t.events = s.events ∧ Quiet s t ∧
    Frame s t (byteSize.keys s .ah) 0 [] []) ∧
  (∀ s, ∃ t, exec .cvtwl s = .next t ∧ (t.reg16 .dw ++ t.reg16 .aw : BitVec 32) = (s.reg16 .aw).signExtend 32 ∧
      t.pc = s.pc ∧ t.events = s.events ∧ Quiet s t ∧
    Frame s t (wordSize.keys s .dw) 0 [] []) ∧
  (∀ s, ∃ t, exec .cvtbd s = .next t ∧ (t.reg8 .ah).toNat * 10 + (t.reg8 .al).toNat = (s.reg8 .al).toNat ∧
    (t.reg8 .al).toNat < 10 ∧ t.flag .s = (t.reg8 .al).msb ∧ t.flag .z = (t.reg8 .al == 0) ∧
    t.flag .p = parity8 (t.reg8 .al) ∧ t.pc = s.pc ∧ t.events = s.events ∧ Quiet s t ∧ Frame s t (wordSize.keys s .aw) maskStatus [] []) ∧
  (∀ s, ∃ t, exec .cvtdb s = .next t ∧ (t.reg8 .al).toNat = ((s.reg8 .ah).toNat * 10 + (s.reg8 .al).toNat) % 256 ∧
    t.reg8 .ah = 0 ∧ t.flag .s = (t.reg8 .al).msb ∧ t.flag .z = (t.reg8 .al == 0) ∧
    t.flag .p = parity8 (t.reg8 .al) ∧ t.pc = s.pc ∧ t.events = s.events ∧ Quiet s t ∧ Frame s t (wordSize.keys s .aw) maskStatus [] [])

/-- ADJ4A, ADJ4S, ADJBA, ADJBS (R301 to R304). -/
def Obligations.DecimalAdjust : Prop :=
  (∀ s, let al := s.reg8 .al
    let low : Bool := decide (9 < al.toNat % 16) || s.flag .ac
    let high : Bool := decide (0x99 < al.toNat) || s.flag .cy
    (∃ t, exec .adj4a s = .next t ∧ t.reg8 .al = al + (if low then 6 else 0) + (if high then 0x60 else 0) ∧
      t.flag .ac = low ∧ t.flag .cy = high ∧ t.flag .s = (t.reg8 .al).msb ∧ t.flag .z = (t.reg8 .al == 0) ∧
      t.flag .p = parity8 (t.reg8 .al) ∧ t.pc = s.pc ∧ t.events = s.events ∧ Quiet s t ∧ Frame s t (byteSize.keys s .al) maskStatus [] []) ∧
    (∃ t, exec .adj4s s = .next t ∧ t.reg8 .al = al - (if low then 6 else 0) - (if high then 0x60 else 0) ∧
      t.flag .ac = low ∧ t.flag .cy = high ∧ t.flag .s = (t.reg8 .al).msb ∧ t.flag .z = (t.reg8 .al == 0) ∧
      t.flag .p = parity8 (t.reg8 .al) ∧ t.pc = s.pc ∧ t.events = s.events ∧ Quiet s t ∧ Frame s t (byteSize.keys s .al) maskStatus [] []) ∧
    (∃ t, exec .adjba s = .next t ∧ t.reg8 .al = (if low then al + 6 else al) &&& 0x0F ∧
      t.reg8 .ah = (if low then s.reg8 .ah + 1 else s.reg8 .ah) ∧ t.flag .ac = low ∧ t.flag .cy = low ∧ t.pc = s.pc ∧ t.events = s.events ∧ Quiet s t ∧
      Frame s t (wordSize.keys s .aw) maskStatus [] []) ∧
    (∃ t, exec .adjbs s = .next t ∧ t.reg8 .al = (if low then al - 6 else al) &&& 0x0F ∧
      t.reg8 .ah = (if low then s.reg8 .ah - 1 else s.reg8 .ah) ∧ t.flag .ac = low ∧ t.flag .cy = low ∧ t.pc = s.pc ∧ t.events = s.events ∧ Quiet s t ∧
      Frame s t (wordSize.keys s .aw) maskStatus [] []))

/-- ADD then ADJ4A adds packed decimal bytes, SUB then ADJ4S subtracts them: the adjusted sum of two packed numbers and a
carry is the packed sum modulo 100 with the decimal carry, the adjusted difference likewise with the borrow. -/
def Obligations.AdjustedSumsAreDecimal : Prop :=
  ∀ m n : Nat, m < 100 → n < 100 → ∀ c : Bool,
    (packedAdd (addResult (packedByte m) (packedByte n) c) (flagOf (addStatus (packedByte m) (packedByte n) c) .cy)
        (flagOf (addStatus (packedByte m) (packedByte n) c) .ac)).1 = packedByte ((m + n + c.toNat) % 100) ∧
    (packedAdd (addResult (packedByte m) (packedByte n) c) (flagOf (addStatus (packedByte m) (packedByte n) c) .cy)
        (flagOf (addStatus (packedByte m) (packedByte n) c) .ac)).2.1 = decide (100 ≤ m + n + c.toNat) ∧
    (packedSub (subResult (packedByte m) (packedByte n) c) (flagOf (subStatus (packedByte m) (packedByte n) c) .cy)
        (flagOf (subStatus (packedByte m) (packedByte n) c) .ac)).1 = packedByte ((m + 100 - n - c.toNat) % 100) ∧
    (packedSub (subResult (packedByte m) (packedByte n) c) (flagOf (subStatus (packedByte m) (packedByte n) c) .cy)
        (flagOf (subStatus (packedByte m) (packedByte n) c) .ac)).2.1 = decide (m < n + c.toNat)

/-- ROL4 and ROR4 (R315, R316): the digits rotate through the low nibble of AL; the high nibble of AL afterwards is open,
and with AL itself the operand all of AL is (log 21). That a memory operand at AL's own byte of the on-chip RAM follows the
rules as any other is the model's choice (log 21). -/
def Obligations.RotateDigits : Prop :=
  (∀ e s, e ≠ .reg .al → byteSize.placeOk s (s.place e) = true → ∃ a s1, readPlace byteOp (s.place e) s = .ok (a,
      s1) ∧
    (∃ u t, writePlace byteOp (s.place e) (a.extractLsb' 0 4 ++ (s.reg8 .al).extractLsb' 0 4) s1 = .ok ((), u) ∧
      exec (.rol4Eb e) s = .next t ∧ ∃ n, ∃ high : BitVec 4, u.draws ≤ n ∧
          t = (u.withDraws n).setReg8 .al (high ++ a.extractLsb' 4 4)) ∧
    (∃ u t, writePlace byteOp (s.place e) ((s.reg8 .al).extractLsb' 0 4 ++ a.extractLsb' 4 4) s1 = .ok ((), u) ∧
      exec (.ror4Eb e) s = .next t ∧ ∃ n, ∃ high : BitVec 4, u.draws ≤ n ∧
          t = (u.withDraws n).setReg8 .al (high ++ a.extractLsb' 0 4))) ∧
  (∀ s, ∃ n v, s.draws ≤ n ∧ exec (.rol4Eb (.reg .al)) s = .next ((s.withDraws n).setReg8 .al v) ∧
    exec (.ror4Eb (.reg .al)) s = .next ((s.withDraws n).setReg8 .al v))

/-- What multiplication, division without the divide error, and the digit rotates leave unchanged. -/
def Obligations.MultiplyDivideFrame : Prop :=
  (∀ e s t, exec (.muluEb e) s = .next t ∨ exec (.mulEb e) s = .next t → Quiet s t ∧
    Frame s t (wordSize.keys s .aw) maskStatus (byteSize.placeBytes (s.place e)) []) ∧
  (∀ e s t, exec (.muluEw e) s = .next t ∨ exec (.mulEw e) s = .next t → Quiet s t ∧
    Frame s t (wordSize.keys s .aw ++ wordSize.keys s .dw) maskStatus (wordSize.placeBytes (s.place e)) []) ∧
  (∀ r e s t, (∃ imm, exec (.mulReg16EwImm16 r e imm) s = .next t) ∨ (∃ imm,
      exec (.mulReg16EwImm8 r e imm) s = .next t) →
    Quiet s t ∧ Frame s t (wordSize.keys s r) maskStatus (wordSize.placeBytes (s.place e)) []) ∧
  (∀ e s t d s1, readPlace byteOp (s.place e) s = .ok (d, s1) →
    exec (.divuEb e) s = .next t ∧ divUnsigned8 (s.reg16 .aw) d ≠ none ∨
      exec (.divEb e) s = .next t ∧ divSigned8 (s.reg16 .aw) d ≠ none → Quiet s t ∧
    Frame s t (wordSize.keys s .aw) maskStatus (byteSize.placeBytes (s.place e)) []) ∧
  (∀ e s t d s1, readPlace wordOp (s.place e) s = .ok (d, s1) →
    exec (.divuEw e) s = .next t ∧ divUnsigned16 (s.reg16 .dw ++ s.reg16 .aw) d ≠ none ∨
      exec (.divEw e) s = .next t ∧ divSigned16 (s.reg16 .dw ++ s.reg16 .aw) d ≠ none → Quiet s t ∧
    Frame s t (wordSize.keys s .aw ++ wordSize.keys s .dw) maskStatus (wordSize.placeBytes (s.place e)) []) ∧
  (∀ e s t, exec (.rol4Eb e) s = .next t ∨ exec (.ror4Eb e) s = .next t → Quiet s t ∧
    Frame s t (byteSize.placeKeys s (s.place e) ++ byteSize.keys s .al) 0 (byteSize.placeBytes (s.place e))
      (byteSize.placeBytes (s.place e)))

/-! ### Reset and the invariant -/

/-- After reset, power-on or other, PSW is F002H, PC is 0000H and PS is FFFFH, and the first instruction byte is fetched at
FFFF0H (R43, R49). -/
def Obligations.ResetStart : Prop :=
  ∀ t, t = State.reset ∨ (∃ s : State, s.resetPin = true ∧ step s = .next t) →
    t.psw = 0xF002 ∧ bit15 t.psw = true ∧ t.bank = 7 ∧ t.flag .ibrk = true ∧
    (∀ f, f ≠ Flag.ibrk → t.flag f = false) ∧ t.pc = 0x0000 ∧ t.sreg .ps = 0xFFFF ∧ t.fetchAddr 0 = 0xFFFF0#20

/-- Every register the spec gives a value after reset holds it; a reset during a run leaves external memory, STBC, DMAC0
and DMAC1 as they were (R601, R604). -/
def Obligations.ResetState : Prop :=
  AfterReset State.reset ∧ State.reset.stbc = 0x00 ∧
  (∀ s : State, s.resetPin = true → ∃ t, step s = .next t ∧ AfterReset t ∧ t.ext = s.ext ∧ t.stbc = s.stbc ∧
    t.sfr.read 0xA0 = s.sfr.read 0xA0 ∧ t.sfr.read 0xA2 = s.sfr.read 0xA2 ∧ t.memmap = s.memmap ∧ t.iomap = s.iomap ∧
    t.stopOpcode = s.stopOpcode)

/-- The invariant holds after reset. -/
def Obligations.ResetHasInvariant : Prop := State.reset.Inv

/-- Every step keeps the invariant: the memories stay in their one form, PSW bit 15 stays 1 (R47). -/
def Obligations.StepKeepsInvariant : Prop := ∀ s t, s.Inv → step s = .next t → t.Inv

/-- No step changes the parameters of the platform, and no step clears a bit of STBC (R9, R76). -/
def Obligations.StepKeepsPlatform : Prop :=
  ∀ s t, step s = .next t → t.memmap = s.memmap ∧ t.iomap = s.iomap ∧ t.stopOpcode = s.stopOpcode ∧ s.stbc &&& t.stbc = s.stbc

/-- The only instructions that switch the register bank, set IE, set BRK, or change IBRK or DIR (R65 to R68). -/
def Obligations.ControlBitWriters : Prop :=
  ∀ i s t, exec i s = .next t →
    (t.bank ≠ s.bank → i = .reti ∨ i = .retrbi ∨ (∃ r, i = .brkcsReg16 r) ∨ ∃ r, i = .tskswReg16 r) ∧
    (s.flag .ie = false → t.flag .ie = true → i = .ei ∨ i = .popPsw ∨ i = .reti ∨ i = .retrbi) ∧
    (s.flag .brk = false → t.flag .brk = true → i = .popPsw ∨ i = .reti ∨ i = .retrbi) ∧
    (t.flag .ibrk ≠ s.flag .ibrk → i = .movPswAh ∨ i = .popPsw ∨ i = .reti ∨ i = .retrbi) ∧
    (t.flag .dir ≠ s.flag .dir → i = .set1Dir ∨ i = .clr1Dir ∨ i = .popPsw ∨ i = .reti ∨ i = .retrbi)

/-! ### Encodings -/

/-- The decoder reads every well-formed instruction from its encoding, whatever bytes follow. -/
def Obligations.DecodeOfEncode : Prop :=
  ∀ (i : Instr) (rest : List Byte), i.wellFormed = true →
    decode (encode i ++ rest) = .ok ⟨i, (encode i).length, rest⟩

/-- What the decoder reads is well formed, is at most six bytes long, and is the encoding of what it answers, so that no two
encodings stand for one instruction. -/
def Obligations.EncodeOfDecode : Prop :=
  ∀ bytes d, decode bytes = .ok d → d.instr.wellFormed = true ∧ bytes = encode d.instr ++ d.rest ∧
    d.length = (encode d.instr).length ∧ d.length ≤ maxInstrBytes

/-- The undefined encodings of R168 decode to no instruction. `m` is a mod-r/m byte, `n` its reg field. With `STOP_OPCODE` as
an argument only 0FH 9EH and 0FH BEH decode otherwise: the one that is `STOP_OPCODE` is STOP, and while it is not fixed both
are refused (R9, R431; that the opcode table's 9EH is the value after reset is log 26). -/
def Obligations.UndefinedEncodingsRejected : Prop :=
  (∀ rest, ∀ b ∈ ([0x63, 0xD6, 0xF1] : List Byte), decode (b :: rest) = .error .undefinedEncoding) ∧
  (∀ rest, ∀ b : Byte, b ∉ ([0x10, 0x11, 0x12, 0x13, 0x14, 0x15, 0x16, 0x17, 0x18, 0x19, 0x1A, 0x1B, 0x1C, 0x1D,
      0x1E, 0x1F,
    0x20, 0x22, 0x25, 0x26, 0x28, 0x2A, 0x2D, 0x31, 0x33, 0x39, 0x3B, 0x91, 0x92, 0x94, 0x95, 0x9C,
        0x9E] : List Byte) →
    decode (0x0F :: b :: rest) = .error .undefinedEncoding) ∧
  (∀ rest (b m : Byte), 2 ≤ rest.length → (let n := (m.extractLsb' 3 3).toNat; let reg := m.extractLsb' 6 2 = 3
    (b ∈ ([0x8F, 0xC6, 0xC7] : List Byte) ∧ n ≠ 0) ∨ (b ∈ ([0xC0, 0xC1, 0xD0, 0xD1, 0xD2, 0xD3] : List Byte) ∧
        n = 6) ∨
    (b ∈ ([0xF6, 0xF7] : List Byte) ∧ n = 1) ∨ (b = 0xFE ∧ 2 ≤ n) ∨ (b = 0xFF ∧ n = 7) ∨
    (b ∈ ([0x8C, 0x8E] : List Byte) ∧ 4 ≤ n) ∨ (b = 0x8E ∧ n = 1) ∨ (b ∈ ([0x8D, 0xC4, 0xC5, 0x62] : List Byte) ∧
        reg) ∨
    (b = 0xFF ∧ (n = 3 ∨ n = 5) ∧ reg)) → decode (b :: m :: rest) = .error .undefinedEncoding) ∧
  (∀ rest, ∀ b ∈ ([0xD4, 0xD5] : List Byte), ∀ c : Byte, c ≠ 0x0A →
    decode (b :: c :: rest) = .error .undefinedEncoding) ∧
  (∀ rest (b m : Byte), 2 ≤ rest.length → (let n := (m.extractLsb' 3 3).toNat; let reg := m.extractLsb' 6 2 = 3
    (b ∈ ([0x10, 0x11, 0x12, 0x13, 0x14, 0x15, 0x16, 0x17, 0x18, 0x19, 0x1A, 0x1B, 0x1C, 0x1D, 0x1E, 0x1F, 0x28, 0x2A]
      : List Byte) ∧ n ≠ 0) ∨ (b ∈ ([0x2D, 0x39, 0x3B] : List Byte) ∧ ¬(reg ∧ n = 0)) ∨
    (b ∈ ([0x31, 0x33] : List Byte) ∧ ¬reg) ∨ (b ∈ ([0x94, 0x95] : List Byte) ∧ ¬(reg ∧ n = 7))) →
    decode (0x0F :: b :: m :: rest) = .error .undefinedEncoding) ∧
  (∀ bytes, decodeWith .byte9E bytes = decode bytes) ∧
  (∀ rest, decodeWith .byteBE (0x0F :: 0xBE :: rest) = .ok ⟨.stop, 2, rest⟩ ∧
    decodeWith .byteBE (0x0F :: 0x9E :: rest) = .error .undefinedEncoding ∧
    decodeWith .unset (0x0F :: 0x9E :: rest) = .error .stopUnset ∧
    decodeWith .unset (0x0F :: 0xBE :: rest) = .error .stopUnset) ∧
  (∀ p bytes, (∀ rest, bytes ≠ 0x0F :: 0x9E :: rest ∧ bytes ≠ 0x0F :: 0xBE :: rest) → decodeWith p bytes = decode bytes)

/-- The words of some of the spec's examples decode to the instructions they stand for (R201 to R457). -/
def Obligations.SpecWordsDecode : Prop :=
  decode [0x8B, 0xC3] = .ok ⟨.movRwEw .aw (.reg .bw), 2, []⟩ ∧
  decode [0xC6, 0x06, 0x34, 0x12, 0x56] = .ok ⟨.movEbImm8 (.mem (.direct 0x1234)) 0x56, 5, []⟩ ∧
  decode [0x8D, 0x40, 0x02] = .ok ⟨.ldea .aw (.based8 .bwIx 0x02), 3, []⟩ ∧
  decode [0x3D, 0x00, 0x80] = .ok ⟨.cmpAwImm16 0x8000, 3, []⟩ ∧
  decode [0x0F, 0x1A, 0xC0, 0x00] = .ok ⟨.clr1EbImm3 (.reg .al) 0x00, 4, []⟩ ∧
  decode [0x0F, 0x9C, 0xEA, 0x03, 0x10] = .ok ⟨.btclr 0xEA 0x03 0x10, 5, []⟩ ∧
  decode [0xEA, 0x00, 0x01, 0x00, 0xF0] = .ok ⟨.brFar 0x0100 0xF000, 5, []⟩ ∧
  decode [0xC8, 0x08, 0x00, 0x00] = .ok ⟨.prepare 0x0008 0x00, 4, []⟩ ∧
  decode [0x26, 0x8A, 0x05] = .ok ⟨.prefixDs1, 1, [0x8A, 0x05]⟩ ∧
  decode [0x8A, 0x05] = .ok ⟨.movRbEb .al (.mem (.based0 .iy)), 2, []⟩

/-! ### Steps -/

/-- When the next thing due is an instruction, a step is `exec` of it: of the one the bytes at PC decode to, in a state with
PC past it, or of the one to be resumed. What the step does around `exec`: before, PC moves past the bytes and,
    unless it is
a prefix, the single-step trap is armed by BRK and a protected boundary is over; after,
    no prefix is left and a new IDB is
in force, unless the instruction is a prefix or goes on. Bytes that are no instruction,
    and a repeat prefix in front of an
instruction that is no block instruction, stop the machine (R41, R120, R164, R168, R234, R503). The model's own choices in it:
a prefix is a step of its own that keeps the boundary as it was (log 7); a repeated block instruction keeps a protected boundary
until it ends, and a POLL that waits ends it with its first look (log 42, 24). -/
def Obligations.StepRunsDecodedInstruction : Prop :=
  ∀ s : State, s.boundary = .execute →
    (∀ r, s.resume = some r → step s =
      runInstr s r.toInstr { s with hold := false, trace := s.flag .brk, resume := none }) ∧
    (s.resume = none →
      (∀ d, decodeWith s.stopOpcode (s.fetchBytes maxInstrBytes 0).1 = .ok d →
        (s.pre.rep = none ∨ isPrefix d.instr = true ∨ isBlock d.instr = true →
          step s = runInstr s d.instr (s.begin d.instr d.length)) ∧
        (s.pre.rep ≠ none ∧ isPrefix d.instr = false ∧ isBlock d.instr = false →
            step s = .refused .repeatOnNonBlock)) ∧
      (decodeWith s.stopOpcode (s.fetchBytes maxInstrBytes 0).1 = .error .undefinedEncoding →
        step s = .refused .undefinedEncoding) ∧
      (decodeWith s.stopOpcode (s.fetchBytes maxInstrBytes 0).1 = .error .stopUnset →
        step s = .refused .stopEncodingUnknown) ∧
      (∀ f, decodeWith s.stopOpcode (s.fetchBytes maxInstrBytes 0).1 = .error .truncated →
        (s.fetchBytes maxInstrBytes 0).2 = some (.fault f) → step s = .fault f)) ∧
    (∀ i b, (∀ t, exec i b = .next t → runInstr s i b = .next (s.finish i t)) ∧
      (∀ f, exec i b = .fault f → runInstr s i b = .fault f) ∧
      (∀ r, exec i b = .refused r → runInstr s i b = .refused r)) ∧
    (∀ i n, ∃ d c, s.draws ≤ d ∧ s.begin i n =
      (let t := { s with pc := s.pc + BitVec.ofNat 16 n, pcHigh := c, draws := d,
                         start := if s.afterPrefix then s.start else s.pc }
       if isPrefix i then t else { t with hold := false, trace := s.flag .brk, resume := none })) ∧
    (∀ i t, (isPrefix i = true → s.finish i t = t) ∧
      (isPrefix i = false → t.resume = none → s.finish i t = { t with pre := Prefixes.none, area := t.idb }) ∧
      (isPrefix i = false → ∀ b, t.resume = some (.block b) → s.finish i t = { t with hold := s.hold }) ∧
      (isPrefix i = false → t.resume = some .poll → s.finish i t = t))

/-- A fetch reads external memory, whatever the internal data area holds; from unmapped or reserved addresses it stops. Only
a byte stored inside the prefetch window may still read as its old value (R118, R141). -/
def Obligations.FetchReadsExternalMemory : Prop :=
  ∀ (s : State) (k : Nat),
    (s.pcHigh = 0 → s.pc.toNat + k < 0x10000 → s.fetchAddr k = phys (s.sreg .ps) (s.pc + BitVec.ofNat 16 k)) ∧
    (let a := s.fetchAddr k
     let reserved : Bool := decide (0xFFF00 ≤ a.toNat ∧ a.toNat ≤ 0xFFFEF) || decide (0xFFFFC ≤ a.toNat)
     (reserved = true → s.fetchByte k = .error (.fault .reservedFetch)) ∧
     (reserved = false → s.kindAt a = none → s.fetchByte k = .error (.fault .unmappedFetch)) ∧
     (reserved = false → s.kindAt a ≠ none → s.oldBytes a = [] → s.fetchByte k = .ok (s.ext.read a.toNat)) ∧
     (reserved = false → s.kindAt a ≠ none →
       ∃ b, s.fetchByte k = .ok b ∧ (b = s.ext.read a.toNat ∨ (a.toNat, b) ∈ s.queueOld)))

/-- What is due at the boundary before an instruction, and in which order: RESET; standby and its end; no interruption
between a prefix and its instruction; a protected boundary; the single-step trap; NMI; a maskable request if IE = 1, by its
response mode; else the next instruction (R430, R431, R503, R507, R515 to R517, R519, R538, R600). The model's own choices in
it: a trap due comes before NMI, and after HALT or STOP when standby has ended (log 17); in HALT a macro service
request waits for IE = 1, and any other request ends HALT with IE = 0 or not, and one not presented for its priority never
does (log 25); RESET is served at a boundary (log 43);
BUSLOCK holds off no macro service between iterations (log 49); STOP ends on NMI (log 26); the protection of a
boundary against the trap too, between iterations as well (log 42); a switch to the current bank is refused (log 31); what macro service writes is one open list of writes to RAM,
special function registers and banks 0 and 1, all at the one boundary (log 41); requests and NMI are inputs (log 40). -/
def Obligations.BoundaryOrder : Prop :=
  (∀ s : State, s.resetPin = true → step s = .next s.warmReset) ∧
  (∀ s : State, s.resetPin = false → s.run = .stopped →
    step s = .next (if s.nmi then s.withRun .running else s)) ∧
  (∀ s : State, s.resetPin = false → s.run = .halted →
    (s.nmi = true → step s = .next (s.withRun .running)) ∧
    (s.nmi = false → s.irq = none → step s = .next s) ∧
    (s.nmi = false → s.irq = some .macroService →
      (s.flag .ie = true → ∃ u, Serviced { s with irq := none } u ∧ step s = .next u) ∧
      (s.flag .ie = false → step s = .next s)) ∧
    (∀ r, s.nmi = false → s.irq = some r → r ≠ .macroService →
      step s = .next (if s.flag .ie || Config.haltEndsWithoutIe then s.withRun .running else s))) ∧
  (∀ s : State, s.resetPin = false → s.run = .running →
    (s.pre ≠ Prefixes.none → s.resume = none → s.boundary = .execute) ∧
    (s.pre = Prefixes.none ∨ s.resume ≠ none →
      let noTrap := s.trace = false ∨ (s.resume ≠ none ∧ Config.stepTrapBetweenIterations = false)
      (s.hold = true → s.boundary = .execute) ∧
      (s.hold = false → s.trace = true → s.resume = none ∨ Config.stepTrapBetweenIterations = true → s.entryOk 1 = true →
        ∃ u, Entered 1 s.nextOffset s u ∧ step s = .next u.settle) ∧
      (noTrap → s.hold = false → s.nmi = true → s.entryOk 2 = true →
        ∃ u, Entered 2 s.nextOffset { s with nmi := false } u ∧ step s = .next u.settle) ∧
      (noTrap → s.nmi = false → s.irq = none ∨ s.flag .ie = false → s.boundary = .execute) ∧
      (noTrap → s.hold = false → s.nmi = false → s.flag .ie = true →
        (∀ v, s.irq = some (.vectored v) → s.entryOk v = true →
          ∃ u, Entered v s.nextOffset { s with irq := none } u ∧ step s = .next u.settle) ∧
        (∀ n, s.irq = some (.bankSwitch n) → n ≠ s.bank →
          ∃ u, Switched n s.nextOffset 0x7300 { s with irq := none } u ∧ u.flag .ie = false ∧ u.flag .brk = false ∧
            step s = .next u.settle) ∧
        (s.irq = some (.bankSwitch s.bank) → step s = .refused .switchToCurrentBank) ∧
        (s.irq = some .macroService → ∃ u, Serviced { s with irq := none } u ∧ step s = .next u)))) ∧
  (∀ s : State, s.nextOffset = if s.resume = none then s.pc else s.start)

/-! ### Data access -/

/-- What a data access meets (R110 to R116, R124): FFFFFH is IDB; the special function register area; the on-chip RAM if
RAMEN = 1; else external memory, where a reserved or an unmapped address stops the machine and a write to ROM changes
nothing but is recorded (log 52). The internal data area stands where IDB put it before the instruction (R120,
    log 39). -/
def Obligations.DataAccess : Prop :=
  ∀ (s : State) (v : Byte),
    (readByte 0xFFFFF#20 s = .ok (s.idb, s) ∧ writeByte 0xFFFFF#20 v s = .ok ((), s.withIdb v)) ∧
    (∀ o, s.sfrAddr o ≠ 0xFFFFF#20 →
      readByte (s.sfrAddr o) s = readSfr o s ∧ writeByte (s.sfrAddr o) v s = writeSfr o v s) ∧
    (∀ k, s.prc.getLsbD 6 = true → readByte (s.iramAddr k) s = .ok (s.iram.read k.toNat, s) ∧
      writeByte (s.iramAddr k) v s = .ok ((), s.withIram (s.iram.write k.toNat v))) ∧
    (∀ a, a ≠ 0xFFFFF#20 → (∀ o, a ≠ s.sfrAddr o) → (∀ k, a = s.iramAddr k → s.prc.getLsbD 6 = false) →
      let reserved : Bool := decide (0xFFF00 ≤ a.toNat ∧ a.toNat ≤ 0xFFFEF) || decide (0xFFFFC ≤ a.toNat)
      (reserved = true → readByte a s = .error (.fault .reservedData) ∧
        writeByte a v s = .error (.fault .reservedData)) ∧
      (reserved = false → s.kindAt a = none → readByte a s = .error (.fault .unmappedData) ∧
        writeByte a v s = .error (.fault .unmappedData)) ∧
      (reserved = false → s.kindAt a = some .rom → readByte a s = .ok (s.ext.read a.toNat, s) ∧
        writeByte a v s = .ok ((), s.record (.romWrite a v))) ∧
      (reserved = false → s.kindAt a = some .ram → readByte a s = .ok (s.ext.read a.toNat, s) ∧
        ∃ q, writeByte a v s = .ok ((), (s.withExt (s.ext.write a.toNat v)).withQueueOld q)))

/-- Special function registers (R71 to R77, R117): IDB, PRC and FLAG hold what they are; STBC only gains bits by a write and
reads as the environment says (R76, R77, log 37); a peripheral's register reads as the environment says and a write of it is
recorded (log 36); reserved addresses, read-only and write-only registers; registers of 16 bits, which only words reach. The
first clauses say which offsets are which, by Table 3-4 (the model's reading of C9H and CAH, D9H and DAH, E9H is log 56, of FCH
log 58). -/
def Obligations.SpecialRegisters : Prop :=
  (∀ o : Byte, sfrByteKind o =
    if o ∈ sfrReadWriteOffsets then .register .readWrite
    else if o ∈ sfrReadOnlyOffsets then .register .readOnly
    else if o ∈ sfrWriteOnlyOffsets then .register .writeOnly
    else if o ∈ sfrWordOnlyOffsets then .wordOnly
    else .reserved) ∧
  (∀ o : Byte, sfr16 o = decide (o ∈ sfrWordOffsets)) ∧
  ∀ (s : State) (v : Byte),
    (readSfr 0xFF s = .ok (s.idb, s) ∧ writeSfr 0xFF v s = .ok ((), s.withIdb v)) ∧
    (readSfr 0xEB s = .ok (s.prc, s) ∧ writeSfr 0xEB v s = .ok ((), s.withPrc v)) ∧
    (∃ x n, s.draws ≤ n ∧ readSfr 0xEA s = .ok (x, s.withDraws n) ∧ x.getLsbD 5 = s.flag .f1 ∧
        x.getLsbD 3 = s.flag .f0) ∧
    (∃ p, writeSfr 0xEA v s = .ok ((), s.withPsw p) ∧ p.getLsbD 5 = v.getLsbD 5 ∧ p.getLsbD 3 = v.getLsbD 3 ∧
      ∀ i, i < 16 → i ≠ 3 → i ≠ 5 → p.getLsbD i = s.psw.getLsbD i) ∧
    ((∃ x n, s.draws ≤ n ∧ readSfr 0xE0 s = .ok (x, (s.withDraws n).record (.sfrRead 0xE0 x))) ∧
      writeSfr 0xE0 v s = .ok ((), (s.withStbc (s.stbc ||| v)).record (.sfrWrite 0xE0 v))) ∧
    (∀ o, sfrByteKind o = .reserved → writeSfr o v s = .ok ((), s) ∧
      ∃ x n, s.draws ≤ n ∧ readSfr o s = .ok (x, s.withDraws n)) ∧
    (∀ o, sfrByteKind o = .wordOnly → readSfr o s = .error (.fault .sfrAccessUnit) ∧
      writeSfr o v s = .error (.fault .sfrAccessUnit)) ∧
    (∀ o, sfrByteKind o = .register .readOnly → writeSfr o v s = .ok ((), s)) ∧
    (∀ o, sfrByteKind o = .register .writeOnly → ∃ x n, s.draws ≤ n ∧ readSfr o s = .ok (x, s.withDraws n)) ∧
    (∀ o, o ∉ ([0xE0, 0xEA, 0xEB, 0xFF] : List Byte) →
      (sfrByteKind o = .register .readWrite ∨ sfrByteKind o = .register .readOnly → ∃ x n, s.draws ≤ n ∧
        readSfr o s = .ok (x, ((s.withDraws n).withSfr (s.sfr.write o.toNat x)).record (.sfrRead o x))) ∧
      (sfrByteKind o = .register .readWrite ∨ sfrByteKind o = .register .writeOnly →
        writeSfr o v s = .ok ((), (s.withSfr (s.sfr.write o.toNat v)).record (.sfrWrite o v)))) ∧
    (∀ o w, sfr16 o = true →
      (∃ u, writeWord (s.sfrAddr o) w s = .ok ((), u.record (.sfrWriteWord o w)) ∧
        u = s.withSfr ((s.sfr.write o.toNat (w.extractLsb' 0 8)).write (o.toNat + 1) (w.extractLsb' 8 8))) ∧
      ∃ x n, s.draws ≤ n ∧ readWord (s.sfrAddr o) s = .ok (x, ((s.withDraws n).withSfr
        ((s.sfr.write o.toNat (x.extractLsb' 0 8)).write (o.toNat + 1) (x.extractLsb' 8 8))).record (.sfrReadWord o x)))

/-- Storage: what is written is what the next read gives, a word is its low byte and, at the next physical address, its high
byte, and no other byte changes (R104, R106, R107). -/
def Obligations.ReadAfterWrite : Prop :=
  (∀ (s : State) (a : PhysAddr) (v : Byte), s.storageAt a = true → ∃ t, writeByte a v s = .ok ((), t) ∧
    readByte a t = .ok (v, t) ∧
    ∀ b, b ≠ a → s.storageAt b = true → ∃ x, readByte b s = .ok (x, s) ∧ readByte b t = .ok (x, t)) ∧
  (∀ (s : State) (a : PhysAddr) (v : Word), s.storageWordAt a = true → ∃ t, writeWord a v s = .ok ((), t) ∧
    readWord a t = .ok (v, t) ∧ readByte a t = .ok (v.extractLsb' 0 8, t) ∧
    readByte (a + 1) t = .ok (v.extractLsb' 8 8, t) ∧
    ∀ b, b ≠ a → b ≠ a + 1 → s.storageAt b = true → ∃ x, readByte b s = .ok (x, s) ∧ readByte b t = .ok (x, t))

/-- The registers are the bytes of the current bank in the on-chip RAM (R20 to R24): a data access to the physical address of
a register reads and writes the register; a word register is its two halves; writing one register leaves every other. -/
def Obligations.RegistersAreOnChipRam : Prop :=
  (∀ s : State, s.prc.getLsbD 6 = true →
    let at_ (off : Nat) : PhysAddr := BitVec.ofNat 20 (s.area.toNat * 4096 + 0xE00 + 32 * s.bank.toNat + off)
    (∀ r v, readByte (at_ (offReg8 r)) s = .ok (s.reg8 r, s) ∧
      writeByte (at_ (offReg8 r)) v s = .ok ((), s.setReg8 r v)) ∧
    (∀ r v, readWord (at_ (offReg16 r)) s = .ok (s.reg16 r, s) ∧
      writeWord (at_ (offReg16 r)) v s = .ok ((), s.setReg16 r v)) ∧
    (∀ r v, readWord (at_ (offSReg r)) s = .ok (s.sreg r, s) ∧
      writeWord (at_ (offSReg r)) v s = .ok ((), s.setSreg r v))) ∧
  (∀ s : State, s.reg16 .aw = s.reg8 .ah ++ s.reg8 .al ∧ s.reg16 .cw = s.reg8 .ch ++ s.reg8 .cl ∧
    s.reg16 .dw = s.reg8 .dh ++ s.reg8 .dl ∧ s.reg16 .bw = s.reg8 .bh ++ s.reg8 .bl) ∧
  (∀ (s : State) r v, (s.setReg8 r v).reg8 r = v ∧ (∀ q, q ≠ r → (s.setReg8 r v).reg8 q = s.reg8 q) ∧
    (∀ q, (s.setReg8 r v).sreg q = s.sreg q)) ∧
  (∀ (s : State) r v, (s.setReg16 r v).reg16 r = v ∧ (∀ q, q ≠ r → (s.setReg16 r v).reg16 q = s.reg16 q) ∧
    (∀ q, (s.setReg16 r v).sreg q = s.sreg q)) ∧
  (∀ (s : State) r v, (s.setSreg r v).sreg r = v ∧ (∀ q, q ≠ r → (s.setSreg r v).sreg q = s.sreg q) ∧
    (∀ q, (s.setSreg r v).reg16 q = s.reg16 q)) ∧
  (∀ (s : State) (c : BitVec 3) k, c ≠ s.bank → k < 32 →
    (∀ r v, (s.setReg16 r v).bankByte c k = s.bankByte c k) ∧ (∀ r v, (s.setReg8 r v).bankByte c k = s.bankByte c k) ∧
    (∀ r v, (s.setSreg r v).bankByte c k = s.bankByte c k))

/-- A write of IDB, at FFFFFH or at its place in the special function register area, moves the internal data area from the
next instruction on: the instruction that writes it still sees the old place,
    and the step that ends it puts the new place
in force (R71, R120; the instant is the spec's own decision, log 39). -/
def Obligations.IdbMovesInternalArea : Prop :=
  (∀ (s : State) v, writeByte 0xFFFFF#20 v s = .ok ((), s.withIdb v) ∧
    writeByte (s.sfrAddr 0xFF) v s = .ok ((), s.withIdb v)) ∧
  (∀ i s t, exec i s = .next t → t.area = s.area) ∧
  (∀ s t, s.boundary = .execute → step s = .next t → t.resume = none → t.pre = Prefixes.none → t.area = t.idb)

/-! ### Laws of the flags and of the shifts -/

/-- The flags of sums and differences (R50, R55 to R59), for bytes and for words: CY is the carry or borrow that makes the
result exact; V is 1 exactly when the carries out of the two top bits differ, which is exactly when the signed result does not
fit (R59); AC is the carry or borrow between the low two digits; Z, S and P are the result's. AND, OR, XOR and TEST work bit by
bit, reset CY and V, and Z, S and P are the result's (R51, R55, R57, R58, R60, R321 to R324). -/
def Obligations.SumAndDifferenceFlags : Prop :=
  (∀ (a b : Byte) (c : Bool), let r := addResult a b c; let st := addStatus a b c
    r.toNat + 2 ^ 8 * (flagOf st .cy).toNat = a.toNat + b.toNat + c.toNat ∧
    (flagOf st .v = true ↔ r.toInt ≠ a.toInt + b.toInt + (c.toNat : Int)) ∧
    flagOf st .v = (decide (2 ^ 8 ≤ a.toNat + b.toNat + c.toNat) ^^
      decide (2 ^ 7 ≤ a.toNat % 2 ^ 7 + b.toNat % 2 ^ 7 + c.toNat)) ∧
    flagOf st .v = ((a ^^^ r) &&& (b ^^^ r)).msb ∧
    flagOf st .ac = decide (16 ≤ a.toNat % 16 + b.toNat % 16 + c.toNat) ∧ flagOf st .z = decide (r = 0) ∧
    flagOf st .s = r.getLsbD 7 ∧ flagOf st .p = decide (((List.range 8).countP fun k => r.getLsbD k) % 2 = 0)) ∧
  (∀ (a b : Word) (c : Bool), let r := addResult a b c; let st := addStatus a b c
    r.toNat + 2 ^ 16 * (flagOf st .cy).toNat = a.toNat + b.toNat + c.toNat ∧
    (flagOf st .v = true ↔ r.toInt ≠ a.toInt + b.toInt + (c.toNat : Int)) ∧
    flagOf st .v = (decide (2 ^ 16 ≤ a.toNat + b.toNat + c.toNat) ^^
      decide (2 ^ 15 ≤ a.toNat % 2 ^ 15 + b.toNat % 2 ^ 15 + c.toNat)) ∧
    flagOf st .v = ((a ^^^ r) &&& (b ^^^ r)).msb ∧
    flagOf st .ac = decide (16 ≤ a.toNat % 16 + b.toNat % 16 + c.toNat) ∧ flagOf st .z = decide (r = 0) ∧
    flagOf st .s = r.getLsbD 15 ∧ flagOf st .p = decide (((List.range 8).countP fun k => r.getLsbD k) % 2 = 0)) ∧
  (∀ (a b : Byte) (c : Bool), let r := subResult a b c; let st := subStatus a b c
    r.toNat + b.toNat + c.toNat = a.toNat + 2 ^ 8 * (flagOf st .cy).toNat ∧
    (flagOf st .v = true ↔ r.toInt ≠ a.toInt - b.toInt - (c.toNat : Int)) ∧
    flagOf st .v = (decide (a.toNat < b.toNat + c.toNat) ^^
      decide (a.toNat % 2 ^ 7 < b.toNat % 2 ^ 7 + c.toNat)) ∧
    flagOf st .v = ((a ^^^ b) &&& (a ^^^ r)).msb ∧
    flagOf st .ac = decide (a.toNat % 16 < b.toNat % 16 + c.toNat) ∧ flagOf st .z = decide (r = 0) ∧
    flagOf st .s = r.getLsbD 7 ∧ flagOf st .p = decide (((List.range 8).countP fun k => r.getLsbD k) % 2 = 0)) ∧
  (∀ (a b : Word) (c : Bool), let r := subResult a b c; let st := subStatus a b c
    r.toNat + b.toNat + c.toNat = a.toNat + 2 ^ 16 * (flagOf st .cy).toNat ∧
    (flagOf st .v = true ↔ r.toInt ≠ a.toInt - b.toInt - (c.toNat : Int)) ∧
    flagOf st .v = (decide (a.toNat < b.toNat + c.toNat) ^^
      decide (a.toNat % 2 ^ 15 < b.toNat % 2 ^ 15 + c.toNat)) ∧
    flagOf st .v = ((a ^^^ b) &&& (a ^^^ r)).msb ∧
    flagOf st .ac = decide (a.toNat % 16 < b.toNat % 16 + c.toNat) ∧ flagOf st .z = decide (r = 0) ∧
    flagOf st .s = r.getLsbD 15 ∧ flagOf st .p = decide (((List.range 8).countP fun k => r.getLsbD k) % 2 = 0)) ∧
  (∀ (op : AluOp), op.isLogical = true → ∀ (a b : Byte) (c : Bool) (free : Word),
    let r := op.result a b c; let st := op.status a b c free
    (∀ k, k < 8 → r.getLsbD k = op.onBits (a.getLsbD k) (b.getLsbD k)) ∧
    flagOf st .cy = false ∧ flagOf st .v = false ∧ flagOf st .z = decide (r = 0) ∧ flagOf st .s = r.getLsbD 7 ∧
    flagOf st .p = decide (((List.range 8).countP fun k => r.getLsbD k) % 2 = 0)) ∧
  (∀ (op : AluOp), op.isLogical = true → ∀ (a b : Word) (c : Bool) (free : Word),
    let r := op.result a b c; let st := op.status a b c free
    (∀ k, k < 16 → r.getLsbD k = op.onBits (a.getLsbD k) (b.getLsbD k)) ∧
    flagOf st .cy = false ∧ flagOf st .v = false ∧ flagOf st .z = decide (r = 0) ∧ flagOf st .s = r.getLsbD 15 ∧
    flagOf st .p = decide (((List.range 8).countP fun k => r.getLsbD k) % 2 = 0))

/-- AND, OR, XOR and TEST reset CY and V whatever the result (R51, R60). -/
def Obligations.LogicalFlags : Prop :=
  ∀ s t : State,
    (∃ p ∈ aluByteRmReg, p.1.isLogical = true ∧ ∃ e r, exec (p.2 e r) s = .next t) ∨
    (∃ p ∈ aluWordRmReg, p.1.isLogical = true ∧ ∃ e r, exec (p.2 e r) s = .next t) ∨
    (∃ p ∈ aluByteRegRm, p.1.isLogical = true ∧ ∃ r e, exec (p.2 r e) s = .next t) ∨
    (∃ p ∈ aluWordRegRm, p.1.isLogical = true ∧ ∃ r e, exec (p.2 r e) s = .next t) ∨
    (∃ p ∈ aluByteRmImm, p.1.isLogical = true ∧ ∃ e imm, exec (p.2 e imm) s = .next t) ∨
    (∃ p ∈ aluWordRmImm, p.1.isLogical = true ∧ ∃ e imm, exec (p.2 e imm) s = .next t) ∨
    (∃ p ∈ aluWordRmSext, p.1.isLogical = true ∧ ∃ e imm, exec (p.2 e imm) s = .next t) ∨
    (∃ p ∈ aluByteAccImm, p.1.isLogical = true ∧ ∃ imm, exec (p.2 imm) s = .next t) ∨
    (∃ p ∈ aluWordAccImm, p.1.isLogical = true ∧ ∃ imm, exec (p.2 imm) s = .next t) →
    t.flag .cy = false ∧ t.flag .v = false

/-- What `c` one-bit steps come to (R341 to R349): shifts by `c` with the last bit shifted out in CY; rotates by `c`; rotates
of the operand with CY on top of it. -/
def Obligations.ShiftClosedForms : Prop :=
  (∀ (x : Byte) (cy : Bool) (c : Nat), 1 ≤ c →
    ShiftOp.shl.steps c (x, cy) = (x <<< c, decide (c ≤ 8) && x.getLsbD (8 - c)) ∧
    ShiftOp.shr.steps c (x, cy) = (x >>> c, x.getLsbD (c - 1)) ∧
    ShiftOp.shra.steps c (x, cy) = (x.sshiftRight c, (x.sshiftRight (c - 1)).getLsbD 0) ∧
    ShiftOp.rol.steps c (x, cy) = (x.rotateLeft c, (x.rotateLeft c).getLsbD 0) ∧
    ShiftOp.ror.steps c (x, cy) = (x.rotateRight c, (x.rotateRight c).msb) ∧
    (let y := (BitVec.ofBool cy ++ x : BitVec 9).rotateLeft c
     ShiftOp.rolc.steps c (x, cy) = (y.extractLsb' 0 8, y.msb)) ∧
    (let y := (BitVec.ofBool cy ++ x : BitVec 9).rotateRight c
     ShiftOp.rorc.steps c (x, cy) = (y.extractLsb' 0 8, y.msb))) ∧
  (∀ (x : Word) (cy : Bool) (c : Nat), 1 ≤ c →
    ShiftOp.shl.steps c (x, cy) = (x <<< c, decide (c ≤ 16) && x.getLsbD (16 - c)) ∧
    ShiftOp.shr.steps c (x, cy) = (x >>> c, x.getLsbD (c - 1)) ∧
    ShiftOp.shra.steps c (x, cy) = (x.sshiftRight c, (x.sshiftRight (c - 1)).getLsbD 0) ∧
    ShiftOp.rol.steps c (x, cy) = (x.rotateLeft c, (x.rotateLeft c).getLsbD 0) ∧
    ShiftOp.ror.steps c (x, cy) = (x.rotateRight c, (x.rotateRight c).msb) ∧
    (let y := (BitVec.ofBool cy ++ x : BitVec 17).rotateLeft c
     ShiftOp.rolc.steps c (x, cy) = (y.extractLsb' 0 16, y.msb)) ∧
    (let y := (BitVec.ofBool cy ++ x : BitVec 17).rotateRight c
     ShiftOp.rorc.steps c (x, cy) = (y.extractLsb' 0 16, y.msb)))

/-! ### Interrupts, breaks, register banks -/

/-- Entry through a vector (R530, R531): PSW, PS and the return offset pushed, IE and BRK reset and no other PSW bit changed,
PC and PS loaded from the vector. -/
def Obligations.VectoredEntry : Prop :=
  ∀ v ret s, s.entryOk v = true → ∃ t, raise v ret s = .ok ((), t) ∧ Entered v ret s t

/-- RETI undoes an entry (R424, R532): it takes PC, PS and PSW back from the stack, and SP is where it was; a PSW image with
bit 15 = 0 has no meaning (R47). -/
def Obligations.ReturnUndoesEntry : Prop :=
  (∀ v ret s, s.entryOk v = true → bit15 s.psw = true → ∃ t u, raise v ret s = .ok ((), t) ∧ exec .reti t = .next u ∧
    u.psw = s.psw ∧ u.pc = ret ∧ u.sreg .ps = s.sreg .ps ∧ u.reg16 .sp = s.reg16 .sp ∧ u.queueOld = []) ∧
  (∀ s : State, s.holdsWords 3 = true → bit15 (s.extWord (s.above 4)) = true → ∃ t u : State, exec .reti s = .next t ∧
    t.psw = s.extWord (s.above 4) ∧ t.pc = s.extWord (s.above 0) ∧
        t = (u.withPsw (s.extWord (s.above 4))).loadPc t.pc ∧
    u.sreg .ps = s.extWord (s.above 2) ∧ u.reg16 .sp = s.reg16 .sp + 6 ∧ t.events = s.events ∧ Quiet s t ∧
    Frame s t (bankKeys s.bank (offReg16 .sp) ++ sregKeys s .ps) 0xFFFF [] []) ∧
  (∀ s : State, s.holdsWords 3 = true → bit15 (s.extWord (s.above 4)) = false → exec .reti s = .refused .psw15Zero)

/-- Register banks (R460 to R466, R535 to R537): the switches of BRKCS and TSKSW and of a request, RETRBI, which undoes them,
and the moves of SS and SP between banks. That BRKCS, TSKSW, MOVSPA and MOVSPB run at all is log 27. -/
def Obligations.BankSwitching : Prop :=
  (∀ n ret s, n ≠ s.bank → ∃ t, bankEntry n ret s = .ok ((), t) ∧ Switched n ret 0x7300 s t ∧ t.flag .ie = false ∧
    t.flag .brk = false ∧ t.run = .running ∧ t.resume = none) ∧
  (∀ r s, (s.reg16 r).extractLsb' 0 3 ≠ s.bank →
    (∃ t, exec (.brkcsReg16 r) s = .next t ∧ Switched ((s.reg16 r).extractLsb' 0 3) s.pc 0x7300 s t ∧
      t.flag .ie = false ∧ t.flag .brk = false ∧ t.trace = false ∧ t.run = s.run ∧ t.hold = s.hold ∧ t.pre = s.pre ∧
      t.resume = s.resume) ∧
    (∃ t, exec (.tskswReg16 r) s = .next t ∧ Switched ((s.reg16 r).extractLsb' 0 3) s.pc 0x7000 s t ∧ Quiet s t)) ∧
  (∀ r s, (s.reg16 r).extractLsb' 0 3 = s.bank → exec (.brkcsReg16 r) s = .refused .switchToCurrentBank ∧
    exec (.tskswReg16 r) s = .refused .switchToCurrentBank) ∧
  (∀ s : State, bit15 (s.bankWord s.bank offPswSave) = true → exec .retrbi s =
    .next ((s.withPsw (s.bankWord s.bank offPswSave)).loadPc (s.bankWord s.bank offPcSave))) ∧
  (∀ s : State, bit15 (s.bankWord s.bank offPswSave) = false → exec .retrbi s = .refused .psw15Zero) ∧
  (∀ n ret mask s t, bit15 s.psw = true → Switched n ret mask s t → ∃ u, exec .retrbi t = .next u ∧ u.psw = s.psw ∧
    u.pc = ret ∧ u.bank = s.bank) ∧
  (∀ s : State, ∃ t, exec .movspa s = .next t ∧
    (let o := bankOf (s.bankWord s.bank offPswSave)
     t.sreg .ss = s.bankWord o (offSReg .ss) ∧ t.reg16 .sp = s.bankWord o (offReg16 .sp)) ∧ t.pc = s.pc ∧ Quiet s t ∧
    Frame s t (sregKeys s .ss ++ wordSize.keys s .sp) 0 [] []) ∧
  (∀ r s, ∃ t, exec (.movspbReg16 r) s = .next t ∧
    (let n := (s.reg16 r).extractLsb' 0 3
     t.bankWord n (offSReg .ss) = s.sreg .ss ∧ t.bankWord n (offReg16 .sp) = s.reg16 .sp ∧
       Frame s t (bankKeys n (offSReg .ss) ++ bankKeys n (offReg16 .sp)) 0 [] []) ∧ t.pc = s.pc ∧ Quiet s t)

/-- BRK 3, BRK imm8, BRKV, CHKIND and the FPO instructions (R421 to R423, R425, R446, R447, R501). Which offset CHKIND and FPO
save is open (log 10). -/
def Obligations.BreakInstructions : Prop :=
  (∀ s, s.entryOk 3 = true → ∃ t, exec .brk3 s = .next t ∧ Entered 3 s.pc s t) ∧
  (∀ v s, s.entryOk v = true → ∃ t, exec (.brkImm8 v) s = .next t ∧ Entered v s.pc s t) ∧
  (∀ s, s.flag .v = true → s.entryOk 4 = true → ∃ t, exec .brkv s = .next t ∧ Entered 4 s.pc s t) ∧
  (∀ s, s.flag .v = false → exec .brkv s = .next s) ∧
  (∀ r m (s : State), s.pairOk (s.memSeg m) (s.ea m) = true → ∃ p s1,
    readPair (s.memSeg m) (s.ea m) s = .ok (p, s1) ∧ Quiet s s1 ∧
    Frame s s1 [] 0 (wordSize.span (phys (s.memSeg m) (s.ea m)) ++
      wordSize.span (phys (s.memSeg m) (s.ea m + 2))) [] ∧
    (p.1.toInt ≤ (s.reg16 r).toInt → (s.reg16 r).toInt ≤ p.2.toInt → exec (.chkind r m) s = .next s1) ∧
    ((s.reg16 r).toInt < p.1.toInt ∨ p.2.toInt < (s.reg16 r).toInt → s.entryOk 5 = true →
      ∃ t, exec (.chkind r m) s = .next t ∧
        Entered 5 (if Config.chkindSavesNext then s.pc else s.start) s1 t)) ∧
  (∀ r m (s : State), 0xFFFE ≤ (s.ea m).toNat → exec (.chkind r m) s = .refused .operandPastSegmentEnd) ∧
  (∀ op reg e s, s.entryOk 7 = true → ∃ t, exec (.fpo1 op reg e) s = .next t ∧
    Entered 7 (if Config.fpoSavesNext then s.pc else s.start) s t) ∧
  (∀ op reg e s, s.entryOk 7 = true → ∃ t, exec (.fpo2 op reg e) s = .next t ∧
    Entered 7 (if Config.fpoSavesNext then s.pc else s.start) s t)

/-! ### Block instructions, input and output, bit fields, decimal strings -/

/-- The block instructions without a repeat prefix (R235, R240 to R244, R250, R255, R256). -/
def Obligations.BlockElements : Prop :=
  (∀ s : State, s.pre.rep = none → s.byteOk (phys (s.segValue .ds0) (s.reg16 .ix)) = true →
    byteSize.LoadEnds .ldmb s ∧
    (s.byteOk (phys (s.sreg .ds1) (s.reg16 .iy)) = true → byteSize.MoveEnds .movbkb s ∧
        byteSize.CompareEnds .cmpbkb s) ∧
    (s.flag .ibrk = true → s.portsOk 1 (s.reg16 .dw) = true → byteSize.OutputEnds .outmb s)) ∧
  (∀ s : State, s.pre.rep = none → s.byteOk (phys (s.sreg .ds1) (s.reg16 .iy)) = true →
    byteSize.ScanEnds .cmpmb s ∧ byteSize.StoreEnds .stmb s ∧
    (s.flag .ibrk = true → s.portsOk 1 (s.reg16 .dw) = true → byteSize.InputEnds .inmb s)) ∧
  (∀ s : State, s.pre.rep = none → s.wordOk (phys (s.segValue .ds0) (s.reg16 .ix)) = true →
    wordSize.LoadEnds .ldmw s ∧
    (s.wordOk (phys (s.sreg .ds1) (s.reg16 .iy)) = true → wordSize.MoveEnds .movbkw s ∧
        wordSize.CompareEnds .cmpbkw s) ∧
    (s.flag .ibrk = true → s.portsOk 2 (s.reg16 .dw) = true → wordSize.OutputEnds .outmw s)) ∧
  (∀ s : State, s.pre.rep = none → s.wordOk (phys (s.sreg .ds1) (s.reg16 .iy)) = true →
    wordSize.ScanEnds .cmpmw s ∧ wordSize.StoreEnds .stmw s ∧
    (s.flag .ibrk = true → s.portsOk 2 (s.reg16 .dw) = true → wordSize.InputEnds .inmw s))

/-- What the block instructions leave unchanged, with or without a repeat prefix, where they do not trap. -/
def Obligations.BlockFrame : Prop :=
  ∀ (b : BlockOp) (s t : State), (b.isIo = true → s.flag .ibrk = true) → exec b.toInstr s = .next t →
    t.pc = s.pc ∧ t.run = s.run ∧ t.hold = s.hold ∧ t.trace = s.trace ∧ t.pre = s.pre ∧
    (s.pre.rep = none → t.resume = s.resume) ∧
    (let ix := bankKeys s.bank (offReg16 .ix)
     let iy := bankKeys s.bank (offReg16 .iy)
     let sb := byteSize.sourceBytes s
     let db := byteSize.destBytes s
     let sw := wordSize.sourceBytes s
     let dw := wordSize.destBytes s
     match b with
     | .movbkb => Frame s t (ix ++ iy ++ countKeys s) 0 sb db
     | .movbkw => Frame s t (ix ++ iy ++ countKeys s) 0 sw dw
     | .cmpbkb => Frame s t (ix ++ iy ++ countKeys s) maskStatus (sb ++ db) []
     | .cmpbkw => Frame s t (ix ++ iy ++ countKeys s) maskStatus (sw ++ dw) []
     | .cmpmb => Frame s t (iy ++ countKeys s) maskStatus db []
     | .cmpmw => Frame s t (iy ++ countKeys s) maskStatus dw []
     | .ldmb => Frame s t (byteSize.keys s .al ++ ix ++ countKeys s) 0 sb []
     | .ldmw => Frame s t (wordSize.keys s .aw ++ ix ++ countKeys s) 0 sw []
     | .stmb => Frame s t (iy ++ countKeys s) 0 [] db
     | .stmw => Frame s t (iy ++ countKeys s) 0 [] dw
     | .inmb => Frame s t (iy ++ countKeys s) 0 [] db
     | .inmw => Frame s t (iy ++ countKeys s) 0 [] dw
     | .outmb => Frame s t (ix ++ countKeys s) 0 sb []
     | .outmw => Frame s t (ix ++ countKeys s) 0 sw [])

/-- A repeat prefix (R230 to R234): with CW = 0 nothing is done; else one iteration is what the instruction does without the
prefix, CW is counted down, and the instruction goes on with the next step unless CW is 0 or, after a comparison,
    the exit
test of the prefix holds. REPC and REPNC before an instruction that compares nothing have no meaning. -/
def Obligations.RepeatedBlock : Prop :=
  ∀ (b : BlockOp) (p : Rep) (s : State), s.pre.rep = some p →
    (p.comparesOnly = true ∧ b.compares = false → exec b.toInstr s = .refused .repcOnNonCompare) ∧
    (p.comparesOnly = false ∨ b.compares = true → (b.isIo = true → s.flag .ibrk = true) →
      (s.reg16 .cw = 0 → exec b.toInstr s = .next (s.withResume none)) ∧
      (∀ u, s.reg16 .cw ≠ 0 → exec b.toInstr (s.withPre { s.pre with rep := none }) = .next u →
        ∃ t, t = (u.withPre s.pre).setReg16 .cw (u.reg16 .cw - 1) ∧
          exec b.toInstr s = .next (t.withResume
            (if t.reg16 .cw = 0 ∨ (b.compares && (match p with
              | .rep => !t.flag .z
              | .repne => t.flag .z
              | .repc => !t.flag .cy
              | .repnc => t.flag .cy)) = true then none else some (.block b)))))

/-- A repeated store fills: from a state about to resume REP STMB with CW = `n`, not interrupted, upward through plain RAM,
`n` steps store AL in each of the `n` bytes from DS1:IY on and nowhere else (R230, R234, R235, R244). -/
def Obligations.RepeatedStoreFills : Prop :=
  ∀ (n : Nat) (s : State), 1 ≤ n → (s.reg16 .cw).toNat = n → s.resume = some (.block .stmb) →
    (s.pre.rep = some .rep ∨ s.pre.rep = some .repne) → s.resetPin = false → s.run = .running → s.nmi = false →
    s.irq = none → s.trace = false → s.flag .brk = false → s.flag .dir = false →
    (∀ k, k < n → s.ramAt (phys (s.sreg .ds1) (s.reg16 .iy + BitVec.ofNat 16 k)) = true) →
    ∃ t, Runs n s t ∧ t.resume = none ∧ t.pre = Prefixes.none ∧ t.reg16 .cw = 0 ∧
      t.reg16 .iy = s.reg16 .iy + BitVec.ofNat 16 n ∧ t.pc = s.pc ∧ t.psw = s.psw ∧
      (∀ k, k < n → t.ext.read (phys (s.sreg .ds1) (s.reg16 .iy + BitVec.ofNat 16 k)).toNat = s.reg8 .al) ∧
      (∀ a : PhysAddr, (∀ k, k < n → a ≠ phys (s.sreg .ds1) (s.reg16 .iy + BitVec.ofNat 16 k)) →
        t.ext.read a.toNat = s.ext.read a.toNat)

/-- IN and OUT move the accumulator from or to the port, a word at two ports, if IBRK = 1 (R130, R251 to R254); that the low
port of a word comes first, which the events show, is the model's choice (log 20); with IBRK = 0 every I/O instruction enters vector 19 instead, with nothing read or written (R64, R250, R257, R509). -/
def Obligations.InputOutput : Prop :=
  (∀ s : State, s.flag .ibrk = true →
    (∀ (i : Instr) (port : Word), (∃ imm : Byte, i = .inAlImm8 imm ∧ port = imm.setWidth 16) ∨
        (i = .inAlDw ∧ port = s.reg16 .dw) → s.portsOk 1 port = true →
      ∃ v n, s.draws ≤ n ∧ exec i s = .next (((s.withDraws n).record (.ioRead port v)).setReg8 .al v)) ∧
    (∀ (i : Instr) (port : Word), (∃ imm : Byte, i = .inAwImm8 imm ∧ port = imm.setWidth 16) ∨
        (i = .inAwDw ∧ port = s.reg16 .dw) → s.portsOk 2 port = true →
      ∃ lo hi n, s.draws ≤ n ∧ exec i s = .next ((((s.withDraws n).record (.ioRead port lo)).record
        (.ioRead (port + 1) hi)).setReg16 .aw (hi ++ lo))) ∧
    (∀ (i : Instr) (port : Word), (∃ imm : Byte, i = .outImm8Al imm ∧ port = imm.setWidth 16) ∨
        (i = .outDwAl ∧ port = s.reg16 .dw) → s.portsOk 1 port = true →
      exec i s = .next (s.record (.ioWrite port (s.reg8 .al)))) ∧
    (∀ (i : Instr) (port : Word), (∃ imm : Byte, i = .outImm8Aw imm ∧ port = imm.setWidth 16) ∨
        (i = .outDwAw ∧ port = s.reg16 .dw) → s.portsOk 2 port = true →
      exec i s = .next ((s.record (.ioWrite port (s.reg8 .al))).record (.ioWrite (port + 1) (s.reg8 .ah))))) ∧
  (∀ (i : Instr) (s : State), s.flag .ibrk = false → s.entryOk 19 = true →
    ((∃ imm : Byte, i = .inAlImm8 imm ∨ i = .inAwImm8 imm ∨ i = .outImm8Al imm ∨ i = .outImm8Aw imm) ∨
      i = .inAlDw ∨ i = .inAwDw ∨ i = .outDwAl ∨ i = .outDwAw ∨
      (∃ b : BlockOp, b.isIo = true ∧ i = b.toInstr ∧ (s.pre.rep = none ∨ s.pre.rep = some .rep ∨
          s.pre.rep = some .repne) ∧
        (s.pre.rep ≠ none → s.reg16 .cw ≠ 0))) →
    ∃ t, exec i s = .next t ∧ t.events = s.events ∧
      Entered 19 (if Config.ioTrapSavesNext then s.pc else s.start) s t)

/-- INS and EXT (R260, R261): the field of `len` bits from bit `off`, which may reach into the next word. The status flags
afterwards are open, and after INS the upper digit of the offset register is (log 23); nothing else changes. That INS reads DS1
and IY once, so that a first word stored over them does not redirect the second, is the model's choice (log 59). -/
def Obligations.BitFields : Prop :=
  (∀ (i : Instr) (r : Reg8) (c : Byte) (s : State),
    i = .extReg8Imm4 r c ∨ (∃ q, i = .extReg8Reg8 r q ∧ c = s.reg8 q) →
    (let off := (s.reg8 r).toNat % 16
     let len := c.toNat % 16 + 1
     s.wordOk (phys (s.segValue .ds0) (s.reg16 .ix)) = true →
     (16 < off + len → s.wordOk (phys (s.segValue .ds0) (s.reg16 .ix + 2)) = true) →
     ∃ x u v n flags, fieldReads (s.segValue .ds0) (s.reg16 .ix) (off + len) s x u ∧ u.draws ≤ n ∧
       (∀ j, j < 16 → v.getLsbD j = (decide (j < len) && x.getLsbD (off + j))) ∧
       exec i s = .next ((u.setReg16 .aw v).fieldDone .ix r (off + len) 0 n flags)) ∧
    (∀ t, exec i s = .next t → t.pc = s.pc ∧ Quiet s t ∧
      Frame s t (wordSize.keys s .aw ++ byteSize.keys s r ++ wordSize.keys s .ix) maskStatus
        (wordSize.span (phys (s.segValue .ds0) (s.reg16 .ix)) ++
          (if 16 < (s.reg8 r).toNat % 16 + (c.toNat % 16 + 1)
           then wordSize.span (phys (s.segValue .ds0) (s.reg16 .ix + 2)) else [])) [])) ∧
  (∀ (i : Instr) (r : Reg8) (c : Byte) (s : State),
    i = .insReg8Imm4 r c ∨ (∃ q, i = .insReg8Reg8 r q ∧ c = s.reg8 q) →
    (let off := (s.reg8 r).toNat % 16
     let len := c.toNat % 16 + 1
     s.storageWordAt (phys (s.sreg .ds1) (s.reg16 .iy)) = true →
     (16 < off + len → s.storageWordAt (phys (s.sreg .ds1) (s.reg16 .iy + 2)) = true) →
     ∃ x u y t high n flags, fieldReads (s.sreg .ds1) (s.reg16 .iy) (off + len) s x u ∧
       (∀ j, j < 32 → y.getLsbD j =
         if off ≤ j ∧ j < off + len then (s.reg16 .aw).getLsbD (j - off) else x.getLsbD j) ∧
       fieldWrites (s.sreg .ds1) (s.reg16 .iy) (off + len) y u t ∧ t.draws ≤ n ∧
       exec i s = .next (t.fieldDone .iy r (off + len) high n flags)) ∧
    (∀ t, exec i s = .next t → t.pc = s.pc ∧ Quiet s t ∧
      (let bytes := wordSize.span (phys (s.sreg .ds1) (s.reg16 .iy)) ++
         (if 16 < (s.reg8 r).toNat % 16 + (c.toNat % 16 + 1)
          then wordSize.span (phys (s.sreg .ds1) (s.reg16 .iy + 2)) else [])
       Frame s t (byteSize.keys s r ++ wordSize.keys s .iy) maskStatus bytes bytes)))

/-- ADD4S, SUB4S, CMP4S (R310 to R313) on strings of decimal digits, two a byte, in plain memory: the destination becomes the
sum or the difference modulo 100 to the number of bytes, CY the decimal carry or borrow,
    Z whether the result is zero. The
destination may be the source, but no source byte may be stored before it is read. -/
def Obligations.DecimalStrings : Prop :=
  ∀ (s : State) (n : Nat), (s.reg8 .cl).toNat = 2 * n → 1 ≤ n →
    (let src := s.segValue .ds0
     let dst := s.sreg .ds1
     let ix := s.reg16 .ix
     let iy := s.reg16 .iy
     let a := decimalOf (s.extBytes dst iy n)
     let b := decimalOf (s.extBytes src ix n)
     (∀ k, k < n → s.memAt (phys src (ix + BitVec.ofNat 16 k)) = true ∧
         s.memAt (phys dst (iy + BitVec.ofNat 16 k)) = true) →
     (∀ x ∈ s.extBytes src ix n ++ s.extBytes dst iy n, x.toNat % 16 ≤ 9 ∧ x.toNat / 16 ≤ 9) →
     (∃ t, exec .cmp4s s = .next t ∧ t.flag .cy = decide (a < b) ∧ t.flag .z = decide (a = b) ∧ t.pc = s.pc ∧
         Quiet s t ∧
       Frame s t [] maskStatus [] []) ∧
     ((∀ k, k < n → s.ramAt (phys dst (iy + BitVec.ofNat 16 k)) = true) →
      (∀ j k, j < k → k < n → phys dst (iy + BitVec.ofNat 16 j) ≠ phys src (ix + BitVec.ofNat 16 k)) →
      (∃ t, exec .add4s s = .next t ∧ decimalOf (t.extBytes dst iy n) = (a + b) % 100 ^ n ∧
        t.flag .cy = decide (100 ^ n ≤ a + b) ∧ t.flag .z = decide ((a + b) % 100 ^ n = 0) ∧
        (∀ x ∈ t.extBytes dst iy n, x.toNat % 16 ≤ 9 ∧ x.toNat / 16 ≤ 9)) ∧
      (∃ t, exec .sub4s s = .next t ∧ decimalOf (t.extBytes dst iy n) = (a + 100 ^ n - b) % 100 ^ n ∧
        t.flag .cy = decide (a < b) ∧ t.flag .z = decide (a = b) ∧
        (∀ x ∈ t.extBytes dst iy n, x.toNat % 16 ≤ 9 ∧ x.toNat / 16 ≤ 9))))

/-- ADD4S, SUB4S and CMP4S run on any data and for any CL; what they give for digits above 9, and how many bytes they take
when CL is 0 or odd, is open (log 22). What they leave unchanged. -/
def Obligations.DecimalStringFrame : Prop :=
  ∀ s : State,
    (let cl := s.reg8 .cl
     let n := if cl = 0 ∨ cl.getLsbD 0 = true then (Config.bcdOpenLength cl).val else cl.toNat / 2
     let srcBytes := (List.range n).map fun k => phys (s.segValue .ds0) (s.reg16 .ix + BitVec.ofNat 16 k)
     let dstBytes := (List.range n).map fun k => phys (s.sreg .ds1) (s.reg16 .iy + BitVec.ofNat 16 k)
     ((∀ a ∈ srcBytes ++ dstBytes, s.memAt a = true) →
       ∃ t, exec .cmp4s s = .next t ∧ t.pc = s.pc ∧ t.events = s.events ∧ Quiet s t ∧ Frame s t [] maskStatus [] []) ∧
     ((∀ a ∈ srcBytes, s.memAt a = true) → (∀ a ∈ dstBytes, s.ramAt a = true) →
       (∃ t, exec .add4s s = .next t ∧ t.pc = s.pc ∧ t.events = s.events ∧ Quiet s t ∧ Frame s t [] maskStatus [] dstBytes) ∧
       (∃ t, exec .sub4s s = .next t ∧ t.pc = s.pc ∧ t.events = s.events ∧ Quiet s t ∧ Frame s t [] maskStatus [] dstBytes)))

/-! ### Control transfer -/

/-- Branches and loops (R360 to R365, R374 to R396): what is loaded into PC and when; CW counted down; no flag written.
BTCLR (R380) tests a bit of a special function register and clears it if it is set. -/
def Obligations.Branches : Prop :=
  (∀ p ∈ branches, ∀ disp s,
    exec (p.2 disp) s = .next (if p.1 s then s.loadPc (s.pc + disp.signExtend 16) else s)) ∧
  (∀ p ∈ loops, ∀ disp s, exec (p.2 disp) s = .next
    (if s.reg16 .cw - 1 ≠ 0 ∧ p.1 s = true then (s.setReg16 .cw (s.reg16 .cw - 1)).loadPc (s.pc + disp.signExtend 16)
     else s.setReg16 .cw (s.reg16 .cw - 1))) ∧
  (∀ disp s, exec (.bcwz disp) s = .next (if s.reg16 .cw = 0 then s.loadPc (s.pc + disp.signExtend 16) else s)) ∧
  (∀ disp s, exec (.brShort disp) s = .next (s.loadPc (s.pc + disp.signExtend 16))) ∧
  (∀ disp s, exec (.brNear disp) s = .next (s.loadPc (s.pc + disp))) ∧
  (∀ off seg s, exec (.brFar off seg) s = .next ((s.setSreg .ps seg).loadPc off)) ∧
  (∀ e s, wordSize.placeOk s (s.place e) = true → ∃ v u, readPlace wordOp (s.place e) s = .ok (v, u) ∧
    exec (.brEw e) s = .next (u.loadPc v)) ∧
  (∀ m s, s.pairOk (s.memSeg m) (s.ea m) = true → ∃ p u, readPair (s.memSeg m) (s.ea m) s = .ok (p, u) ∧
    exec (.brMem32 m) s = .next ((u.setSreg .ps p.2).loadPc p.1)) ∧
  (∀ m s, 0xFFFE ≤ (s.ea m).toNat → exec (.brMem32 m) s = .refused .operandPastSegmentEnd) ∧
  (∀ sfr imm disp s, s.byteOk (s.sfrAddr sfr) = true → ∃ v u, readByte (s.sfrAddr sfr) s = .ok (v, u) ∧
    ∃ w t, (∀ j, j < 8 → w.getLsbD j = (v.getLsbD j && decide (j ≠ imm.toNat % 8))) ∧
      writeByte (s.sfrAddr sfr) w u = .ok ((), t) ∧
      exec (.btclr sfr imm disp) s = .next
        (if v.getLsbD (imm.toNat % 8) then t.loadPc (s.pc + disp.signExtend 16) else u)) ∧
  (∀ (s : State) x, (s.loadPc x).pc = x ∧ (s.loadPc x).queueOld = [] ∧
    s.loadPc x = { s with pc := x, pcHigh := 0, queueOld := [] })

/-- Calls and returns (R366 to R373). -/
def Obligations.CallsAndReturns : Prop :=
  (∀ disp s, s.wordOk (s.below 2) = true → ∃ t, Pushes s.pc s t ∧
      exec (.callNear disp) s = .next (t.loadPc (s.pc + disp))) ∧
  (∀ e s, wordSize.placeOk s (s.place e) = true → s.wordOk (s.below 2) = true → ∃ v u t,
    readPlace wordOp (s.place e) s = .ok (v, u) ∧ Pushes s.pc u t ∧ exec (.callEw e) s = .next (t.loadPc v)) ∧
  (∀ off seg s, s.roomFor 2 = true → ∃ t, exec (.callFar off seg) s = .next t ∧ FarCalled seg off s t) ∧
  (∀ m s, s.pairOk (s.memSeg m) (s.ea m) = true → s.roomFor 2 = true → ∃ p u t,
    readPair (s.memSeg m) (s.ea m) s = .ok (p, u) ∧ exec (.callMem32 m) s = .next t ∧ FarCalled p.2 p.1 u t) ∧
  (∀ m s, 0xFFFE ≤ (s.ea m).toNat → exec (.callMem32 m) s = .refused .operandPastSegmentEnd) ∧
  (∀ s : State, s.wordOk (s.above 0) = true → ∃ v u, Pops s v u ∧ exec .retNear s = .next (u.loadPc v)) ∧
  (∀ imm (s : State), s.wordOk (s.above 0) = true → ∃ v u, Pops s v u ∧
    exec (.retNearPop imm) s = .next ((u.setReg16 .sp (u.reg16 .sp + imm)).loadPc v)) ∧
  (∀ s : State, s.holdsWords 2 = true → ∃ t, exec .retFar s = .next t ∧ t.pc = s.extWord (s.above 0) ∧
    t.sreg .ps = s.extWord (s.above 2) ∧ t.reg16 .sp = s.reg16 .sp + 4 ∧ t.queueOld = []) ∧
  (∀ imm (s : State), s.holdsWords 2 = true → ∃ t, exec (.retFarPop imm) s = .next t ∧ t.pc = s.extWord (s.above 0) ∧
    t.sreg .ps = s.extWord (s.above 2) ∧ t.reg16 .sp = s.reg16 .sp + 4 + imm ∧ t.queueOld = [])

/-! ### The stack -/

/-- PUSH and POP, DISPOSE (R400 to R411, R415): SP lowered by two and the word stored there; the word on top read and SP
raised by two. What PUSH SP stores is open (log 12). A PSW image with bit 15 = 0 has no meaning (R47, R409). -/
def Obligations.PushAndPop : Prop :=
  (∀ s : State, s.wordOk (s.below 2) = true →
    (∀ r, r ≠ .sp → ∃ t, Pushes (s.reg16 r) s t ∧ exec (.pushReg16 r) s = .next t ∧
        exec (.pushEw (.reg r)) s = .next t) ∧
    (∃ t, Pushes (if Config.pushSpStoresNew then s.reg16 .sp - 2 else s.reg16 .sp) s t ∧
      exec (.pushReg16 .sp) s = .next t ∧ exec (.pushEw (.reg .sp)) s = .next t) ∧
    (∀ p ∈ sregPushes, ∃ t, Pushes (s.sreg p.1) s t ∧ exec p.2 s = .next t) ∧
    (∀ imm, ∃ t, Pushes imm s t ∧ exec (.pushImm16 imm) s = .next t) ∧
    (∀ imm, ∃ t, Pushes (imm.signExtend 16) s t ∧ exec (.pushImm8 imm) s = .next t) ∧
    (∃ t, Pushes s.psw s t ∧ exec .pushPsw s = .next t) ∧
    (∀ m, s.wordOk (phys (s.memSeg m) (s.ea m)) = true → ∃ v u t,
        readWord (phys (s.memSeg m) (s.ea m)) s = .ok (v, u) ∧
      Pushes v u t ∧ exec (.pushEw (.mem m)) s = .next t)) ∧
  (∀ s : State, s.wordOk (s.above 0) = true →
    (∀ r, ∃ v u, Pops s v u ∧ exec (.popReg16 r) s = .next (u.setReg16 r v)) ∧
    (∀ p ∈ sregPops, ∃ v u, Pops s v u ∧ exec p.2 s = .next (((u.setSreg p.1 v).withHold true).withTrace false)) ∧
    (∀ e, wordSize.placeOk s (s.place e) = true → ∃ v u t, Pops s v u ∧
        writePlace wordOp (s.place e) v u = .ok ((), t) ∧
      exec (.popEw e) s = .next t)) ∧
  (∀ s : State, s.memWordAt (s.above 0) = true →
    (bit15 (s.extWord (s.above 0)) = true → exec .popPsw s = .next ((s.setReg16 .sp (s.reg16 .sp + 2)).withPsw
      (s.psw.extractLsb' 12 4 ++ (s.extWord (s.above 0)).extractLsb' 0 12))) ∧
    (bit15 (s.extWord (s.above 0)) = false → exec .popPsw s = .refused .psw15Zero)) ∧
  (∀ s : State, s.wordOk (phys (s.sreg .ss) (s.reg16 .bp)) = true → ∃ v u,
    Pops (s.setReg16 .sp (s.reg16 .bp)) v u ∧ exec .dispose s = .next (u.setReg16 .bp v))

/-- PUSH R and POP R (R412, R413), PREPARE (R414). The level of PREPARE above 31 is open (log 13). -/
def Obligations.RegisterFrames : Prop :=
  (∀ s : State, s.roomFor 8 = true → ∃ t, exec .pushR s = .next t ∧
    t.extWord (s.below 2) = s.reg16 .aw ∧ t.extWord (s.below 4) = s.reg16 .cw ∧ t.extWord (s.below 6) = s.reg16 .dw ∧
    t.extWord (s.below 8) = s.reg16 .bw ∧ t.extWord (s.below 10) = s.reg16 .sp ∧
        t.extWord (s.below 12) = s.reg16 .bp ∧
    t.extWord (s.below 14) = s.reg16 .ix ∧ t.extWord (s.below 16) = s.reg16 .iy ∧ t.reg16 .sp = s.reg16 .sp - 16 ∧
    t.pc = s.pc ∧ t.events = s.events ∧ Quiet s t ∧ Frame s t (wordSize.keys s .sp) 0 [] (s.pushBytes 8)) ∧
  (∀ s : State, s.holdsWords 8 = true → ∃ t, exec .popR s = .next t ∧
    t.reg16 .iy = s.extWord (s.above 0) ∧ t.reg16 .ix = s.extWord (s.above 2) ∧ t.reg16 .bp = s.extWord (s.above 4) ∧
    t.reg16 .bw = s.extWord (s.above 8) ∧ t.reg16 .dw = s.extWord (s.above 10) ∧
        t.reg16 .cw = s.extWord (s.above 12) ∧
    t.reg16 .aw = s.extWord (s.above 14) ∧ t.reg16 .sp = s.reg16 .sp + 16 ∧ t.pc = s.pc ∧ t.events = s.events ∧ Quiet s t ∧
    Frame s t ([Reg16.aw, .cw, .dw, .bw, .sp, .bp, .ix, .iy].flatMap (wordSize.keys s)) 0 [] []) ∧
  (∀ (size : Word) (level : Byte) (s : State),
    (let n := if level.toNat < 32 then level.toNat
              else if Config.prepareLevelMasked then level.toNat % 32 else level.toNat
     let words := if n = 0 then 1 else n + 1
     s.roomFor words = true →
     (∀ k, 1 ≤ k → k < n → s.memWordAt (phys (s.sreg .ss) (s.reg16 .bp - BitVec.ofNat 16 (2 * k))) = true) →
     ∃ t, exec (.prepare size level) s = .next t ∧ t.extWord (s.below 2) = s.reg16 .bp ∧
       (n ≠ 0 → t.extWord (s.below (2 * words)) = s.reg16 .sp - 2) ∧
       (∀ k, 1 ≤ k → k < n →
         (let a := phys (s.sreg .ss) (s.reg16 .bp - BitVec.ofNat 16 (2 * k))
          a ∉ s.pushBytes words → a + 1 ∉ s.pushBytes words → t.extWord (s.below (2 * (k + 1))) = s.extWord a)) ∧
       t.reg16 .bp = s.reg16 .sp - 2 ∧ t.reg16 .sp = s.reg16 .sp - BitVec.ofNat 16 (2 * words) - size ∧ t.pc = s.pc ∧ t.events = s.events ∧
       Quiet s t ∧ Frame s t (wordSize.keys s .sp ++ wordSize.keys s .bp) 0 [] (s.pushBytes words)))

/-- What branches, calls, returns, pushes and pops leave unchanged: registers but those named, all flags, memory but the
words pushed. -/
def Obligations.ControlAndStackFrame : Prop :=
  (∀ e s t, exec (.brEw e) s = .next t → Quiet s t ∧ Frame s t [] 0 (wordSize.placeBytes (s.place e)) []) ∧
  (∀ m s t, exec (.brMem32 m) s = .next t → Quiet s t ∧ Frame s t (sregKeys s .ps) 0
    (wordSize.span (phys (s.memSeg m) (s.ea m)) ++ wordSize.span (phys (s.memSeg m) (s.ea m + 2))) []) ∧
  (∀ sfr imm disp s t, exec (.btclr sfr imm disp) s = .next t → Quiet s t ∧
    Frame s t [] 0 [s.sfrAddr sfr] [s.sfrAddr sfr]) ∧
  (∀ s t, (∃ disp, exec (.callNear disp) s = .next t) ∨ (∃ r, exec (.pushReg16 r) s = .next t) ∨
      (∃ p ∈ sregPushes, exec p.2 s = .next t) ∨ (∃ imm, exec (.pushImm16 imm) s = .next t) ∨
      (∃ imm, exec (.pushImm8 imm) s = .next t) ∨ exec .pushPsw s = .next t →
    Quiet s t ∧ Frame s t (wordSize.keys s .sp) 0 [] (s.pushBytes 1)) ∧
  (∀ e s t, exec (.callEw e) s = .next t ∨ exec (.pushEw e) s = .next t → Quiet s t ∧
    Frame s t (wordSize.keys s .sp) 0 (wordSize.placeBytes (s.place e)) (s.pushBytes 1)) ∧
  (∀ off seg s t, s.roomFor 2 = true → exec (.callFar off seg) s = .next t → Quiet s t ∧
    Frame s t (wordSize.keys s .sp ++ sregKeys s .ps) 0 [] (s.pushBytes 2)) ∧
  (∀ m s t, s.roomFor 2 = true → exec (.callMem32 m) s = .next t → Quiet s t ∧
      Frame s t (wordSize.keys s .sp ++ sregKeys s .ps) 0
    (wordSize.span (phys (s.memSeg m) (s.ea m)) ++ wordSize.span (phys (s.memSeg m) (s.ea m + 2))) (s.pushBytes 2)) ∧
  (∀ s t, exec .retNear s = .next t ∨ (∃ imm, exec (.retNearPop imm) s = .next t) → Quiet s t ∧
    Frame s t (wordSize.keys s .sp) 0 (wordSize.span (s.above 0)) []) ∧
  (∀ s t, exec .retFar s = .next t ∨ (∃ imm, exec (.retFarPop imm) s = .next t) → Quiet s t ∧
    Frame s t (wordSize.keys s .sp ++ sregKeys s .ps) 0 (wordSize.span (s.above 0) ++ wordSize.span (s.above 2)) []) ∧
  (∀ r s t, exec (.popReg16 r) s = .next t → t.pc = s.pc ∧ Quiet s t ∧
    Frame s t (wordSize.keys s .sp ++ wordSize.keys s r) 0 (wordSize.span (s.above 0)) []) ∧
  (∀ p ∈ sregPops, ∀ s t, exec p.2 s = .next t → t.pc = s.pc ∧ t.run = s.run ∧ t.pre = s.pre ∧ t.resume = s.resume ∧
    Frame s t (wordSize.keys s .sp ++ sregKeys s p.1) 0 (wordSize.span (s.above 0)) []) ∧
  (∀ e s t, exec (.popEw e) s = .next t → t.pc = s.pc ∧ Quiet s t ∧
    Frame s t (wordSize.keys s .sp ++ wordSize.placeKeys s (s.place e)) 0 (wordSize.span (s.above 0))
      (wordSize.placeBytes (s.place e))) ∧
  (∀ s t, exec .popPsw s = .next t → t.pc = s.pc ∧ Quiet s t ∧
    Frame s t (wordSize.keys s .sp) 0x0FFF (wordSize.span (s.above 0)) []) ∧
  (∀ s t, exec .dispose s = .next t → t.pc = s.pc ∧ Quiet s t ∧
    Frame s t (wordSize.keys s .sp ++ wordSize.keys s .bp) 0 (wordSize.span (phys (s.sreg .ss) (s.reg16 .bp))) [])

/-! ### CPU control and prefixes -/

/-- NOP, HALT, STOP, POLL, FINT, EI and the flag instructions (R430, R431, R448 to R456, R465): what they write and that they
write nothing else. The level of the POLL pin is open (log 24). -/
def Obligations.CpuControl : Prop :=
  (∀ s, exec .nop s = .next s) ∧
  (∀ s, exec .halt s = .next (s.withRun .halted)) ∧
  (∀ s, exec .stop s = .next (s.withRun .stopped)) ∧
  (∀ s, ∃ n, s.draws ≤ n ∧ (exec .poll s = .next ((s.withDraws n).withResume none) ∨
    exec .poll s = .next (((s.withDraws n).withResume (some .poll)).withTrace false))) ∧
  (∀ s, exec .fint s = .next (s.record .finishInterrupt)) ∧
  (∀ p ∈ flagSetters, ∀ s, exec p.2.2 s = .next (s.setFlag p.1 p.2.1)) ∧
  (∀ s, exec .not1Cy s = .next (s.setFlag .cy (!s.flag .cy))) ∧
  (∀ s, exec .ei s = .next (((s.setFlag .ie true).withHold true).withTrace false)) ∧
  (∀ (s : State) f b, (s.setFlag f b).flag f = b ∧ s.setFlag f b = s.withPsw (s.setFlag f b).psw ∧
    ∀ i, i < 16 → i ≠ f.bit → (s.setFlag f b).psw.getLsbD i = s.psw.getLsbD i)

/-- The prefixes (R163, R164, R230 to R233, R445, R457): each leaves its mark for the instruction that follows, a second one
of its class has no meaning, and an override names the segment that stands for the default one. -/
def Obligations.PrefixMarks : Prop :=
  (∀ p ∈ segmentPrefixes, ∀ s : State,
    (s.pre.seg = none → exec p.2 s = .next (s.withPre { s.pre with seg := some p.1 })) ∧
    (s.pre.seg ≠ none → exec p.2 s = .refused .repeatedPrefix)) ∧
  (∀ p ∈ repeatPrefixes, ∀ s : State,
    (s.pre.rep = none → exec p.2 s = .next (s.withPre { s.pre with rep := some p.1 })) ∧
    (s.pre.rep ≠ none → exec p.2 s = .refused .repeatedPrefix)) ∧
  (∀ s : State,
    (s.pre.lock = false → exec .prefixBuslock s = .next (s.withPre { s.pre with lock := true })) ∧
    (s.pre.lock = true → exec .prefixBuslock s = .refused .repeatedPrefix)) ∧
  (∀ (s : State) sr d, (s.pre.seg = some sr → s.segValue d = s.sreg sr) ∧ (s.pre.seg = none →
      s.segValue d = s.sreg d))
end

