-- ==== Sys2Proof/Laws/Memory.lean ====
section
/-! SUPPORT. The laws of `Memory`: a read after a write, and the canonical form kept by every operation. -/

namespace Sys2Proof.Machine

@[simp] theorem Memory.read_nil (a : Nat) : Memory.read [] a = Memory.unlisted := rfl

theorem Memory.read_erase (m : Memory) (a b : Nat) :
    (m.erase a).read b = if a = b then Memory.unlisted else m.read b := by
  induction m with
  | nil => simp [Memory.erase]
  | cons c rest ih =>
    obtain ⟨k, v⟩ := c
    by_cases hka : k = a
    · subst hka
      by_cases hb : k = b
      · subst hb; simpa [Memory.erase] using ih
      · simpa [Memory.erase, Memory.read, hb] using ih
    · by_cases hkb : k = b
      · subst hkb
        simp [Memory.erase, Memory.read, hka, Ne.symm hka]
      · simpa [Memory.erase, Memory.read, hka, hkb] using ih

theorem Memory.read_insert (m : Memory) (a b : Nat) (v : Byte) (h : m.read a = Memory.unlisted ∨ a ≠ b)
    (hm : ∀ w, (a, w) ∉ m) : (Memory.insert m a v).read b = if a = b then v else m.read b := by
  induction m with
  | nil => simp [Memory.insert, Memory.read]
  | cons c rest ih =>
    obtain ⟨k, w⟩ := c
    have hk : k ≠ a := fun e => hm w (by simp [e])
    by_cases hlt : a < k
    · simp [Memory.insert, hlt, Memory.read]
    · simp only [Memory.insert, hlt, if_false]
      by_cases hkb : k = b
      · subst hkb; simp [Memory.read, Ne.symm hk]
      · have := ih (by
          rcases h with h | h
          · left; simpa [Memory.read, hk] using h
          · exact .inr h) (fun w' hw' => hm w' (by simp [hw']))
        simpa [Memory.read, hkb] using this

theorem Memory.not_mem_erase (m : Memory) (a : Nat) (w : Byte) : (a, w) ∉ m.erase a := by
  induction m with
  | nil => simp [Memory.erase]
  | cons c rest ih =>
    obtain ⟨k, v⟩ := c
    by_cases hk : k = a
    · simpa [Memory.erase, hk] using ih
    · simp only [Memory.erase, hk, if_false, List.mem_cons, Prod.mk.injEq, not_or, not_and]
      exact ⟨fun e => absurd e.symm hk, ih⟩

/-- A byte written is what the same address reads; every other address reads as before. -/
theorem Memory.read_write (m : Memory) (a b : Nat) (v : Byte) :
    (m.write a v).read b = if a = b then v else m.read b := by
  unfold Memory.write
  split
  · next hv => rw [Memory.read_erase]; split <;> simp_all
  · rw [Memory.read_insert _ _ _ _ (.inl (by simp [Memory.read_erase])) (fun w => Memory.not_mem_erase m a w),
      Memory.read_erase]
    split <;> rfl

@[simp] theorem Memory.read_write_same (m : Memory) (a : Nat) (v : Byte) : (m.write a v).read a = v := by
  simp [Memory.read_write]

theorem Memory.read_write_other (m : Memory) {a b : Nat} (v : Byte) (h : a ≠ b) : (m.write a v).read b = m.read b := by
  simp [Memory.read_write, h]

/-! ### The canonical form -/

theorem Memory.risesFrom_mono {bound low low' : Nat} {m : Memory} (h : m.risesFrom bound low = true) (hl : low' ≤ low) :
    m.risesFrom bound low' = true := by
  cases m with
  | nil => rfl
  | cons c rest =>
    obtain ⟨k, v⟩ := c
    simp only [Memory.risesFrom, Bool.and_eq_true, decide_eq_true_eq] at h ⊢
    exact ⟨⟨⟨by omega, h.1.1.2⟩, h.1.2⟩, h.2⟩

theorem Memory.risesFrom_erase {bound low : Nat} {m : Memory} (h : m.risesFrom bound low = true) (a : Nat) :
    (m.erase a).risesFrom bound low = true := by
  induction m generalizing low with
  | nil => rfl
  | cons c rest ih =>
    obtain ⟨k, v⟩ := c
    simp only [Memory.risesFrom, Bool.and_eq_true, decide_eq_true_eq] at h
    by_cases hk : k = a
    · simp only [Memory.erase, hk, if_true]
      exact Memory.risesFrom_mono (ih h.2) (by omega)
    · simp only [Memory.erase, hk, if_false, Memory.risesFrom, Bool.and_eq_true, decide_eq_true_eq]
      exact ⟨h.1, ih h.2⟩

theorem Memory.risesFrom_insert {bound low : Nat} {m : Memory} (h : m.risesFrom bound low = true) {a : Nat} {v : Byte}
    (hl : low ≤ a) (hb : a < bound) (hv : v ≠ Memory.unlisted) (hm : ∀ w, (a, w) ∉ m) :
    (Memory.insert m a v).risesFrom bound low = true := by
  induction m generalizing low with
  | nil => simp [Memory.insert, Memory.risesFrom, hl, hb, hv]
  | cons c rest ih =>
    obtain ⟨k, w⟩ := c
    simp only [Memory.risesFrom, Bool.and_eq_true, decide_eq_true_eq] at h
    have hk : k ≠ a := fun e => hm w (by simp [e])
    by_cases hlt : a < k
    · simp only [Memory.insert, hlt, if_true, Memory.risesFrom, Bool.and_eq_true, decide_eq_true_eq]
      refine ⟨⟨⟨hl, hb⟩, by simpa using hv⟩, ⟨⟨⟨by omega, h.1.1.2⟩, h.1.2⟩, h.2⟩⟩
    · simp only [Memory.insert, hlt, if_false, Memory.risesFrom, Bool.and_eq_true, decide_eq_true_eq]
      exact ⟨h.1, ih h.2 (by omega) (fun w' hw' => hm w' (by simp [hw']))⟩

/-- A write keeps the canonical form. -/
theorem Memory.wf_write {bound : Nat} {m : Memory} (h : m.wf bound = true) {a : Nat} (ha : a < bound) (v : Byte) :
    (m.write a v).wf bound = true := by
  unfold Memory.write
  split
  · exact Memory.risesFrom_erase h a
  · next hv =>
    exact Memory.risesFrom_insert (Memory.risesFrom_erase h a) (Nat.zero_le _) ha hv
      (fun w => Memory.not_mem_erase m a w)

@[simp] theorem Memory.wf_nil (bound : Nat) : Memory.wf bound [] = true := rfl

end Sys2Proof.Machine
end

