-- ==== Sys2Proof/Laws/State.lean ====
section
/-! SUPPORT. What each named update of the state leaves in each field: one lemma a field, true by definition. -/

namespace Sys2Proof.Machine

/-! ### withPsw -/

@[simp] theorem State.withPsw_pc (s : State) (v : Word) : (s.withPsw v).pc = s.pc := rfl
@[simp] theorem State.withPsw_pcHigh (s : State) (v : Word) : (s.withPsw v).pcHigh = s.pcHigh := rfl
@[simp] theorem State.withPsw_psw (s : State) (v : Word) : (s.withPsw v).psw = v := rfl
@[simp] theorem State.withPsw_idb (s : State) (v : Word) : (s.withPsw v).idb = s.idb := rfl
@[simp] theorem State.withPsw_area (s : State) (v : Word) : (s.withPsw v).area = s.area := rfl
@[simp] theorem State.withPsw_prc (s : State) (v : Word) : (s.withPsw v).prc = s.prc := rfl
@[simp] theorem State.withPsw_stbc (s : State) (v : Word) : (s.withPsw v).stbc = s.stbc := rfl
@[simp] theorem State.withPsw_iram (s : State) (v : Word) : (s.withPsw v).iram = s.iram := rfl
@[simp] theorem State.withPsw_sfr (s : State) (v : Word) : (s.withPsw v).sfr = s.sfr := rfl
@[simp] theorem State.withPsw_ext (s : State) (v : Word) : (s.withPsw v).ext = s.ext := rfl
@[simp] theorem State.withPsw_queueOld (s : State) (v : Word) : (s.withPsw v).queueOld = s.queueOld := rfl
@[simp] theorem State.withPsw_start (s : State) (v : Word) : (s.withPsw v).start = s.start := rfl
@[simp] theorem State.withPsw_pre (s : State) (v : Word) : (s.withPsw v).pre = s.pre := rfl
@[simp] theorem State.withPsw_resume (s : State) (v : Word) : (s.withPsw v).resume = s.resume := rfl
@[simp] theorem State.withPsw_run (s : State) (v : Word) : (s.withPsw v).run = s.run := rfl
@[simp] theorem State.withPsw_hold (s : State) (v : Word) : (s.withPsw v).hold = s.hold := rfl
@[simp] theorem State.withPsw_trace (s : State) (v : Word) : (s.withPsw v).trace = s.trace := rfl
@[simp] theorem State.withPsw_nmi (s : State) (v : Word) : (s.withPsw v).nmi = s.nmi := rfl
@[simp] theorem State.withPsw_irq (s : State) (v : Word) : (s.withPsw v).irq = s.irq := rfl
@[simp] theorem State.withPsw_resetPin (s : State) (v : Word) : (s.withPsw v).resetPin = s.resetPin := rfl
@[simp] theorem State.withPsw_draws (s : State) (v : Word) : (s.withPsw v).draws = s.draws := rfl
@[simp] theorem State.withPsw_events (s : State) (v : Word) : (s.withPsw v).events = s.events := rfl
@[simp] theorem State.withPsw_memmap (s : State) (v : Word) : (s.withPsw v).memmap = s.memmap := rfl
@[simp] theorem State.withPsw_iomap (s : State) (v : Word) : (s.withPsw v).iomap = s.iomap := rfl
@[simp] theorem State.withPsw_stopOpcode (s : State) (v : Word) : (s.withPsw v).stopOpcode = s.stopOpcode := rfl

/-! ### withIdb -/

@[simp] theorem State.withIdb_pc (s : State) (v : Byte) : (s.withIdb v).pc = s.pc := rfl
@[simp] theorem State.withIdb_pcHigh (s : State) (v : Byte) : (s.withIdb v).pcHigh = s.pcHigh := rfl
@[simp] theorem State.withIdb_psw (s : State) (v : Byte) : (s.withIdb v).psw = s.psw := rfl
@[simp] theorem State.withIdb_idb (s : State) (v : Byte) : (s.withIdb v).idb = v := rfl
@[simp] theorem State.withIdb_area (s : State) (v : Byte) : (s.withIdb v).area = s.area := rfl
@[simp] theorem State.withIdb_prc (s : State) (v : Byte) : (s.withIdb v).prc = s.prc := rfl
@[simp] theorem State.withIdb_stbc (s : State) (v : Byte) : (s.withIdb v).stbc = s.stbc := rfl
@[simp] theorem State.withIdb_iram (s : State) (v : Byte) : (s.withIdb v).iram = s.iram := rfl
@[simp] theorem State.withIdb_sfr (s : State) (v : Byte) : (s.withIdb v).sfr = s.sfr := rfl
@[simp] theorem State.withIdb_ext (s : State) (v : Byte) : (s.withIdb v).ext = s.ext := rfl
@[simp] theorem State.withIdb_queueOld (s : State) (v : Byte) : (s.withIdb v).queueOld = s.queueOld := rfl
@[simp] theorem State.withIdb_start (s : State) (v : Byte) : (s.withIdb v).start = s.start := rfl
@[simp] theorem State.withIdb_pre (s : State) (v : Byte) : (s.withIdb v).pre = s.pre := rfl
@[simp] theorem State.withIdb_resume (s : State) (v : Byte) : (s.withIdb v).resume = s.resume := rfl
@[simp] theorem State.withIdb_run (s : State) (v : Byte) : (s.withIdb v).run = s.run := rfl
@[simp] theorem State.withIdb_hold (s : State) (v : Byte) : (s.withIdb v).hold = s.hold := rfl
@[simp] theorem State.withIdb_trace (s : State) (v : Byte) : (s.withIdb v).trace = s.trace := rfl
@[simp] theorem State.withIdb_nmi (s : State) (v : Byte) : (s.withIdb v).nmi = s.nmi := rfl
@[simp] theorem State.withIdb_irq (s : State) (v : Byte) : (s.withIdb v).irq = s.irq := rfl
@[simp] theorem State.withIdb_resetPin (s : State) (v : Byte) : (s.withIdb v).resetPin = s.resetPin := rfl
@[simp] theorem State.withIdb_draws (s : State) (v : Byte) : (s.withIdb v).draws = s.draws := rfl
@[simp] theorem State.withIdb_events (s : State) (v : Byte) : (s.withIdb v).events = s.events := rfl
@[simp] theorem State.withIdb_memmap (s : State) (v : Byte) : (s.withIdb v).memmap = s.memmap := rfl
@[simp] theorem State.withIdb_iomap (s : State) (v : Byte) : (s.withIdb v).iomap = s.iomap := rfl
@[simp] theorem State.withIdb_stopOpcode (s : State) (v : Byte) : (s.withIdb v).stopOpcode = s.stopOpcode := rfl

/-! ### withPrc -/

@[simp] theorem State.withPrc_pc (s : State) (v : Byte) : (s.withPrc v).pc = s.pc := rfl
@[simp] theorem State.withPrc_pcHigh (s : State) (v : Byte) : (s.withPrc v).pcHigh = s.pcHigh := rfl
@[simp] theorem State.withPrc_psw (s : State) (v : Byte) : (s.withPrc v).psw = s.psw := rfl
@[simp] theorem State.withPrc_idb (s : State) (v : Byte) : (s.withPrc v).idb = s.idb := rfl
@[simp] theorem State.withPrc_area (s : State) (v : Byte) : (s.withPrc v).area = s.area := rfl
@[simp] theorem State.withPrc_prc (s : State) (v : Byte) : (s.withPrc v).prc = v := rfl
@[simp] theorem State.withPrc_stbc (s : State) (v : Byte) : (s.withPrc v).stbc = s.stbc := rfl
@[simp] theorem State.withPrc_iram (s : State) (v : Byte) : (s.withPrc v).iram = s.iram := rfl
@[simp] theorem State.withPrc_sfr (s : State) (v : Byte) : (s.withPrc v).sfr = s.sfr := rfl
@[simp] theorem State.withPrc_ext (s : State) (v : Byte) : (s.withPrc v).ext = s.ext := rfl
@[simp] theorem State.withPrc_queueOld (s : State) (v : Byte) : (s.withPrc v).queueOld = s.queueOld := rfl
@[simp] theorem State.withPrc_start (s : State) (v : Byte) : (s.withPrc v).start = s.start := rfl
@[simp] theorem State.withPrc_pre (s : State) (v : Byte) : (s.withPrc v).pre = s.pre := rfl
@[simp] theorem State.withPrc_resume (s : State) (v : Byte) : (s.withPrc v).resume = s.resume := rfl
@[simp] theorem State.withPrc_run (s : State) (v : Byte) : (s.withPrc v).run = s.run := rfl
@[simp] theorem State.withPrc_hold (s : State) (v : Byte) : (s.withPrc v).hold = s.hold := rfl
@[simp] theorem State.withPrc_trace (s : State) (v : Byte) : (s.withPrc v).trace = s.trace := rfl
@[simp] theorem State.withPrc_nmi (s : State) (v : Byte) : (s.withPrc v).nmi = s.nmi := rfl
@[simp] theorem State.withPrc_irq (s : State) (v : Byte) : (s.withPrc v).irq = s.irq := rfl
@[simp] theorem State.withPrc_resetPin (s : State) (v : Byte) : (s.withPrc v).resetPin = s.resetPin := rfl
@[simp] theorem State.withPrc_draws (s : State) (v : Byte) : (s.withPrc v).draws = s.draws := rfl
@[simp] theorem State.withPrc_events (s : State) (v : Byte) : (s.withPrc v).events = s.events := rfl
@[simp] theorem State.withPrc_memmap (s : State) (v : Byte) : (s.withPrc v).memmap = s.memmap := rfl
@[simp] theorem State.withPrc_iomap (s : State) (v : Byte) : (s.withPrc v).iomap = s.iomap := rfl
@[simp] theorem State.withPrc_stopOpcode (s : State) (v : Byte) : (s.withPrc v).stopOpcode = s.stopOpcode := rfl

/-! ### withStbc -/

@[simp] theorem State.withStbc_pc (s : State) (v : Byte) : (s.withStbc v).pc = s.pc := rfl
@[simp] theorem State.withStbc_pcHigh (s : State) (v : Byte) : (s.withStbc v).pcHigh = s.pcHigh := rfl
@[simp] theorem State.withStbc_psw (s : State) (v : Byte) : (s.withStbc v).psw = s.psw := rfl
@[simp] theorem State.withStbc_idb (s : State) (v : Byte) : (s.withStbc v).idb = s.idb := rfl
@[simp] theorem State.withStbc_area (s : State) (v : Byte) : (s.withStbc v).area = s.area := rfl
@[simp] theorem State.withStbc_prc (s : State) (v : Byte) : (s.withStbc v).prc = s.prc := rfl
@[simp] theorem State.withStbc_stbc (s : State) (v : Byte) : (s.withStbc v).stbc = v := rfl
@[simp] theorem State.withStbc_iram (s : State) (v : Byte) : (s.withStbc v).iram = s.iram := rfl
@[simp] theorem State.withStbc_sfr (s : State) (v : Byte) : (s.withStbc v).sfr = s.sfr := rfl
@[simp] theorem State.withStbc_ext (s : State) (v : Byte) : (s.withStbc v).ext = s.ext := rfl
@[simp] theorem State.withStbc_queueOld (s : State) (v : Byte) : (s.withStbc v).queueOld = s.queueOld := rfl
@[simp] theorem State.withStbc_start (s : State) (v : Byte) : (s.withStbc v).start = s.start := rfl
@[simp] theorem State.withStbc_pre (s : State) (v : Byte) : (s.withStbc v).pre = s.pre := rfl
@[simp] theorem State.withStbc_resume (s : State) (v : Byte) : (s.withStbc v).resume = s.resume := rfl
@[simp] theorem State.withStbc_run (s : State) (v : Byte) : (s.withStbc v).run = s.run := rfl
@[simp] theorem State.withStbc_hold (s : State) (v : Byte) : (s.withStbc v).hold = s.hold := rfl
@[simp] theorem State.withStbc_trace (s : State) (v : Byte) : (s.withStbc v).trace = s.trace := rfl
@[simp] theorem State.withStbc_nmi (s : State) (v : Byte) : (s.withStbc v).nmi = s.nmi := rfl
@[simp] theorem State.withStbc_irq (s : State) (v : Byte) : (s.withStbc v).irq = s.irq := rfl
@[simp] theorem State.withStbc_resetPin (s : State) (v : Byte) : (s.withStbc v).resetPin = s.resetPin := rfl
@[simp] theorem State.withStbc_draws (s : State) (v : Byte) : (s.withStbc v).draws = s.draws := rfl
@[simp] theorem State.withStbc_events (s : State) (v : Byte) : (s.withStbc v).events = s.events := rfl
@[simp] theorem State.withStbc_memmap (s : State) (v : Byte) : (s.withStbc v).memmap = s.memmap := rfl
@[simp] theorem State.withStbc_iomap (s : State) (v : Byte) : (s.withStbc v).iomap = s.iomap := rfl
@[simp] theorem State.withStbc_stopOpcode (s : State) (v : Byte) : (s.withStbc v).stopOpcode = s.stopOpcode := rfl

/-! ### withIram -/

@[simp] theorem State.withIram_pc (s : State) (m : Memory) : (s.withIram m).pc = s.pc := rfl
@[simp] theorem State.withIram_pcHigh (s : State) (m : Memory) : (s.withIram m).pcHigh = s.pcHigh := rfl
@[simp] theorem State.withIram_psw (s : State) (m : Memory) : (s.withIram m).psw = s.psw := rfl
@[simp] theorem State.withIram_idb (s : State) (m : Memory) : (s.withIram m).idb = s.idb := rfl
@[simp] theorem State.withIram_area (s : State) (m : Memory) : (s.withIram m).area = s.area := rfl
@[simp] theorem State.withIram_prc (s : State) (m : Memory) : (s.withIram m).prc = s.prc := rfl
@[simp] theorem State.withIram_stbc (s : State) (m : Memory) : (s.withIram m).stbc = s.stbc := rfl
@[simp] theorem State.withIram_iram (s : State) (m : Memory) : (s.withIram m).iram = m := rfl
@[simp] theorem State.withIram_sfr (s : State) (m : Memory) : (s.withIram m).sfr = s.sfr := rfl
@[simp] theorem State.withIram_ext (s : State) (m : Memory) : (s.withIram m).ext = s.ext := rfl
@[simp] theorem State.withIram_queueOld (s : State) (m : Memory) : (s.withIram m).queueOld = s.queueOld := rfl
@[simp] theorem State.withIram_start (s : State) (m : Memory) : (s.withIram m).start = s.start := rfl
@[simp] theorem State.withIram_pre (s : State) (m : Memory) : (s.withIram m).pre = s.pre := rfl
@[simp] theorem State.withIram_resume (s : State) (m : Memory) : (s.withIram m).resume = s.resume := rfl
@[simp] theorem State.withIram_run (s : State) (m : Memory) : (s.withIram m).run = s.run := rfl
@[simp] theorem State.withIram_hold (s : State) (m : Memory) : (s.withIram m).hold = s.hold := rfl
@[simp] theorem State.withIram_trace (s : State) (m : Memory) : (s.withIram m).trace = s.trace := rfl
@[simp] theorem State.withIram_nmi (s : State) (m : Memory) : (s.withIram m).nmi = s.nmi := rfl
@[simp] theorem State.withIram_irq (s : State) (m : Memory) : (s.withIram m).irq = s.irq := rfl
@[simp] theorem State.withIram_resetPin (s : State) (m : Memory) : (s.withIram m).resetPin = s.resetPin := rfl
@[simp] theorem State.withIram_draws (s : State) (m : Memory) : (s.withIram m).draws = s.draws := rfl
@[simp] theorem State.withIram_events (s : State) (m : Memory) : (s.withIram m).events = s.events := rfl
@[simp] theorem State.withIram_memmap (s : State) (m : Memory) : (s.withIram m).memmap = s.memmap := rfl
@[simp] theorem State.withIram_iomap (s : State) (m : Memory) : (s.withIram m).iomap = s.iomap := rfl
@[simp] theorem State.withIram_stopOpcode (s : State) (m : Memory) : (s.withIram m).stopOpcode = s.stopOpcode := rfl

/-! ### withSfr -/

@[simp] theorem State.withSfr_pc (s : State) (m : Memory) : (s.withSfr m).pc = s.pc := rfl
@[simp] theorem State.withSfr_pcHigh (s : State) (m : Memory) : (s.withSfr m).pcHigh = s.pcHigh := rfl
@[simp] theorem State.withSfr_psw (s : State) (m : Memory) : (s.withSfr m).psw = s.psw := rfl
@[simp] theorem State.withSfr_idb (s : State) (m : Memory) : (s.withSfr m).idb = s.idb := rfl
@[simp] theorem State.withSfr_area (s : State) (m : Memory) : (s.withSfr m).area = s.area := rfl
@[simp] theorem State.withSfr_prc (s : State) (m : Memory) : (s.withSfr m).prc = s.prc := rfl
@[simp] theorem State.withSfr_stbc (s : State) (m : Memory) : (s.withSfr m).stbc = s.stbc := rfl
@[simp] theorem State.withSfr_iram (s : State) (m : Memory) : (s.withSfr m).iram = s.iram := rfl
@[simp] theorem State.withSfr_sfr (s : State) (m : Memory) : (s.withSfr m).sfr = m := rfl
@[simp] theorem State.withSfr_ext (s : State) (m : Memory) : (s.withSfr m).ext = s.ext := rfl
@[simp] theorem State.withSfr_queueOld (s : State) (m : Memory) : (s.withSfr m).queueOld = s.queueOld := rfl
@[simp] theorem State.withSfr_start (s : State) (m : Memory) : (s.withSfr m).start = s.start := rfl
@[simp] theorem State.withSfr_pre (s : State) (m : Memory) : (s.withSfr m).pre = s.pre := rfl
@[simp] theorem State.withSfr_resume (s : State) (m : Memory) : (s.withSfr m).resume = s.resume := rfl
@[simp] theorem State.withSfr_run (s : State) (m : Memory) : (s.withSfr m).run = s.run := rfl
@[simp] theorem State.withSfr_hold (s : State) (m : Memory) : (s.withSfr m).hold = s.hold := rfl
@[simp] theorem State.withSfr_trace (s : State) (m : Memory) : (s.withSfr m).trace = s.trace := rfl
@[simp] theorem State.withSfr_nmi (s : State) (m : Memory) : (s.withSfr m).nmi = s.nmi := rfl
@[simp] theorem State.withSfr_irq (s : State) (m : Memory) : (s.withSfr m).irq = s.irq := rfl
@[simp] theorem State.withSfr_resetPin (s : State) (m : Memory) : (s.withSfr m).resetPin = s.resetPin := rfl
@[simp] theorem State.withSfr_draws (s : State) (m : Memory) : (s.withSfr m).draws = s.draws := rfl
@[simp] theorem State.withSfr_events (s : State) (m : Memory) : (s.withSfr m).events = s.events := rfl
@[simp] theorem State.withSfr_memmap (s : State) (m : Memory) : (s.withSfr m).memmap = s.memmap := rfl
@[simp] theorem State.withSfr_iomap (s : State) (m : Memory) : (s.withSfr m).iomap = s.iomap := rfl
@[simp] theorem State.withSfr_stopOpcode (s : State) (m : Memory) : (s.withSfr m).stopOpcode = s.stopOpcode := rfl

/-! ### withExt -/

@[simp] theorem State.withExt_pc (s : State) (m : Memory) : (s.withExt m).pc = s.pc := rfl
@[simp] theorem State.withExt_pcHigh (s : State) (m : Memory) : (s.withExt m).pcHigh = s.pcHigh := rfl
@[simp] theorem State.withExt_psw (s : State) (m : Memory) : (s.withExt m).psw = s.psw := rfl
@[simp] theorem State.withExt_idb (s : State) (m : Memory) : (s.withExt m).idb = s.idb := rfl
@[simp] theorem State.withExt_area (s : State) (m : Memory) : (s.withExt m).area = s.area := rfl
@[simp] theorem State.withExt_prc (s : State) (m : Memory) : (s.withExt m).prc = s.prc := rfl
@[simp] theorem State.withExt_stbc (s : State) (m : Memory) : (s.withExt m).stbc = s.stbc := rfl
@[simp] theorem State.withExt_iram (s : State) (m : Memory) : (s.withExt m).iram = s.iram := rfl
@[simp] theorem State.withExt_sfr (s : State) (m : Memory) : (s.withExt m).sfr = s.sfr := rfl
@[simp] theorem State.withExt_ext (s : State) (m : Memory) : (s.withExt m).ext = m := rfl
@[simp] theorem State.withExt_queueOld (s : State) (m : Memory) : (s.withExt m).queueOld = s.queueOld := rfl
@[simp] theorem State.withExt_start (s : State) (m : Memory) : (s.withExt m).start = s.start := rfl
@[simp] theorem State.withExt_pre (s : State) (m : Memory) : (s.withExt m).pre = s.pre := rfl
@[simp] theorem State.withExt_resume (s : State) (m : Memory) : (s.withExt m).resume = s.resume := rfl
@[simp] theorem State.withExt_run (s : State) (m : Memory) : (s.withExt m).run = s.run := rfl
@[simp] theorem State.withExt_hold (s : State) (m : Memory) : (s.withExt m).hold = s.hold := rfl
@[simp] theorem State.withExt_trace (s : State) (m : Memory) : (s.withExt m).trace = s.trace := rfl
@[simp] theorem State.withExt_nmi (s : State) (m : Memory) : (s.withExt m).nmi = s.nmi := rfl
@[simp] theorem State.withExt_irq (s : State) (m : Memory) : (s.withExt m).irq = s.irq := rfl
@[simp] theorem State.withExt_resetPin (s : State) (m : Memory) : (s.withExt m).resetPin = s.resetPin := rfl
@[simp] theorem State.withExt_draws (s : State) (m : Memory) : (s.withExt m).draws = s.draws := rfl
@[simp] theorem State.withExt_events (s : State) (m : Memory) : (s.withExt m).events = s.events := rfl
@[simp] theorem State.withExt_memmap (s : State) (m : Memory) : (s.withExt m).memmap = s.memmap := rfl
@[simp] theorem State.withExt_iomap (s : State) (m : Memory) : (s.withExt m).iomap = s.iomap := rfl
@[simp] theorem State.withExt_stopOpcode (s : State) (m : Memory) : (s.withExt m).stopOpcode = s.stopOpcode := rfl

/-! ### withQueueOld -/

@[simp] theorem State.withQueueOld_pc (s : State) (q : List Host.Cell) : (s.withQueueOld q).pc = s.pc := rfl
@[simp] theorem State.withQueueOld_pcHigh (s : State) (q : List Host.Cell) : (s.withQueueOld q).pcHigh = s.pcHigh := rfl
@[simp] theorem State.withQueueOld_psw (s : State) (q : List Host.Cell) : (s.withQueueOld q).psw = s.psw := rfl
@[simp] theorem State.withQueueOld_idb (s : State) (q : List Host.Cell) : (s.withQueueOld q).idb = s.idb := rfl
@[simp] theorem State.withQueueOld_area (s : State) (q : List Host.Cell) : (s.withQueueOld q).area = s.area := rfl
@[simp] theorem State.withQueueOld_prc (s : State) (q : List Host.Cell) : (s.withQueueOld q).prc = s.prc := rfl
@[simp] theorem State.withQueueOld_stbc (s : State) (q : List Host.Cell) : (s.withQueueOld q).stbc = s.stbc := rfl
@[simp] theorem State.withQueueOld_iram (s : State) (q : List Host.Cell) : (s.withQueueOld q).iram = s.iram := rfl
@[simp] theorem State.withQueueOld_sfr (s : State) (q : List Host.Cell) : (s.withQueueOld q).sfr = s.sfr := rfl
@[simp] theorem State.withQueueOld_ext (s : State) (q : List Host.Cell) : (s.withQueueOld q).ext = s.ext := rfl
@[simp] theorem State.withQueueOld_queueOld (s : State) (q : List Host.Cell) : (s.withQueueOld q).queueOld = q := rfl
@[simp] theorem State.withQueueOld_start (s : State) (q : List Host.Cell) : (s.withQueueOld q).start = s.start := rfl
@[simp] theorem State.withQueueOld_pre (s : State) (q : List Host.Cell) : (s.withQueueOld q).pre = s.pre := rfl
@[simp] theorem State.withQueueOld_resume (s : State) (q : List Host.Cell) : (s.withQueueOld q).resume = s.resume := rfl
@[simp] theorem State.withQueueOld_run (s : State) (q : List Host.Cell) : (s.withQueueOld q).run = s.run := rfl
@[simp] theorem State.withQueueOld_hold (s : State) (q : List Host.Cell) : (s.withQueueOld q).hold = s.hold := rfl
@[simp] theorem State.withQueueOld_trace (s : State) (q : List Host.Cell) : (s.withQueueOld q).trace = s.trace := rfl
@[simp] theorem State.withQueueOld_nmi (s : State) (q : List Host.Cell) : (s.withQueueOld q).nmi = s.nmi := rfl
@[simp] theorem State.withQueueOld_irq (s : State) (q : List Host.Cell) : (s.withQueueOld q).irq = s.irq := rfl
@[simp] theorem State.withQueueOld_resetPin (s : State) (q : List Host.Cell) : (s.withQueueOld q).resetPin = s.resetPin := rfl
@[simp] theorem State.withQueueOld_draws (s : State) (q : List Host.Cell) : (s.withQueueOld q).draws = s.draws := rfl
@[simp] theorem State.withQueueOld_events (s : State) (q : List Host.Cell) : (s.withQueueOld q).events = s.events := rfl
@[simp] theorem State.withQueueOld_memmap (s : State) (q : List Host.Cell) : (s.withQueueOld q).memmap = s.memmap := rfl
@[simp] theorem State.withQueueOld_iomap (s : State) (q : List Host.Cell) : (s.withQueueOld q).iomap = s.iomap := rfl
@[simp] theorem State.withQueueOld_stopOpcode (s : State) (q : List Host.Cell) : (s.withQueueOld q).stopOpcode = s.stopOpcode := rfl

/-! ### withPre -/

@[simp] theorem State.withPre_pc (s : State) (p : Prefixes) : (s.withPre p).pc = s.pc := rfl
@[simp] theorem State.withPre_pcHigh (s : State) (p : Prefixes) : (s.withPre p).pcHigh = s.pcHigh := rfl
@[simp] theorem State.withPre_psw (s : State) (p : Prefixes) : (s.withPre p).psw = s.psw := rfl
@[simp] theorem State.withPre_idb (s : State) (p : Prefixes) : (s.withPre p).idb = s.idb := rfl
@[simp] theorem State.withPre_area (s : State) (p : Prefixes) : (s.withPre p).area = s.area := rfl
@[simp] theorem State.withPre_prc (s : State) (p : Prefixes) : (s.withPre p).prc = s.prc := rfl
@[simp] theorem State.withPre_stbc (s : State) (p : Prefixes) : (s.withPre p).stbc = s.stbc := rfl
@[simp] theorem State.withPre_iram (s : State) (p : Prefixes) : (s.withPre p).iram = s.iram := rfl
@[simp] theorem State.withPre_sfr (s : State) (p : Prefixes) : (s.withPre p).sfr = s.sfr := rfl
@[simp] theorem State.withPre_ext (s : State) (p : Prefixes) : (s.withPre p).ext = s.ext := rfl
@[simp] theorem State.withPre_queueOld (s : State) (p : Prefixes) : (s.withPre p).queueOld = s.queueOld := rfl
@[simp] theorem State.withPre_start (s : State) (p : Prefixes) : (s.withPre p).start = s.start := rfl
@[simp] theorem State.withPre_pre (s : State) (p : Prefixes) : (s.withPre p).pre = p := rfl
@[simp] theorem State.withPre_resume (s : State) (p : Prefixes) : (s.withPre p).resume = s.resume := rfl
@[simp] theorem State.withPre_run (s : State) (p : Prefixes) : (s.withPre p).run = s.run := rfl
@[simp] theorem State.withPre_hold (s : State) (p : Prefixes) : (s.withPre p).hold = s.hold := rfl
@[simp] theorem State.withPre_trace (s : State) (p : Prefixes) : (s.withPre p).trace = s.trace := rfl
@[simp] theorem State.withPre_nmi (s : State) (p : Prefixes) : (s.withPre p).nmi = s.nmi := rfl
@[simp] theorem State.withPre_irq (s : State) (p : Prefixes) : (s.withPre p).irq = s.irq := rfl
@[simp] theorem State.withPre_resetPin (s : State) (p : Prefixes) : (s.withPre p).resetPin = s.resetPin := rfl
@[simp] theorem State.withPre_draws (s : State) (p : Prefixes) : (s.withPre p).draws = s.draws := rfl
@[simp] theorem State.withPre_events (s : State) (p : Prefixes) : (s.withPre p).events = s.events := rfl
@[simp] theorem State.withPre_memmap (s : State) (p : Prefixes) : (s.withPre p).memmap = s.memmap := rfl
@[simp] theorem State.withPre_iomap (s : State) (p : Prefixes) : (s.withPre p).iomap = s.iomap := rfl
@[simp] theorem State.withPre_stopOpcode (s : State) (p : Prefixes) : (s.withPre p).stopOpcode = s.stopOpcode := rfl

/-! ### withResume -/

@[simp] theorem State.withResume_pc (s : State) (r : Option Resume) : (s.withResume r).pc = s.pc := rfl
@[simp] theorem State.withResume_pcHigh (s : State) (r : Option Resume) : (s.withResume r).pcHigh = s.pcHigh := rfl
@[simp] theorem State.withResume_psw (s : State) (r : Option Resume) : (s.withResume r).psw = s.psw := rfl
@[simp] theorem State.withResume_idb (s : State) (r : Option Resume) : (s.withResume r).idb = s.idb := rfl
@[simp] theorem State.withResume_area (s : State) (r : Option Resume) : (s.withResume r).area = s.area := rfl
@[simp] theorem State.withResume_prc (s : State) (r : Option Resume) : (s.withResume r).prc = s.prc := rfl
@[simp] theorem State.withResume_stbc (s : State) (r : Option Resume) : (s.withResume r).stbc = s.stbc := rfl
@[simp] theorem State.withResume_iram (s : State) (r : Option Resume) : (s.withResume r).iram = s.iram := rfl
@[simp] theorem State.withResume_sfr (s : State) (r : Option Resume) : (s.withResume r).sfr = s.sfr := rfl
@[simp] theorem State.withResume_ext (s : State) (r : Option Resume) : (s.withResume r).ext = s.ext := rfl
@[simp] theorem State.withResume_queueOld (s : State) (r : Option Resume) : (s.withResume r).queueOld = s.queueOld := rfl
@[simp] theorem State.withResume_start (s : State) (r : Option Resume) : (s.withResume r).start = s.start := rfl
@[simp] theorem State.withResume_pre (s : State) (r : Option Resume) : (s.withResume r).pre = s.pre := rfl
@[simp] theorem State.withResume_resume (s : State) (r : Option Resume) : (s.withResume r).resume = r := rfl
@[simp] theorem State.withResume_run (s : State) (r : Option Resume) : (s.withResume r).run = s.run := rfl
@[simp] theorem State.withResume_hold (s : State) (r : Option Resume) : (s.withResume r).hold = s.hold := rfl
@[simp] theorem State.withResume_trace (s : State) (r : Option Resume) : (s.withResume r).trace = s.trace := rfl
@[simp] theorem State.withResume_nmi (s : State) (r : Option Resume) : (s.withResume r).nmi = s.nmi := rfl
@[simp] theorem State.withResume_irq (s : State) (r : Option Resume) : (s.withResume r).irq = s.irq := rfl
@[simp] theorem State.withResume_resetPin (s : State) (r : Option Resume) : (s.withResume r).resetPin = s.resetPin := rfl
@[simp] theorem State.withResume_draws (s : State) (r : Option Resume) : (s.withResume r).draws = s.draws := rfl
@[simp] theorem State.withResume_events (s : State) (r : Option Resume) : (s.withResume r).events = s.events := rfl
@[simp] theorem State.withResume_memmap (s : State) (r : Option Resume) : (s.withResume r).memmap = s.memmap := rfl
@[simp] theorem State.withResume_iomap (s : State) (r : Option Resume) : (s.withResume r).iomap = s.iomap := rfl
@[simp] theorem State.withResume_stopOpcode (s : State) (r : Option Resume) : (s.withResume r).stopOpcode = s.stopOpcode := rfl

/-! ### withRun -/

@[simp] theorem State.withRun_pc (s : State) (r : RunState) : (s.withRun r).pc = s.pc := rfl
@[simp] theorem State.withRun_pcHigh (s : State) (r : RunState) : (s.withRun r).pcHigh = s.pcHigh := rfl
@[simp] theorem State.withRun_psw (s : State) (r : RunState) : (s.withRun r).psw = s.psw := rfl
@[simp] theorem State.withRun_idb (s : State) (r : RunState) : (s.withRun r).idb = s.idb := rfl
@[simp] theorem State.withRun_area (s : State) (r : RunState) : (s.withRun r).area = s.area := rfl
@[simp] theorem State.withRun_prc (s : State) (r : RunState) : (s.withRun r).prc = s.prc := rfl
@[simp] theorem State.withRun_stbc (s : State) (r : RunState) : (s.withRun r).stbc = s.stbc := rfl
@[simp] theorem State.withRun_iram (s : State) (r : RunState) : (s.withRun r).iram = s.iram := rfl
@[simp] theorem State.withRun_sfr (s : State) (r : RunState) : (s.withRun r).sfr = s.sfr := rfl
@[simp] theorem State.withRun_ext (s : State) (r : RunState) : (s.withRun r).ext = s.ext := rfl
@[simp] theorem State.withRun_queueOld (s : State) (r : RunState) : (s.withRun r).queueOld = s.queueOld := rfl
@[simp] theorem State.withRun_start (s : State) (r : RunState) : (s.withRun r).start = s.start := rfl
@[simp] theorem State.withRun_pre (s : State) (r : RunState) : (s.withRun r).pre = s.pre := rfl
@[simp] theorem State.withRun_resume (s : State) (r : RunState) : (s.withRun r).resume = s.resume := rfl
@[simp] theorem State.withRun_run (s : State) (r : RunState) : (s.withRun r).run = r := rfl
@[simp] theorem State.withRun_hold (s : State) (r : RunState) : (s.withRun r).hold = s.hold := rfl
@[simp] theorem State.withRun_trace (s : State) (r : RunState) : (s.withRun r).trace = s.trace := rfl
@[simp] theorem State.withRun_nmi (s : State) (r : RunState) : (s.withRun r).nmi = s.nmi := rfl
@[simp] theorem State.withRun_irq (s : State) (r : RunState) : (s.withRun r).irq = s.irq := rfl
@[simp] theorem State.withRun_resetPin (s : State) (r : RunState) : (s.withRun r).resetPin = s.resetPin := rfl
@[simp] theorem State.withRun_draws (s : State) (r : RunState) : (s.withRun r).draws = s.draws := rfl
@[simp] theorem State.withRun_events (s : State) (r : RunState) : (s.withRun r).events = s.events := rfl
@[simp] theorem State.withRun_memmap (s : State) (r : RunState) : (s.withRun r).memmap = s.memmap := rfl
@[simp] theorem State.withRun_iomap (s : State) (r : RunState) : (s.withRun r).iomap = s.iomap := rfl
@[simp] theorem State.withRun_stopOpcode (s : State) (r : RunState) : (s.withRun r).stopOpcode = s.stopOpcode := rfl

/-! ### withHold -/

@[simp] theorem State.withHold_pc (s : State) (b : Bool) : (s.withHold b).pc = s.pc := rfl
@[simp] theorem State.withHold_pcHigh (s : State) (b : Bool) : (s.withHold b).pcHigh = s.pcHigh := rfl
@[simp] theorem State.withHold_psw (s : State) (b : Bool) : (s.withHold b).psw = s.psw := rfl
@[simp] theorem State.withHold_idb (s : State) (b : Bool) : (s.withHold b).idb = s.idb := rfl
@[simp] theorem State.withHold_area (s : State) (b : Bool) : (s.withHold b).area = s.area := rfl
@[simp] theorem State.withHold_prc (s : State) (b : Bool) : (s.withHold b).prc = s.prc := rfl
@[simp] theorem State.withHold_stbc (s : State) (b : Bool) : (s.withHold b).stbc = s.stbc := rfl
@[simp] theorem State.withHold_iram (s : State) (b : Bool) : (s.withHold b).iram = s.iram := rfl
@[simp] theorem State.withHold_sfr (s : State) (b : Bool) : (s.withHold b).sfr = s.sfr := rfl
@[simp] theorem State.withHold_ext (s : State) (b : Bool) : (s.withHold b).ext = s.ext := rfl
@[simp] theorem State.withHold_queueOld (s : State) (b : Bool) : (s.withHold b).queueOld = s.queueOld := rfl
@[simp] theorem State.withHold_start (s : State) (b : Bool) : (s.withHold b).start = s.start := rfl
@[simp] theorem State.withHold_pre (s : State) (b : Bool) : (s.withHold b).pre = s.pre := rfl
@[simp] theorem State.withHold_resume (s : State) (b : Bool) : (s.withHold b).resume = s.resume := rfl
@[simp] theorem State.withHold_run (s : State) (b : Bool) : (s.withHold b).run = s.run := rfl
@[simp] theorem State.withHold_hold (s : State) (b : Bool) : (s.withHold b).hold = b := rfl
@[simp] theorem State.withHold_trace (s : State) (b : Bool) : (s.withHold b).trace = s.trace := rfl
@[simp] theorem State.withHold_nmi (s : State) (b : Bool) : (s.withHold b).nmi = s.nmi := rfl
@[simp] theorem State.withHold_irq (s : State) (b : Bool) : (s.withHold b).irq = s.irq := rfl
@[simp] theorem State.withHold_resetPin (s : State) (b : Bool) : (s.withHold b).resetPin = s.resetPin := rfl
@[simp] theorem State.withHold_draws (s : State) (b : Bool) : (s.withHold b).draws = s.draws := rfl
@[simp] theorem State.withHold_events (s : State) (b : Bool) : (s.withHold b).events = s.events := rfl
@[simp] theorem State.withHold_memmap (s : State) (b : Bool) : (s.withHold b).memmap = s.memmap := rfl
@[simp] theorem State.withHold_iomap (s : State) (b : Bool) : (s.withHold b).iomap = s.iomap := rfl
@[simp] theorem State.withHold_stopOpcode (s : State) (b : Bool) : (s.withHold b).stopOpcode = s.stopOpcode := rfl

/-! ### withTrace -/

@[simp] theorem State.withTrace_pc (s : State) (b : Bool) : (s.withTrace b).pc = s.pc := rfl
@[simp] theorem State.withTrace_pcHigh (s : State) (b : Bool) : (s.withTrace b).pcHigh = s.pcHigh := rfl
@[simp] theorem State.withTrace_psw (s : State) (b : Bool) : (s.withTrace b).psw = s.psw := rfl
@[simp] theorem State.withTrace_idb (s : State) (b : Bool) : (s.withTrace b).idb = s.idb := rfl
@[simp] theorem State.withTrace_area (s : State) (b : Bool) : (s.withTrace b).area = s.area := rfl
@[simp] theorem State.withTrace_prc (s : State) (b : Bool) : (s.withTrace b).prc = s.prc := rfl
@[simp] theorem State.withTrace_stbc (s : State) (b : Bool) : (s.withTrace b).stbc = s.stbc := rfl
@[simp] theorem State.withTrace_iram (s : State) (b : Bool) : (s.withTrace b).iram = s.iram := rfl
@[simp] theorem State.withTrace_sfr (s : State) (b : Bool) : (s.withTrace b).sfr = s.sfr := rfl
@[simp] theorem State.withTrace_ext (s : State) (b : Bool) : (s.withTrace b).ext = s.ext := rfl
@[simp] theorem State.withTrace_queueOld (s : State) (b : Bool) : (s.withTrace b).queueOld = s.queueOld := rfl
@[simp] theorem State.withTrace_start (s : State) (b : Bool) : (s.withTrace b).start = s.start := rfl
@[simp] theorem State.withTrace_pre (s : State) (b : Bool) : (s.withTrace b).pre = s.pre := rfl
@[simp] theorem State.withTrace_resume (s : State) (b : Bool) : (s.withTrace b).resume = s.resume := rfl
@[simp] theorem State.withTrace_run (s : State) (b : Bool) : (s.withTrace b).run = s.run := rfl
@[simp] theorem State.withTrace_hold (s : State) (b : Bool) : (s.withTrace b).hold = s.hold := rfl
@[simp] theorem State.withTrace_trace (s : State) (b : Bool) : (s.withTrace b).trace = b := rfl
@[simp] theorem State.withTrace_nmi (s : State) (b : Bool) : (s.withTrace b).nmi = s.nmi := rfl
@[simp] theorem State.withTrace_irq (s : State) (b : Bool) : (s.withTrace b).irq = s.irq := rfl
@[simp] theorem State.withTrace_resetPin (s : State) (b : Bool) : (s.withTrace b).resetPin = s.resetPin := rfl
@[simp] theorem State.withTrace_draws (s : State) (b : Bool) : (s.withTrace b).draws = s.draws := rfl
@[simp] theorem State.withTrace_events (s : State) (b : Bool) : (s.withTrace b).events = s.events := rfl
@[simp] theorem State.withTrace_memmap (s : State) (b : Bool) : (s.withTrace b).memmap = s.memmap := rfl
@[simp] theorem State.withTrace_iomap (s : State) (b : Bool) : (s.withTrace b).iomap = s.iomap := rfl
@[simp] theorem State.withTrace_stopOpcode (s : State) (b : Bool) : (s.withTrace b).stopOpcode = s.stopOpcode := rfl

/-! ### withDraws -/

@[simp] theorem State.withDraws_pc (s : State) (n : Nat) : (s.withDraws n).pc = s.pc := rfl
@[simp] theorem State.withDraws_pcHigh (s : State) (n : Nat) : (s.withDraws n).pcHigh = s.pcHigh := rfl
@[simp] theorem State.withDraws_psw (s : State) (n : Nat) : (s.withDraws n).psw = s.psw := rfl
@[simp] theorem State.withDraws_idb (s : State) (n : Nat) : (s.withDraws n).idb = s.idb := rfl
@[simp] theorem State.withDraws_area (s : State) (n : Nat) : (s.withDraws n).area = s.area := rfl
@[simp] theorem State.withDraws_prc (s : State) (n : Nat) : (s.withDraws n).prc = s.prc := rfl
@[simp] theorem State.withDraws_stbc (s : State) (n : Nat) : (s.withDraws n).stbc = s.stbc := rfl
@[simp] theorem State.withDraws_iram (s : State) (n : Nat) : (s.withDraws n).iram = s.iram := rfl
@[simp] theorem State.withDraws_sfr (s : State) (n : Nat) : (s.withDraws n).sfr = s.sfr := rfl
@[simp] theorem State.withDraws_ext (s : State) (n : Nat) : (s.withDraws n).ext = s.ext := rfl
@[simp] theorem State.withDraws_queueOld (s : State) (n : Nat) : (s.withDraws n).queueOld = s.queueOld := rfl
@[simp] theorem State.withDraws_start (s : State) (n : Nat) : (s.withDraws n).start = s.start := rfl
@[simp] theorem State.withDraws_pre (s : State) (n : Nat) : (s.withDraws n).pre = s.pre := rfl
@[simp] theorem State.withDraws_resume (s : State) (n : Nat) : (s.withDraws n).resume = s.resume := rfl
@[simp] theorem State.withDraws_run (s : State) (n : Nat) : (s.withDraws n).run = s.run := rfl
@[simp] theorem State.withDraws_hold (s : State) (n : Nat) : (s.withDraws n).hold = s.hold := rfl
@[simp] theorem State.withDraws_trace (s : State) (n : Nat) : (s.withDraws n).trace = s.trace := rfl
@[simp] theorem State.withDraws_nmi (s : State) (n : Nat) : (s.withDraws n).nmi = s.nmi := rfl
@[simp] theorem State.withDraws_irq (s : State) (n : Nat) : (s.withDraws n).irq = s.irq := rfl
@[simp] theorem State.withDraws_resetPin (s : State) (n : Nat) : (s.withDraws n).resetPin = s.resetPin := rfl
@[simp] theorem State.withDraws_draws (s : State) (n : Nat) : (s.withDraws n).draws = n := rfl
@[simp] theorem State.withDraws_events (s : State) (n : Nat) : (s.withDraws n).events = s.events := rfl
@[simp] theorem State.withDraws_memmap (s : State) (n : Nat) : (s.withDraws n).memmap = s.memmap := rfl
@[simp] theorem State.withDraws_iomap (s : State) (n : Nat) : (s.withDraws n).iomap = s.iomap := rfl
@[simp] theorem State.withDraws_stopOpcode (s : State) (n : Nat) : (s.withDraws n).stopOpcode = s.stopOpcode := rfl

/-! ### record -/

@[simp] theorem State.record_pc (s : State) (e : Event) : (s.record e).pc = s.pc := rfl
@[simp] theorem State.record_pcHigh (s : State) (e : Event) : (s.record e).pcHigh = s.pcHigh := rfl
@[simp] theorem State.record_psw (s : State) (e : Event) : (s.record e).psw = s.psw := rfl
@[simp] theorem State.record_idb (s : State) (e : Event) : (s.record e).idb = s.idb := rfl
@[simp] theorem State.record_area (s : State) (e : Event) : (s.record e).area = s.area := rfl
@[simp] theorem State.record_prc (s : State) (e : Event) : (s.record e).prc = s.prc := rfl
@[simp] theorem State.record_stbc (s : State) (e : Event) : (s.record e).stbc = s.stbc := rfl
@[simp] theorem State.record_iram (s : State) (e : Event) : (s.record e).iram = s.iram := rfl
@[simp] theorem State.record_sfr (s : State) (e : Event) : (s.record e).sfr = s.sfr := rfl
@[simp] theorem State.record_ext (s : State) (e : Event) : (s.record e).ext = s.ext := rfl
@[simp] theorem State.record_queueOld (s : State) (e : Event) : (s.record e).queueOld = s.queueOld := rfl
@[simp] theorem State.record_start (s : State) (e : Event) : (s.record e).start = s.start := rfl
@[simp] theorem State.record_pre (s : State) (e : Event) : (s.record e).pre = s.pre := rfl
@[simp] theorem State.record_resume (s : State) (e : Event) : (s.record e).resume = s.resume := rfl
@[simp] theorem State.record_run (s : State) (e : Event) : (s.record e).run = s.run := rfl
@[simp] theorem State.record_hold (s : State) (e : Event) : (s.record e).hold = s.hold := rfl
@[simp] theorem State.record_trace (s : State) (e : Event) : (s.record e).trace = s.trace := rfl
@[simp] theorem State.record_nmi (s : State) (e : Event) : (s.record e).nmi = s.nmi := rfl
@[simp] theorem State.record_irq (s : State) (e : Event) : (s.record e).irq = s.irq := rfl
@[simp] theorem State.record_resetPin (s : State) (e : Event) : (s.record e).resetPin = s.resetPin := rfl
@[simp] theorem State.record_draws (s : State) (e : Event) : (s.record e).draws = s.draws := rfl
@[simp] theorem State.record_events (s : State) (e : Event) : (s.record e).events = e :: s.events := rfl
@[simp] theorem State.record_memmap (s : State) (e : Event) : (s.record e).memmap = s.memmap := rfl
@[simp] theorem State.record_iomap (s : State) (e : Event) : (s.record e).iomap = s.iomap := rfl
@[simp] theorem State.record_stopOpcode (s : State) (e : Event) : (s.record e).stopOpcode = s.stopOpcode := rfl

/-! ### loadPc -/

@[simp] theorem State.loadPc_pc (s : State) (v : Word) : (s.loadPc v).pc = v := rfl
@[simp] theorem State.loadPc_pcHigh (s : State) (v : Word) : (s.loadPc v).pcHigh = 0 := rfl
@[simp] theorem State.loadPc_psw (s : State) (v : Word) : (s.loadPc v).psw = s.psw := rfl
@[simp] theorem State.loadPc_idb (s : State) (v : Word) : (s.loadPc v).idb = s.idb := rfl
@[simp] theorem State.loadPc_area (s : State) (v : Word) : (s.loadPc v).area = s.area := rfl
@[simp] theorem State.loadPc_prc (s : State) (v : Word) : (s.loadPc v).prc = s.prc := rfl
@[simp] theorem State.loadPc_stbc (s : State) (v : Word) : (s.loadPc v).stbc = s.stbc := rfl
@[simp] theorem State.loadPc_iram (s : State) (v : Word) : (s.loadPc v).iram = s.iram := rfl
@[simp] theorem State.loadPc_sfr (s : State) (v : Word) : (s.loadPc v).sfr = s.sfr := rfl
@[simp] theorem State.loadPc_ext (s : State) (v : Word) : (s.loadPc v).ext = s.ext := rfl
@[simp] theorem State.loadPc_queueOld (s : State) (v : Word) : (s.loadPc v).queueOld = [] := rfl
@[simp] theorem State.loadPc_start (s : State) (v : Word) : (s.loadPc v).start = s.start := rfl
@[simp] theorem State.loadPc_pre (s : State) (v : Word) : (s.loadPc v).pre = s.pre := rfl
@[simp] theorem State.loadPc_resume (s : State) (v : Word) : (s.loadPc v).resume = s.resume := rfl
@[simp] theorem State.loadPc_run (s : State) (v : Word) : (s.loadPc v).run = s.run := rfl
@[simp] theorem State.loadPc_hold (s : State) (v : Word) : (s.loadPc v).hold = s.hold := rfl
@[simp] theorem State.loadPc_trace (s : State) (v : Word) : (s.loadPc v).trace = s.trace := rfl
@[simp] theorem State.loadPc_nmi (s : State) (v : Word) : (s.loadPc v).nmi = s.nmi := rfl
@[simp] theorem State.loadPc_irq (s : State) (v : Word) : (s.loadPc v).irq = s.irq := rfl
@[simp] theorem State.loadPc_resetPin (s : State) (v : Word) : (s.loadPc v).resetPin = s.resetPin := rfl
@[simp] theorem State.loadPc_draws (s : State) (v : Word) : (s.loadPc v).draws = s.draws := rfl
@[simp] theorem State.loadPc_events (s : State) (v : Word) : (s.loadPc v).events = s.events := rfl
@[simp] theorem State.loadPc_memmap (s : State) (v : Word) : (s.loadPc v).memmap = s.memmap := rfl
@[simp] theorem State.loadPc_iomap (s : State) (v : Word) : (s.loadPc v).iomap = s.iomap := rfl
@[simp] theorem State.loadPc_stopOpcode (s : State) (v : Word) : (s.loadPc v).stopOpcode = s.stopOpcode := rfl

/-! ### setFlag -/

@[simp] theorem State.setFlag_pc (s : State) (f : Flag) (b : Bool) : (s.setFlag f b).pc = s.pc := rfl
@[simp] theorem State.setFlag_pcHigh (s : State) (f : Flag) (b : Bool) : (s.setFlag f b).pcHigh = s.pcHigh := rfl
@[simp] theorem State.setFlag_psw (s : State) (f : Flag) (b : Bool) : (s.setFlag f b).psw = withFlag s.psw f b := rfl
@[simp] theorem State.setFlag_idb (s : State) (f : Flag) (b : Bool) : (s.setFlag f b).idb = s.idb := rfl
@[simp] theorem State.setFlag_area (s : State) (f : Flag) (b : Bool) : (s.setFlag f b).area = s.area := rfl
@[simp] theorem State.setFlag_prc (s : State) (f : Flag) (b : Bool) : (s.setFlag f b).prc = s.prc := rfl
@[simp] theorem State.setFlag_stbc (s : State) (f : Flag) (b : Bool) : (s.setFlag f b).stbc = s.stbc := rfl
@[simp] theorem State.setFlag_iram (s : State) (f : Flag) (b : Bool) : (s.setFlag f b).iram = s.iram := rfl
@[simp] theorem State.setFlag_sfr (s : State) (f : Flag) (b : Bool) : (s.setFlag f b).sfr = s.sfr := rfl
@[simp] theorem State.setFlag_ext (s : State) (f : Flag) (b : Bool) : (s.setFlag f b).ext = s.ext := rfl
@[simp] theorem State.setFlag_queueOld (s : State) (f : Flag) (b : Bool) : (s.setFlag f b).queueOld = s.queueOld := rfl
@[simp] theorem State.setFlag_start (s : State) (f : Flag) (b : Bool) : (s.setFlag f b).start = s.start := rfl
@[simp] theorem State.setFlag_pre (s : State) (f : Flag) (b : Bool) : (s.setFlag f b).pre = s.pre := rfl
@[simp] theorem State.setFlag_resume (s : State) (f : Flag) (b : Bool) : (s.setFlag f b).resume = s.resume := rfl
@[simp] theorem State.setFlag_run (s : State) (f : Flag) (b : Bool) : (s.setFlag f b).run = s.run := rfl
@[simp] theorem State.setFlag_hold (s : State) (f : Flag) (b : Bool) : (s.setFlag f b).hold = s.hold := rfl
@[simp] theorem State.setFlag_trace (s : State) (f : Flag) (b : Bool) : (s.setFlag f b).trace = s.trace := rfl
@[simp] theorem State.setFlag_nmi (s : State) (f : Flag) (b : Bool) : (s.setFlag f b).nmi = s.nmi := rfl
@[simp] theorem State.setFlag_irq (s : State) (f : Flag) (b : Bool) : (s.setFlag f b).irq = s.irq := rfl
@[simp] theorem State.setFlag_resetPin (s : State) (f : Flag) (b : Bool) : (s.setFlag f b).resetPin = s.resetPin := rfl
@[simp] theorem State.setFlag_draws (s : State) (f : Flag) (b : Bool) : (s.setFlag f b).draws = s.draws := rfl
@[simp] theorem State.setFlag_events (s : State) (f : Flag) (b : Bool) : (s.setFlag f b).events = s.events := rfl
@[simp] theorem State.setFlag_memmap (s : State) (f : Flag) (b : Bool) : (s.setFlag f b).memmap = s.memmap := rfl
@[simp] theorem State.setFlag_iomap (s : State) (f : Flag) (b : Bool) : (s.setFlag f b).iomap = s.iomap := rfl
@[simp] theorem State.setFlag_stopOpcode (s : State) (f : Flag) (b : Bool) : (s.setFlag f b).stopOpcode = s.stopOpcode := rfl

/-! ### setStatus -/

@[simp] theorem State.setStatus_pc (s : State) (mask status : Word) : (s.setStatus mask status).pc = s.pc := rfl
@[simp] theorem State.setStatus_pcHigh (s : State) (mask status : Word) : (s.setStatus mask status).pcHigh = s.pcHigh := rfl
@[simp] theorem State.setStatus_psw (s : State) (mask status : Word) : (s.setStatus mask status).psw = merge s.psw mask status := rfl
@[simp] theorem State.setStatus_idb (s : State) (mask status : Word) : (s.setStatus mask status).idb = s.idb := rfl
@[simp] theorem State.setStatus_area (s : State) (mask status : Word) : (s.setStatus mask status).area = s.area := rfl
@[simp] theorem State.setStatus_prc (s : State) (mask status : Word) : (s.setStatus mask status).prc = s.prc := rfl
@[simp] theorem State.setStatus_stbc (s : State) (mask status : Word) : (s.setStatus mask status).stbc = s.stbc := rfl
@[simp] theorem State.setStatus_iram (s : State) (mask status : Word) : (s.setStatus mask status).iram = s.iram := rfl
@[simp] theorem State.setStatus_sfr (s : State) (mask status : Word) : (s.setStatus mask status).sfr = s.sfr := rfl
@[simp] theorem State.setStatus_ext (s : State) (mask status : Word) : (s.setStatus mask status).ext = s.ext := rfl
@[simp] theorem State.setStatus_queueOld (s : State) (mask status : Word) : (s.setStatus mask status).queueOld = s.queueOld := rfl
@[simp] theorem State.setStatus_start (s : State) (mask status : Word) : (s.setStatus mask status).start = s.start := rfl
@[simp] theorem State.setStatus_pre (s : State) (mask status : Word) : (s.setStatus mask status).pre = s.pre := rfl
@[simp] theorem State.setStatus_resume (s : State) (mask status : Word) : (s.setStatus mask status).resume = s.resume := rfl
@[simp] theorem State.setStatus_run (s : State) (mask status : Word) : (s.setStatus mask status).run = s.run := rfl
@[simp] theorem State.setStatus_hold (s : State) (mask status : Word) : (s.setStatus mask status).hold = s.hold := rfl
@[simp] theorem State.setStatus_trace (s : State) (mask status : Word) : (s.setStatus mask status).trace = s.trace := rfl
@[simp] theorem State.setStatus_nmi (s : State) (mask status : Word) : (s.setStatus mask status).nmi = s.nmi := rfl
@[simp] theorem State.setStatus_irq (s : State) (mask status : Word) : (s.setStatus mask status).irq = s.irq := rfl
@[simp] theorem State.setStatus_resetPin (s : State) (mask status : Word) : (s.setStatus mask status).resetPin = s.resetPin := rfl
@[simp] theorem State.setStatus_draws (s : State) (mask status : Word) : (s.setStatus mask status).draws = s.draws := rfl
@[simp] theorem State.setStatus_events (s : State) (mask status : Word) : (s.setStatus mask status).events = s.events := rfl
@[simp] theorem State.setStatus_memmap (s : State) (mask status : Word) : (s.setStatus mask status).memmap = s.memmap := rfl
@[simp] theorem State.setStatus_iomap (s : State) (mask status : Word) : (s.setStatus mask status).iomap = s.iomap := rfl
@[simp] theorem State.setStatus_stopOpcode (s : State) (mask status : Word) : (s.setStatus mask status).stopOpcode = s.stopOpcode := rfl

/-! ### protectBoundary -/

@[simp] theorem State.protectBoundary_pc (s : State) : s.protectBoundary.pc = s.pc := rfl
@[simp] theorem State.protectBoundary_pcHigh (s : State) : s.protectBoundary.pcHigh = s.pcHigh := rfl
@[simp] theorem State.protectBoundary_psw (s : State) : s.protectBoundary.psw = s.psw := rfl
@[simp] theorem State.protectBoundary_idb (s : State) : s.protectBoundary.idb = s.idb := rfl
@[simp] theorem State.protectBoundary_area (s : State) : s.protectBoundary.area = s.area := rfl
@[simp] theorem State.protectBoundary_prc (s : State) : s.protectBoundary.prc = s.prc := rfl
@[simp] theorem State.protectBoundary_stbc (s : State) : s.protectBoundary.stbc = s.stbc := rfl
@[simp] theorem State.protectBoundary_iram (s : State) : s.protectBoundary.iram = s.iram := rfl
@[simp] theorem State.protectBoundary_sfr (s : State) : s.protectBoundary.sfr = s.sfr := rfl
@[simp] theorem State.protectBoundary_ext (s : State) : s.protectBoundary.ext = s.ext := rfl
@[simp] theorem State.protectBoundary_queueOld (s : State) : s.protectBoundary.queueOld = s.queueOld := rfl
@[simp] theorem State.protectBoundary_start (s : State) : s.protectBoundary.start = s.start := rfl
@[simp] theorem State.protectBoundary_pre (s : State) : s.protectBoundary.pre = s.pre := rfl
@[simp] theorem State.protectBoundary_resume (s : State) : s.protectBoundary.resume = s.resume := rfl
@[simp] theorem State.protectBoundary_run (s : State) : s.protectBoundary.run = s.run := rfl
@[simp] theorem State.protectBoundary_hold (s : State) : s.protectBoundary.hold = true := rfl
@[simp] theorem State.protectBoundary_trace (s : State) : s.protectBoundary.trace = false := rfl
@[simp] theorem State.protectBoundary_nmi (s : State) : s.protectBoundary.nmi = s.nmi := rfl
@[simp] theorem State.protectBoundary_irq (s : State) : s.protectBoundary.irq = s.irq := rfl
@[simp] theorem State.protectBoundary_resetPin (s : State) : s.protectBoundary.resetPin = s.resetPin := rfl
@[simp] theorem State.protectBoundary_draws (s : State) : s.protectBoundary.draws = s.draws := rfl
@[simp] theorem State.protectBoundary_events (s : State) : s.protectBoundary.events = s.events := rfl
@[simp] theorem State.protectBoundary_memmap (s : State) : s.protectBoundary.memmap = s.memmap := rfl
@[simp] theorem State.protectBoundary_iomap (s : State) : s.protectBoundary.iomap = s.iomap := rfl
@[simp] theorem State.protectBoundary_stopOpcode (s : State) : s.protectBoundary.stopOpcode = s.stopOpcode := rfl

/-! ### clearIeBrk -/

@[simp] theorem State.clearIeBrk_pc (s : State) : s.clearIeBrk.pc = s.pc := rfl
@[simp] theorem State.clearIeBrk_pcHigh (s : State) : s.clearIeBrk.pcHigh = s.pcHigh := rfl
@[simp] theorem State.clearIeBrk_psw (s : State) : s.clearIeBrk.psw = withFlag (withFlag s.psw .ie false) .brk false := rfl
@[simp] theorem State.clearIeBrk_idb (s : State) : s.clearIeBrk.idb = s.idb := rfl
@[simp] theorem State.clearIeBrk_area (s : State) : s.clearIeBrk.area = s.area := rfl
@[simp] theorem State.clearIeBrk_prc (s : State) : s.clearIeBrk.prc = s.prc := rfl
@[simp] theorem State.clearIeBrk_stbc (s : State) : s.clearIeBrk.stbc = s.stbc := rfl
@[simp] theorem State.clearIeBrk_iram (s : State) : s.clearIeBrk.iram = s.iram := rfl
@[simp] theorem State.clearIeBrk_sfr (s : State) : s.clearIeBrk.sfr = s.sfr := rfl
@[simp] theorem State.clearIeBrk_ext (s : State) : s.clearIeBrk.ext = s.ext := rfl
@[simp] theorem State.clearIeBrk_queueOld (s : State) : s.clearIeBrk.queueOld = s.queueOld := rfl
@[simp] theorem State.clearIeBrk_start (s : State) : s.clearIeBrk.start = s.start := rfl
@[simp] theorem State.clearIeBrk_pre (s : State) : s.clearIeBrk.pre = s.pre := rfl
@[simp] theorem State.clearIeBrk_resume (s : State) : s.clearIeBrk.resume = s.resume := rfl
@[simp] theorem State.clearIeBrk_run (s : State) : s.clearIeBrk.run = s.run := rfl
@[simp] theorem State.clearIeBrk_hold (s : State) : s.clearIeBrk.hold = s.hold := rfl
@[simp] theorem State.clearIeBrk_trace (s : State) : s.clearIeBrk.trace = s.trace := rfl
@[simp] theorem State.clearIeBrk_nmi (s : State) : s.clearIeBrk.nmi = s.nmi := rfl
@[simp] theorem State.clearIeBrk_irq (s : State) : s.clearIeBrk.irq = s.irq := rfl
@[simp] theorem State.clearIeBrk_resetPin (s : State) : s.clearIeBrk.resetPin = s.resetPin := rfl
@[simp] theorem State.clearIeBrk_draws (s : State) : s.clearIeBrk.draws = s.draws := rfl
@[simp] theorem State.clearIeBrk_events (s : State) : s.clearIeBrk.events = s.events := rfl
@[simp] theorem State.clearIeBrk_memmap (s : State) : s.clearIeBrk.memmap = s.memmap := rfl
@[simp] theorem State.clearIeBrk_iomap (s : State) : s.clearIeBrk.iomap = s.iomap := rfl
@[simp] theorem State.clearIeBrk_stopOpcode (s : State) : s.clearIeBrk.stopOpcode = s.stopOpcode := rfl

/-! ### entered -/

@[simp] theorem State.entered_pc (s : State) : s.entered.pc = s.pc := rfl
@[simp] theorem State.entered_pcHigh (s : State) : s.entered.pcHigh = s.pcHigh := rfl
@[simp] theorem State.entered_psw (s : State) : s.entered.psw = s.psw := rfl
@[simp] theorem State.entered_idb (s : State) : s.entered.idb = s.idb := rfl
@[simp] theorem State.entered_area (s : State) : s.entered.area = s.area := rfl
@[simp] theorem State.entered_prc (s : State) : s.entered.prc = s.prc := rfl
@[simp] theorem State.entered_stbc (s : State) : s.entered.stbc = s.stbc := rfl
@[simp] theorem State.entered_iram (s : State) : s.entered.iram = s.iram := rfl
@[simp] theorem State.entered_sfr (s : State) : s.entered.sfr = s.sfr := rfl
@[simp] theorem State.entered_ext (s : State) : s.entered.ext = s.ext := rfl
@[simp] theorem State.entered_queueOld (s : State) : s.entered.queueOld = s.queueOld := rfl
@[simp] theorem State.entered_start (s : State) : s.entered.start = s.start := rfl
@[simp] theorem State.entered_pre (s : State) : s.entered.pre = s.pre := rfl
@[simp] theorem State.entered_resume (s : State) : s.entered.resume = none := rfl
@[simp] theorem State.entered_run (s : State) : s.entered.run = .running := rfl
@[simp] theorem State.entered_hold (s : State) : s.entered.hold = s.hold := rfl
@[simp] theorem State.entered_trace (s : State) : s.entered.trace = false := rfl
@[simp] theorem State.entered_nmi (s : State) : s.entered.nmi = s.nmi := rfl
@[simp] theorem State.entered_irq (s : State) : s.entered.irq = s.irq := rfl
@[simp] theorem State.entered_resetPin (s : State) : s.entered.resetPin = s.resetPin := rfl
@[simp] theorem State.entered_draws (s : State) : s.entered.draws = s.draws := rfl
@[simp] theorem State.entered_events (s : State) : s.entered.events = s.events := rfl
@[simp] theorem State.entered_memmap (s : State) : s.entered.memmap = s.memmap := rfl
@[simp] theorem State.entered_iomap (s : State) : s.entered.iomap = s.iomap := rfl
@[simp] theorem State.entered_stopOpcode (s : State) : s.entered.stopOpcode = s.stopOpcode := rfl

/-! ### setBankByte -/

@[simp] theorem State.setBankByte_pc (s : State) (n : BitVec 3) (o : Nat) (v : Byte) : (s.setBankByte n o v).pc = s.pc := rfl
@[simp] theorem State.setBankByte_pcHigh (s : State) (n : BitVec 3) (o : Nat) (v : Byte) : (s.setBankByte n o v).pcHigh = s.pcHigh := rfl
@[simp] theorem State.setBankByte_psw (s : State) (n : BitVec 3) (o : Nat) (v : Byte) : (s.setBankByte n o v).psw = s.psw := rfl
@[simp] theorem State.setBankByte_idb (s : State) (n : BitVec 3) (o : Nat) (v : Byte) : (s.setBankByte n o v).idb = s.idb := rfl
@[simp] theorem State.setBankByte_area (s : State) (n : BitVec 3) (o : Nat) (v : Byte) : (s.setBankByte n o v).area = s.area := rfl
@[simp] theorem State.setBankByte_prc (s : State) (n : BitVec 3) (o : Nat) (v : Byte) : (s.setBankByte n o v).prc = s.prc := rfl
@[simp] theorem State.setBankByte_stbc (s : State) (n : BitVec 3) (o : Nat) (v : Byte) : (s.setBankByte n o v).stbc = s.stbc := rfl
@[simp] theorem State.setBankByte_iram (s : State) (n : BitVec 3) (o : Nat) (v : Byte) : (s.setBankByte n o v).iram = s.iram.write (bankKey n o) v := rfl
@[simp] theorem State.setBankByte_sfr (s : State) (n : BitVec 3) (o : Nat) (v : Byte) : (s.setBankByte n o v).sfr = s.sfr := rfl
@[simp] theorem State.setBankByte_ext (s : State) (n : BitVec 3) (o : Nat) (v : Byte) : (s.setBankByte n o v).ext = s.ext := rfl
@[simp] theorem State.setBankByte_queueOld (s : State) (n : BitVec 3) (o : Nat) (v : Byte) : (s.setBankByte n o v).queueOld = s.queueOld := rfl
@[simp] theorem State.setBankByte_start (s : State) (n : BitVec 3) (o : Nat) (v : Byte) : (s.setBankByte n o v).start = s.start := rfl
@[simp] theorem State.setBankByte_pre (s : State) (n : BitVec 3) (o : Nat) (v : Byte) : (s.setBankByte n o v).pre = s.pre := rfl
@[simp] theorem State.setBankByte_resume (s : State) (n : BitVec 3) (o : Nat) (v : Byte) : (s.setBankByte n o v).resume = s.resume := rfl
@[simp] theorem State.setBankByte_run (s : State) (n : BitVec 3) (o : Nat) (v : Byte) : (s.setBankByte n o v).run = s.run := rfl
@[simp] theorem State.setBankByte_hold (s : State) (n : BitVec 3) (o : Nat) (v : Byte) : (s.setBankByte n o v).hold = s.hold := rfl
@[simp] theorem State.setBankByte_trace (s : State) (n : BitVec 3) (o : Nat) (v : Byte) : (s.setBankByte n o v).trace = s.trace := rfl
@[simp] theorem State.setBankByte_nmi (s : State) (n : BitVec 3) (o : Nat) (v : Byte) : (s.setBankByte n o v).nmi = s.nmi := rfl
@[simp] theorem State.setBankByte_irq (s : State) (n : BitVec 3) (o : Nat) (v : Byte) : (s.setBankByte n o v).irq = s.irq := rfl
@[simp] theorem State.setBankByte_resetPin (s : State) (n : BitVec 3) (o : Nat) (v : Byte) : (s.setBankByte n o v).resetPin = s.resetPin := rfl
@[simp] theorem State.setBankByte_draws (s : State) (n : BitVec 3) (o : Nat) (v : Byte) : (s.setBankByte n o v).draws = s.draws := rfl
@[simp] theorem State.setBankByte_events (s : State) (n : BitVec 3) (o : Nat) (v : Byte) : (s.setBankByte n o v).events = s.events := rfl
@[simp] theorem State.setBankByte_memmap (s : State) (n : BitVec 3) (o : Nat) (v : Byte) : (s.setBankByte n o v).memmap = s.memmap := rfl
@[simp] theorem State.setBankByte_iomap (s : State) (n : BitVec 3) (o : Nat) (v : Byte) : (s.setBankByte n o v).iomap = s.iomap := rfl
@[simp] theorem State.setBankByte_stopOpcode (s : State) (n : BitVec 3) (o : Nat) (v : Byte) : (s.setBankByte n o v).stopOpcode = s.stopOpcode := rfl

/-! ### setBankWord -/

@[simp] theorem State.setBankWord_pc (s : State) (n : BitVec 3) (o : Nat) (v : Word) : (s.setBankWord n o v).pc = s.pc := rfl
@[simp] theorem State.setBankWord_pcHigh (s : State) (n : BitVec 3) (o : Nat) (v : Word) : (s.setBankWord n o v).pcHigh = s.pcHigh := rfl
@[simp] theorem State.setBankWord_psw (s : State) (n : BitVec 3) (o : Nat) (v : Word) : (s.setBankWord n o v).psw = s.psw := rfl
@[simp] theorem State.setBankWord_idb (s : State) (n : BitVec 3) (o : Nat) (v : Word) : (s.setBankWord n o v).idb = s.idb := rfl
@[simp] theorem State.setBankWord_area (s : State) (n : BitVec 3) (o : Nat) (v : Word) : (s.setBankWord n o v).area = s.area := rfl
@[simp] theorem State.setBankWord_prc (s : State) (n : BitVec 3) (o : Nat) (v : Word) : (s.setBankWord n o v).prc = s.prc := rfl
@[simp] theorem State.setBankWord_stbc (s : State) (n : BitVec 3) (o : Nat) (v : Word) : (s.setBankWord n o v).stbc = s.stbc := rfl
@[simp] theorem State.setBankWord_iram (s : State) (n : BitVec 3) (o : Nat) (v : Word) : (s.setBankWord n o v).iram = (s.iram.write (bankKey n o) (v.extractLsb' 0 8)).write (bankKey n (o + 1)) (v.extractLsb' 8 8) := rfl
@[simp] theorem State.setBankWord_sfr (s : State) (n : BitVec 3) (o : Nat) (v : Word) : (s.setBankWord n o v).sfr = s.sfr := rfl
@[simp] theorem State.setBankWord_ext (s : State) (n : BitVec 3) (o : Nat) (v : Word) : (s.setBankWord n o v).ext = s.ext := rfl
@[simp] theorem State.setBankWord_queueOld (s : State) (n : BitVec 3) (o : Nat) (v : Word) : (s.setBankWord n o v).queueOld = s.queueOld := rfl
@[simp] theorem State.setBankWord_start (s : State) (n : BitVec 3) (o : Nat) (v : Word) : (s.setBankWord n o v).start = s.start := rfl
@[simp] theorem State.setBankWord_pre (s : State) (n : BitVec 3) (o : Nat) (v : Word) : (s.setBankWord n o v).pre = s.pre := rfl
@[simp] theorem State.setBankWord_resume (s : State) (n : BitVec 3) (o : Nat) (v : Word) : (s.setBankWord n o v).resume = s.resume := rfl
@[simp] theorem State.setBankWord_run (s : State) (n : BitVec 3) (o : Nat) (v : Word) : (s.setBankWord n o v).run = s.run := rfl
@[simp] theorem State.setBankWord_hold (s : State) (n : BitVec 3) (o : Nat) (v : Word) : (s.setBankWord n o v).hold = s.hold := rfl
@[simp] theorem State.setBankWord_trace (s : State) (n : BitVec 3) (o : Nat) (v : Word) : (s.setBankWord n o v).trace = s.trace := rfl
@[simp] theorem State.setBankWord_nmi (s : State) (n : BitVec 3) (o : Nat) (v : Word) : (s.setBankWord n o v).nmi = s.nmi := rfl
@[simp] theorem State.setBankWord_irq (s : State) (n : BitVec 3) (o : Nat) (v : Word) : (s.setBankWord n o v).irq = s.irq := rfl
@[simp] theorem State.setBankWord_resetPin (s : State) (n : BitVec 3) (o : Nat) (v : Word) : (s.setBankWord n o v).resetPin = s.resetPin := rfl
@[simp] theorem State.setBankWord_draws (s : State) (n : BitVec 3) (o : Nat) (v : Word) : (s.setBankWord n o v).draws = s.draws := rfl
@[simp] theorem State.setBankWord_events (s : State) (n : BitVec 3) (o : Nat) (v : Word) : (s.setBankWord n o v).events = s.events := rfl
@[simp] theorem State.setBankWord_memmap (s : State) (n : BitVec 3) (o : Nat) (v : Word) : (s.setBankWord n o v).memmap = s.memmap := rfl
@[simp] theorem State.setBankWord_iomap (s : State) (n : BitVec 3) (o : Nat) (v : Word) : (s.setBankWord n o v).iomap = s.iomap := rfl
@[simp] theorem State.setBankWord_stopOpcode (s : State) (n : BitVec 3) (o : Nat) (v : Word) : (s.setBankWord n o v).stopOpcode = s.stopOpcode := rfl

/-! ### setReg16 -/

@[simp] theorem State.setReg16_pc (s : State) (r : Reg16) (v : Word) : (s.setReg16 r v).pc = s.pc := rfl
@[simp] theorem State.setReg16_pcHigh (s : State) (r : Reg16) (v : Word) : (s.setReg16 r v).pcHigh = s.pcHigh := rfl
@[simp] theorem State.setReg16_psw (s : State) (r : Reg16) (v : Word) : (s.setReg16 r v).psw = s.psw := rfl
@[simp] theorem State.setReg16_idb (s : State) (r : Reg16) (v : Word) : (s.setReg16 r v).idb = s.idb := rfl
@[simp] theorem State.setReg16_area (s : State) (r : Reg16) (v : Word) : (s.setReg16 r v).area = s.area := rfl
@[simp] theorem State.setReg16_prc (s : State) (r : Reg16) (v : Word) : (s.setReg16 r v).prc = s.prc := rfl
@[simp] theorem State.setReg16_stbc (s : State) (r : Reg16) (v : Word) : (s.setReg16 r v).stbc = s.stbc := rfl
@[simp] theorem State.setReg16_sfr (s : State) (r : Reg16) (v : Word) : (s.setReg16 r v).sfr = s.sfr := rfl
@[simp] theorem State.setReg16_ext (s : State) (r : Reg16) (v : Word) : (s.setReg16 r v).ext = s.ext := rfl
@[simp] theorem State.setReg16_queueOld (s : State) (r : Reg16) (v : Word) : (s.setReg16 r v).queueOld = s.queueOld := rfl
@[simp] theorem State.setReg16_start (s : State) (r : Reg16) (v : Word) : (s.setReg16 r v).start = s.start := rfl
@[simp] theorem State.setReg16_pre (s : State) (r : Reg16) (v : Word) : (s.setReg16 r v).pre = s.pre := rfl
@[simp] theorem State.setReg16_resume (s : State) (r : Reg16) (v : Word) : (s.setReg16 r v).resume = s.resume := rfl
@[simp] theorem State.setReg16_run (s : State) (r : Reg16) (v : Word) : (s.setReg16 r v).run = s.run := rfl
@[simp] theorem State.setReg16_hold (s : State) (r : Reg16) (v : Word) : (s.setReg16 r v).hold = s.hold := rfl
@[simp] theorem State.setReg16_trace (s : State) (r : Reg16) (v : Word) : (s.setReg16 r v).trace = s.trace := rfl
@[simp] theorem State.setReg16_nmi (s : State) (r : Reg16) (v : Word) : (s.setReg16 r v).nmi = s.nmi := rfl
@[simp] theorem State.setReg16_irq (s : State) (r : Reg16) (v : Word) : (s.setReg16 r v).irq = s.irq := rfl
@[simp] theorem State.setReg16_resetPin (s : State) (r : Reg16) (v : Word) : (s.setReg16 r v).resetPin = s.resetPin := rfl
@[simp] theorem State.setReg16_draws (s : State) (r : Reg16) (v : Word) : (s.setReg16 r v).draws = s.draws := rfl
@[simp] theorem State.setReg16_events (s : State) (r : Reg16) (v : Word) : (s.setReg16 r v).events = s.events := rfl
@[simp] theorem State.setReg16_memmap (s : State) (r : Reg16) (v : Word) : (s.setReg16 r v).memmap = s.memmap := rfl
@[simp] theorem State.setReg16_iomap (s : State) (r : Reg16) (v : Word) : (s.setReg16 r v).iomap = s.iomap := rfl
@[simp] theorem State.setReg16_stopOpcode (s : State) (r : Reg16) (v : Word) : (s.setReg16 r v).stopOpcode = s.stopOpcode := rfl

/-! ### setReg8 -/

@[simp] theorem State.setReg8_pc (s : State) (r : Reg8) (v : Byte) : (s.setReg8 r v).pc = s.pc := rfl
@[simp] theorem State.setReg8_pcHigh (s : State) (r : Reg8) (v : Byte) : (s.setReg8 r v).pcHigh = s.pcHigh := rfl
@[simp] theorem State.setReg8_psw (s : State) (r : Reg8) (v : Byte) : (s.setReg8 r v).psw = s.psw := rfl
@[simp] theorem State.setReg8_idb (s : State) (r : Reg8) (v : Byte) : (s.setReg8 r v).idb = s.idb := rfl
@[simp] theorem State.setReg8_area (s : State) (r : Reg8) (v : Byte) : (s.setReg8 r v).area = s.area := rfl
@[simp] theorem State.setReg8_prc (s : State) (r : Reg8) (v : Byte) : (s.setReg8 r v).prc = s.prc := rfl
@[simp] theorem State.setReg8_stbc (s : State) (r : Reg8) (v : Byte) : (s.setReg8 r v).stbc = s.stbc := rfl
@[simp] theorem State.setReg8_sfr (s : State) (r : Reg8) (v : Byte) : (s.setReg8 r v).sfr = s.sfr := rfl
@[simp] theorem State.setReg8_ext (s : State) (r : Reg8) (v : Byte) : (s.setReg8 r v).ext = s.ext := rfl
@[simp] theorem State.setReg8_queueOld (s : State) (r : Reg8) (v : Byte) : (s.setReg8 r v).queueOld = s.queueOld := rfl
@[simp] theorem State.setReg8_start (s : State) (r : Reg8) (v : Byte) : (s.setReg8 r v).start = s.start := rfl
@[simp] theorem State.setReg8_pre (s : State) (r : Reg8) (v : Byte) : (s.setReg8 r v).pre = s.pre := rfl
@[simp] theorem State.setReg8_resume (s : State) (r : Reg8) (v : Byte) : (s.setReg8 r v).resume = s.resume := rfl
@[simp] theorem State.setReg8_run (s : State) (r : Reg8) (v : Byte) : (s.setReg8 r v).run = s.run := rfl
@[simp] theorem State.setReg8_hold (s : State) (r : Reg8) (v : Byte) : (s.setReg8 r v).hold = s.hold := rfl
@[simp] theorem State.setReg8_trace (s : State) (r : Reg8) (v : Byte) : (s.setReg8 r v).trace = s.trace := rfl
@[simp] theorem State.setReg8_nmi (s : State) (r : Reg8) (v : Byte) : (s.setReg8 r v).nmi = s.nmi := rfl
@[simp] theorem State.setReg8_irq (s : State) (r : Reg8) (v : Byte) : (s.setReg8 r v).irq = s.irq := rfl
@[simp] theorem State.setReg8_resetPin (s : State) (r : Reg8) (v : Byte) : (s.setReg8 r v).resetPin = s.resetPin := rfl
@[simp] theorem State.setReg8_draws (s : State) (r : Reg8) (v : Byte) : (s.setReg8 r v).draws = s.draws := rfl
@[simp] theorem State.setReg8_events (s : State) (r : Reg8) (v : Byte) : (s.setReg8 r v).events = s.events := rfl
@[simp] theorem State.setReg8_memmap (s : State) (r : Reg8) (v : Byte) : (s.setReg8 r v).memmap = s.memmap := rfl
@[simp] theorem State.setReg8_iomap (s : State) (r : Reg8) (v : Byte) : (s.setReg8 r v).iomap = s.iomap := rfl
@[simp] theorem State.setReg8_stopOpcode (s : State) (r : Reg8) (v : Byte) : (s.setReg8 r v).stopOpcode = s.stopOpcode := rfl

/-! ### setSreg -/

@[simp] theorem State.setSreg_pc (s : State) (r : SReg) (v : Word) : (s.setSreg r v).pc = s.pc := rfl
@[simp] theorem State.setSreg_pcHigh (s : State) (r : SReg) (v : Word) : (s.setSreg r v).pcHigh = s.pcHigh := rfl
@[simp] theorem State.setSreg_psw (s : State) (r : SReg) (v : Word) : (s.setSreg r v).psw = s.psw := rfl
@[simp] theorem State.setSreg_idb (s : State) (r : SReg) (v : Word) : (s.setSreg r v).idb = s.idb := rfl
@[simp] theorem State.setSreg_area (s : State) (r : SReg) (v : Word) : (s.setSreg r v).area = s.area := rfl
@[simp] theorem State.setSreg_prc (s : State) (r : SReg) (v : Word) : (s.setSreg r v).prc = s.prc := rfl
@[simp] theorem State.setSreg_stbc (s : State) (r : SReg) (v : Word) : (s.setSreg r v).stbc = s.stbc := rfl
@[simp] theorem State.setSreg_sfr (s : State) (r : SReg) (v : Word) : (s.setSreg r v).sfr = s.sfr := rfl
@[simp] theorem State.setSreg_ext (s : State) (r : SReg) (v : Word) : (s.setSreg r v).ext = s.ext := rfl
@[simp] theorem State.setSreg_queueOld (s : State) (r : SReg) (v : Word) : (s.setSreg r v).queueOld = s.queueOld := rfl
@[simp] theorem State.setSreg_start (s : State) (r : SReg) (v : Word) : (s.setSreg r v).start = s.start := rfl
@[simp] theorem State.setSreg_pre (s : State) (r : SReg) (v : Word) : (s.setSreg r v).pre = s.pre := rfl
@[simp] theorem State.setSreg_resume (s : State) (r : SReg) (v : Word) : (s.setSreg r v).resume = s.resume := rfl
@[simp] theorem State.setSreg_run (s : State) (r : SReg) (v : Word) : (s.setSreg r v).run = s.run := rfl
@[simp] theorem State.setSreg_hold (s : State) (r : SReg) (v : Word) : (s.setSreg r v).hold = s.hold := rfl
@[simp] theorem State.setSreg_trace (s : State) (r : SReg) (v : Word) : (s.setSreg r v).trace = s.trace := rfl
@[simp] theorem State.setSreg_nmi (s : State) (r : SReg) (v : Word) : (s.setSreg r v).nmi = s.nmi := rfl
@[simp] theorem State.setSreg_irq (s : State) (r : SReg) (v : Word) : (s.setSreg r v).irq = s.irq := rfl
@[simp] theorem State.setSreg_resetPin (s : State) (r : SReg) (v : Word) : (s.setSreg r v).resetPin = s.resetPin := rfl
@[simp] theorem State.setSreg_draws (s : State) (r : SReg) (v : Word) : (s.setSreg r v).draws = s.draws := rfl
@[simp] theorem State.setSreg_events (s : State) (r : SReg) (v : Word) : (s.setSreg r v).events = s.events := rfl
@[simp] theorem State.setSreg_memmap (s : State) (r : SReg) (v : Word) : (s.setSreg r v).memmap = s.memmap := rfl
@[simp] theorem State.setSreg_iomap (s : State) (r : SReg) (v : Word) : (s.setSreg r v).iomap = s.iomap := rfl
@[simp] theorem State.setSreg_stopOpcode (s : State) (r : SReg) (v : Word) : (s.setSreg r v).stopOpcode = s.stopOpcode := rfl

/-! ### storeExt -/

@[simp] theorem State.storeExt_pc (s : State) (a : PhysAddr) (v : Byte) : (s.storeExt a v).pc = s.pc := rfl
@[simp] theorem State.storeExt_pcHigh (s : State) (a : PhysAddr) (v : Byte) : (s.storeExt a v).pcHigh = s.pcHigh := rfl
@[simp] theorem State.storeExt_psw (s : State) (a : PhysAddr) (v : Byte) : (s.storeExt a v).psw = s.psw := rfl
@[simp] theorem State.storeExt_idb (s : State) (a : PhysAddr) (v : Byte) : (s.storeExt a v).idb = s.idb := rfl
@[simp] theorem State.storeExt_area (s : State) (a : PhysAddr) (v : Byte) : (s.storeExt a v).area = s.area := rfl
@[simp] theorem State.storeExt_prc (s : State) (a : PhysAddr) (v : Byte) : (s.storeExt a v).prc = s.prc := rfl
@[simp] theorem State.storeExt_stbc (s : State) (a : PhysAddr) (v : Byte) : (s.storeExt a v).stbc = s.stbc := rfl
@[simp] theorem State.storeExt_iram (s : State) (a : PhysAddr) (v : Byte) : (s.storeExt a v).iram = s.iram := rfl
@[simp] theorem State.storeExt_sfr (s : State) (a : PhysAddr) (v : Byte) : (s.storeExt a v).sfr = s.sfr := rfl
@[simp] theorem State.storeExt_ext (s : State) (a : PhysAddr) (v : Byte) : (s.storeExt a v).ext = s.ext.write a.toNat v := rfl
@[simp] theorem State.storeExt_start (s : State) (a : PhysAddr) (v : Byte) : (s.storeExt a v).start = s.start := rfl
@[simp] theorem State.storeExt_pre (s : State) (a : PhysAddr) (v : Byte) : (s.storeExt a v).pre = s.pre := rfl
@[simp] theorem State.storeExt_resume (s : State) (a : PhysAddr) (v : Byte) : (s.storeExt a v).resume = s.resume := rfl
@[simp] theorem State.storeExt_run (s : State) (a : PhysAddr) (v : Byte) : (s.storeExt a v).run = s.run := rfl
@[simp] theorem State.storeExt_hold (s : State) (a : PhysAddr) (v : Byte) : (s.storeExt a v).hold = s.hold := rfl
@[simp] theorem State.storeExt_trace (s : State) (a : PhysAddr) (v : Byte) : (s.storeExt a v).trace = s.trace := rfl
@[simp] theorem State.storeExt_nmi (s : State) (a : PhysAddr) (v : Byte) : (s.storeExt a v).nmi = s.nmi := rfl
@[simp] theorem State.storeExt_irq (s : State) (a : PhysAddr) (v : Byte) : (s.storeExt a v).irq = s.irq := rfl
@[simp] theorem State.storeExt_resetPin (s : State) (a : PhysAddr) (v : Byte) : (s.storeExt a v).resetPin = s.resetPin := rfl
@[simp] theorem State.storeExt_draws (s : State) (a : PhysAddr) (v : Byte) : (s.storeExt a v).draws = s.draws := rfl
@[simp] theorem State.storeExt_events (s : State) (a : PhysAddr) (v : Byte) : (s.storeExt a v).events = s.events := rfl
@[simp] theorem State.storeExt_memmap (s : State) (a : PhysAddr) (v : Byte) : (s.storeExt a v).memmap = s.memmap := rfl
@[simp] theorem State.storeExt_iomap (s : State) (a : PhysAddr) (v : Byte) : (s.storeExt a v).iomap = s.iomap := rfl
@[simp] theorem State.storeExt_stopOpcode (s : State) (a : PhysAddr) (v : Byte) : (s.storeExt a v).stopOpcode = s.stopOpcode := rfl

/-! ### settle -/

@[simp] theorem State.settle_pc (s : State) : s.settle.pc = s.pc := rfl
@[simp] theorem State.settle_pcHigh (s : State) : s.settle.pcHigh = s.pcHigh := rfl
@[simp] theorem State.settle_psw (s : State) : s.settle.psw = s.psw := rfl
@[simp] theorem State.settle_idb (s : State) : s.settle.idb = s.idb := rfl
@[simp] theorem State.settle_area (s : State) : s.settle.area = s.idb := rfl
@[simp] theorem State.settle_prc (s : State) : s.settle.prc = s.prc := rfl
@[simp] theorem State.settle_stbc (s : State) : s.settle.stbc = s.stbc := rfl
@[simp] theorem State.settle_iram (s : State) : s.settle.iram = s.iram := rfl
@[simp] theorem State.settle_sfr (s : State) : s.settle.sfr = s.sfr := rfl
@[simp] theorem State.settle_ext (s : State) : s.settle.ext = s.ext := rfl
@[simp] theorem State.settle_queueOld (s : State) : s.settle.queueOld = s.queueOld := rfl
@[simp] theorem State.settle_start (s : State) : s.settle.start = s.start := rfl
@[simp] theorem State.settle_pre (s : State) : s.settle.pre = Prefixes.none := rfl
@[simp] theorem State.settle_resume (s : State) : s.settle.resume = s.resume := rfl
@[simp] theorem State.settle_run (s : State) : s.settle.run = s.run := rfl
@[simp] theorem State.settle_hold (s : State) : s.settle.hold = s.hold := rfl
@[simp] theorem State.settle_trace (s : State) : s.settle.trace = s.trace := rfl
@[simp] theorem State.settle_nmi (s : State) : s.settle.nmi = s.nmi := rfl
@[simp] theorem State.settle_irq (s : State) : s.settle.irq = s.irq := rfl
@[simp] theorem State.settle_resetPin (s : State) : s.settle.resetPin = s.resetPin := rfl
@[simp] theorem State.settle_draws (s : State) : s.settle.draws = s.draws := rfl
@[simp] theorem State.settle_events (s : State) : s.settle.events = s.events := rfl
@[simp] theorem State.settle_memmap (s : State) : s.settle.memmap = s.memmap := rfl
@[simp] theorem State.settle_iomap (s : State) : s.settle.iomap = s.iomap := rfl
@[simp] theorem State.settle_stopOpcode (s : State) : s.settle.stopOpcode = s.stopOpcode := rfl

/-! ### advancePc -/

@[simp] theorem State.advancePc_pc (s : State) (n : Nat) : (s.advancePc n).pc = s.pc + BitVec.ofNat 16 n := rfl
@[simp] theorem State.advancePc_psw (s : State) (n : Nat) : (s.advancePc n).psw = s.psw := rfl
@[simp] theorem State.advancePc_idb (s : State) (n : Nat) : (s.advancePc n).idb = s.idb := rfl
@[simp] theorem State.advancePc_area (s : State) (n : Nat) : (s.advancePc n).area = s.area := rfl
@[simp] theorem State.advancePc_prc (s : State) (n : Nat) : (s.advancePc n).prc = s.prc := rfl
@[simp] theorem State.advancePc_stbc (s : State) (n : Nat) : (s.advancePc n).stbc = s.stbc := rfl
@[simp] theorem State.advancePc_iram (s : State) (n : Nat) : (s.advancePc n).iram = s.iram := rfl
@[simp] theorem State.advancePc_sfr (s : State) (n : Nat) : (s.advancePc n).sfr = s.sfr := rfl
@[simp] theorem State.advancePc_ext (s : State) (n : Nat) : (s.advancePc n).ext = s.ext := rfl
@[simp] theorem State.advancePc_queueOld (s : State) (n : Nat) : (s.advancePc n).queueOld = s.queueOld := rfl
@[simp] theorem State.advancePc_start (s : State) (n : Nat) : (s.advancePc n).start = s.start := rfl
@[simp] theorem State.advancePc_pre (s : State) (n : Nat) : (s.advancePc n).pre = s.pre := rfl
@[simp] theorem State.advancePc_resume (s : State) (n : Nat) : (s.advancePc n).resume = s.resume := rfl
@[simp] theorem State.advancePc_run (s : State) (n : Nat) : (s.advancePc n).run = s.run := rfl
@[simp] theorem State.advancePc_hold (s : State) (n : Nat) : (s.advancePc n).hold = s.hold := rfl
@[simp] theorem State.advancePc_trace (s : State) (n : Nat) : (s.advancePc n).trace = s.trace := rfl
@[simp] theorem State.advancePc_nmi (s : State) (n : Nat) : (s.advancePc n).nmi = s.nmi := rfl
@[simp] theorem State.advancePc_irq (s : State) (n : Nat) : (s.advancePc n).irq = s.irq := rfl
@[simp] theorem State.advancePc_resetPin (s : State) (n : Nat) : (s.advancePc n).resetPin = s.resetPin := rfl
@[simp] theorem State.advancePc_draws (s : State) (n : Nat) : (s.advancePc n).draws = s.draws := rfl
@[simp] theorem State.advancePc_events (s : State) (n : Nat) : (s.advancePc n).events = s.events := rfl
@[simp] theorem State.advancePc_memmap (s : State) (n : Nat) : (s.advancePc n).memmap = s.memmap := rfl
@[simp] theorem State.advancePc_iomap (s : State) (n : Nat) : (s.advancePc n).iomap = s.iomap := rfl
@[simp] theorem State.advancePc_stopOpcode (s : State) (n : Nat) : (s.advancePc n).stopOpcode = s.stopOpcode := rfl

end Sys2Proof.Machine
end

