-- ==== Sys2Proof/Laws/Ops.lean ====
section
/-! SUPPORT. Computations over the state: how they compose, and what each primitive of `Machine/Ops.lean` can do. -/

namespace Sys2Proof.Machine

/-! ### Composition -/

section
variable {α β : Type}

@[simp] theorem M.pure_apply (a : α) (s : State) : (pure a : M α) s = .ok (a, s) := rfl
@[simp] theorem M.reads_apply (f : State → α) (s : State) : reads f s = .ok (f s, s) := rfl
@[simp] theorem M.update_apply (f : State → State) (s : State) : update f s = .ok ((), f s) := rfl
@[simp] theorem M.faults_apply (f : Fault) (s : State) : (faults f : M α) s = .error (.fault f) := rfl
@[simp] theorem M.refuses_apply (r : Refusal) (s : State) : (refuses r : M α) s = .error (.refused r) := rfl

@[simp] theorem M.draw_apply (s : State) : draw s = .ok (Config.freeWord s.draws, s.withDraws (s.draws + 1)) := rfl

@[simp] theorem M.drawByte_apply (s : State) :
    drawByte s = .ok ((Config.freeWord s.draws).extractLsb' 0 8, s.withDraws (s.draws + 1)) := rfl

theorem M.bind_apply (x : M α) (f : α → M β) (s : State) :
    (x >>= f) s = match x s with
      | .ok (a, t) => f a t
      | .error e => .error e := by
  show (x s >>= fun p => f p.1 p.2) = _
  cases x s <;> rfl

/-- A computation whose first part is known goes on from what that part left. -/
theorem M.bind_of_ok {x : M α} {f : α → M β} {s t : State} {a : α} (h : x s = .ok (a, t)) : (x >>= f) s = f a t := by
  rw [M.bind_apply, h]

@[simp] theorem M.bind_reads (g : State → α) (f : α → M β) (s : State) : (reads g >>= f) s = f (g s) s := rfl
@[simp] theorem M.bind_update (g : State → State) (f : Unit → M β) (s : State) : (update g >>= f) s = f () (g s) := rfl
@[simp] theorem M.bind_pure (a : α) (f : α → M β) (s : State) : ((pure a : M α) >>= f) s = f a s := rfl
@[simp] theorem M.bind_draw (f : Word → M β) (s : State) :
    (draw >>= f) s = f (Config.freeWord s.draws) (s.withDraws (s.draws + 1)) := rfl
@[simp] theorem M.bind_drawByte (f : Byte → M β) (s : State) :
    (drawByte >>= f) s = f ((Config.freeWord s.draws).extractLsb' 0 8) (s.withDraws (s.draws + 1)) := rfl

/-- A composed computation that succeeds is two that do. -/
theorem M.bind_ok {x : M α} {f : α → M β} {s u : State} {b : β} :
    (x >>= f) s = .ok (b, u) ↔ ∃ a t, x s = .ok (a, t) ∧ f a t = .ok (b, u) := by
  rw [M.bind_apply]
  cases h : x s with
  | error e => simp
  | ok p => obtain ⟨a, t⟩ := p; simp

theorem M.ite_apply (c : Prop) [Decidable c] (x y : M α) (s : State) : (if c then x else y) s = if c then x s else y s := by
  split <;> rfl

end

theorem act_of_ok {x : M Unit} {s t : State} (h : x s = .ok ((), t)) : act x s = .next t := by
  simp [act, h]

@[simp] theorem act_eq_next {x : M Unit} {s t : State} : act x s = .next t ↔ x s = .ok ((), t) := by
  constructor
  · intro h
    unfold act at h
    split at h
    · next u hu => cases h; exact hu
    · cases h
    · cases h
  · exact act_of_ok

theorem act_bind_reads {α : Type} (g : State → α) (f : α → M Unit) (s : State) : act (reads g >>= f) s = act (f (g s)) s := rfl

theorem act_bind_update (g : State → State) (f : Unit → M Unit) (s : State) : act (update g >>= f) s = act (f ()) (g s) := rfl

/-! ### Frames compose -/

theorem Frame.refl (s : State) (regs : List Nat) (mask : Word) (loaded stored : List PhysAddr) :
    Frame s s regs mask loaded stored := by
  constructor <;> intros <;> rfl

theorem Frame.mono {s t : State} {regs regs' : List Nat} {mask mask' : Word} {loaded loaded' stored stored' : List PhysAddr}
    (h : Frame s t regs mask loaded stored) (hr : regs ⊆ regs') (hm : mask &&& mask' = mask) (hl : loaded ⊆ loaded')
    (hs : stored ⊆ stored') : Frame s t regs' mask' loaded' stored' where
  iram k hk hks := h.iram k (fun e => hk (hr e)) (fun e => hks (hs e))
  ext a ha := h.ext a (fun e => ha (hs e))
  psw i hi hmi hf := h.psw i hi (by rw [← hm]; simp [hmi]) (fun e c => hf e (hs c))
  idb h1 h2 := h.idb (fun e => h1 (hs e)) (fun e => h2 (hs e))
  prc h1 := h.prc (fun e => h1 (hs e))
  stbc h1 := h.stbc (fun e => h1 (hs e))
  sfr o h1 h2 := h.sfr o (fun e => h1 (hl e)) (fun e => h2 (hs e))
  area := h.area
  nmi := h.nmi
  irq := h.irq
  resetPin := h.resetPin
  memmap := h.memmap
  iomap := h.iomap
  stopOpcode := h.stopOpcode

theorem Frame.trans {s t u : State} {regs : List Nat} {mask : Word} {loaded stored : List PhysAddr}
    (h : Frame s t regs mask loaded stored) (g : Frame t u regs mask loaded stored) : Frame s u regs mask loaded stored where
  iram k hk hs := by
    rw [← h.iram k hk hs]; exact g.iram k hk (by simpa [State.iramAddr, h.area] using hs)
  ext a ha := by rw [← h.ext a ha]; exact g.ext a ha
  psw i hi hm hf := by
    rw [← h.psw i hi hm hf]; exact g.psw i hi hm (by simpa [State.sfrAddr, h.area] using hf)
  idb h1 h2 := by rw [← h.idb h1 h2]; exact g.idb h1 (by simpa [State.sfrAddr, h.area] using h2)
  prc h1 := by rw [← h.prc h1]; exact g.prc (by simpa [State.sfrAddr, h.area] using h1)
  stbc h1 := by rw [← h.stbc h1]; exact g.stbc (by simpa [State.sfrAddr, h.area] using h1)
  sfr o h1 h2 := by
    rw [← h.sfr o h1 h2]
    exact g.sfr o (by simpa [State.sfrAddr, h.area] using h1) (by simpa [State.sfrAddr, h.area] using h2)
  area := g.area.trans h.area
  nmi := g.nmi.trans h.nmi
  irq := g.irq.trans h.irq
  resetPin := g.resetPin.trans h.resetPin
  memmap := g.memmap.trans h.memmap
  iomap := g.iomap.trans h.iomap
  stopOpcode := g.stopOpcode.trans h.stopOpcode

theorem Quiet.refl (s : State) : Quiet s s := ⟨rfl, rfl, rfl, rfl, rfl⟩

theorem Quiet.trans {s t u : State} (h : Quiet s t) (g : Quiet t u) : Quiet s u :=
  ⟨g.run.trans h.run, g.hold.trans h.hold, g.trace.trans h.trace, g.pre.trans h.pre, g.resume.trans h.resume⟩

/-! ### Bits -/

theorem getLsbD_merge {w : Nat} (old mask new : BitVec w) {i : Nat} (hi : i < w) :
    (merge old mask new).getLsbD i = if mask.getLsbD i then new.getLsbD i else old.getLsbD i := by
  simp only [merge, BitVec.getLsbD_or, BitVec.getLsbD_and, BitVec.getLsbD_not]
  cases mask.getLsbD i <;> simp [hi]

theorem getLsbD_putBit {w : Nat} (x : BitVec w) (i j : Nat) (b : Bool) (hj : j < w) :
    (putBit x i b).getLsbD j = if i = j then b else x.getLsbD j := by
  have h1 : (1#w <<< i).getLsbD j = decide (i = j) := by
    by_cases h : i = j
    · subst h; simp [hj]
    · by_cases hl : j < i
      · simp [BitVec.getLsbD_shiftLeft, hl, h]
      · have : j - i ≠ 0 := by omega
        simp [BitVec.getLsbD_shiftLeft, hl, h, this, BitVec.getLsbD_one]
  unfold putBit
  cases b
  · simp only [Bool.false_eq_true, if_false, BitVec.getLsbD_and, BitVec.getLsbD_not, h1, hj]
    by_cases h : i = j <;> simp [h]
  · simp only [if_true, BitVec.getLsbD_or, h1]
    by_cases h : i = j <;> simp [h]

/-- A status update changes the bits of its mask alone. -/
theorem frame_setStatus (s : State) (mask status : Word) : Frame s (s.setStatus mask status) [] mask [] [] := by
  constructor <;> intros <;> try rfl
  next i hi hm _ =>
    show (merge s.psw mask status).getLsbD i = _
    rw [getLsbD_merge _ _ _ hi, hm]; rfl

theorem quiet_setStatus (s : State) (mask status : Word) : Quiet s (s.setStatus mask status) := ⟨rfl, rfl, rfl, rfl, rfl⟩

theorem frame_withDraws (s : State) (n : Nat) : Frame s (s.withDraws n) [] 0 [] [] := by
  constructor <;> intros <;> rfl

theorem quiet_withDraws (s : State) (n : Nat) : Quiet s (s.withDraws n) := ⟨rfl, rfl, rfl, rfl, rfl⟩

/-- A write of register cells changes those cells alone. -/
theorem frame_withIram (s : State) (m : Memory) (regs : List Nat)
    (h : ∀ k : Byte, k.toNat ∉ regs → m.read k.toNat = s.iram.read k.toNat) : Frame s (s.withIram m) regs 0 [] [] := by
  constructor <;> intros <;> try rfl
  next k hk _ => exact h k hk

end Sys2Proof.Machine
end

