-- ==== Sys2Proof/Laws/Access.lean ====
section
/-! SUPPORT. Data access: what a read and a write of a byte or a word can do, and when they complete. -/

namespace Sys2Proof.Machine

/-! ### Targets (R110, R113) -/

theorem addr_split (a : PhysAddr) : a = a.extractLsb' 12 8 ++ a.extractLsb' 8 4 ++ a.extractLsb' 0 8 := by
  apply BitVec.eq_of_getLsbD_eq
  intro i hi
  simp only [BitVec.getLsbD_append, BitVec.getLsbD_extractLsb']
  by_cases h8 : i < 8
  · simp [h8]
  · by_cases h12 : i - 8 < 4
    · have : 8 + (i - 8) = i := by omega
      simp [h8, h12, this]
    · have : 12 + (i - 8 - 4) = i := by omega
      have h3 : i - 8 - 4 < 8 := by omega
      simp [h8, h12, this, h3]

theorem addr_area (x : Byte) (y : BitVec 4) (z : Byte) : (x ++ y ++ z : PhysAddr).extractLsb' 12 8 = x := by
  apply BitVec.eq_of_getLsbD_eq
  intro i hi
  have h1 : ¬ 12 + i < 8 := by omega
  have h2 : ¬ 12 + i - 8 < 4 := by omega
  have h3 : 12 + i - 8 - 4 = i := by omega
  simp only [BitVec.getLsbD_extractLsb', BitVec.getLsbD_append, hi, h1, h2, h3, decide_true, Bool.true_and, if_false]

theorem addr_page (x : Byte) (y : BitVec 4) (z : Byte) : (x ++ y ++ z : PhysAddr).extractLsb' 8 4 = y := by
  apply BitVec.eq_of_getLsbD_eq
  intro i hi
  have h1 : ¬ 8 + i < 8 := by omega
  have h2 : 8 + i - 8 < 4 := by omega
  have h3 : 8 + i - 8 = i := by omega
  simp only [BitVec.getLsbD_extractLsb', BitVec.getLsbD_append, hi, h1, h3, decide_true, Bool.true_and, if_true, if_false]

theorem addr_offset (x : Byte) (y : BitVec 4) (z : Byte) : (x ++ y ++ z : PhysAddr).extractLsb' 0 8 = z := by
  apply BitVec.eq_of_getLsbD_eq
  intro i hi
  have h1 : 0 + i < 8 := by omega
  simp only [BitVec.getLsbD_extractLsb', BitVec.getLsbD_append, hi, h1, decide_true, Bool.true_and, if_true]
  simp

@[simp] theorem State.sfrAddr_offset (s : State) (o : Byte) : (s.sfrAddr o).extractLsb' 0 8 = o := addr_offset _ _ _
@[simp] theorem State.iramAddr_offset (s : State) (o : Byte) : (s.iramAddr o).extractLsb' 0 8 = o := addr_offset _ _ _

theorem State.inSfr_iff (s : State) (a : PhysAddr) : s.inSfr a = true ↔ a = s.sfrAddr (a.extractLsb' 0 8) := by
  constructor
  · intro h
    simp only [State.inSfr, Bool.and_eq_true, beq_iff_eq] at h
    conv => lhs; rw [addr_split a, h.1, h.2]
    rfl
  · intro h
    rw [h]
    simp [State.inSfr, State.sfrAddr, addr_area, addr_page]

theorem State.inIram_iff (s : State) (a : PhysAddr) : s.inIram a = true ↔ a = s.iramAddr (a.extractLsb' 0 8) := by
  constructor
  · intro h
    simp only [State.inIram, Bool.and_eq_true, beq_iff_eq] at h
    conv => lhs; rw [addr_split a, h.1, h.2]
    rfl
  · intro h
    rw [h]
    simp [State.inIram, State.iramAddr, addr_area, addr_page]

theorem State.target_idbReg {s : State} {a : PhysAddr} (h : s.target a = .idbReg) : a = 0xFFFFF#20 := by
  unfold State.target at h; split at h
  · assumption
  · split at h
    · cases h
    · split at h <;> cases h

theorem State.target_sfr {s : State} {a : PhysAddr} {o : Byte} (h : s.target a = .sfr o) : a = s.sfrAddr o := by
  unfold State.target at h; split at h
  · cases h
  · split at h
    · next hs => cases h; exact (State.inSfr_iff s a).1 hs
    · split at h <;> cases h

theorem State.target_iram {s : State} {a : PhysAddr} {o : Byte} (h : s.target a = .iram o) : a = s.iramAddr o := by
  unfold State.target at h; split at h
  · cases h
  · split at h
    · cases h
    · split at h
      · next hs => cases h; exact (State.inIram_iff s a).1 (by simpa using (Bool.and_eq_true _ _ ▸ hs).1)
      · cases h

/-! ### What decides whether an access completes -/

/-- Two states agree on where accesses go. -/
structure SameMap (s t : State) : Prop where
  area : t.area = s.area
  prc : t.prc = s.prc
  memmap : t.memmap = s.memmap

theorem SameMap.refl (s : State) : SameMap s s := ⟨rfl, rfl, rfl⟩

theorem SameMap.trans {s t u : State} (h : SameMap s t) (g : SameMap t u) : SameMap s u :=
  ⟨g.area.trans h.area, g.prc.trans h.prc, g.memmap.trans h.memmap⟩

theorem SameMap.inSfr {s t : State} (h : SameMap s t) (a : PhysAddr) : t.inSfr a = s.inSfr a := by
  simp [State.inSfr, h.area]

theorem SameMap.target {s t : State} (h : SameMap s t) (a : PhysAddr) : t.target a = s.target a := by
  simp [State.target, State.inSfr, State.inIram, State.ramen, h.area, h.prc]

theorem SameMap.kindAt {s t : State} (h : SameMap s t) (a : PhysAddr) : t.kindAt a = s.kindAt a := by
  simp [State.kindAt, h.memmap]

theorem SameMap.memAt {s t : State} (h : SameMap s t) (a : PhysAddr) : t.memAt a = s.memAt a := by
  simp [State.memAt, h.target, h.kindAt]

theorem SameMap.ramAt {s t : State} (h : SameMap s t) (a : PhysAddr) : t.ramAt a = s.ramAt a := by
  simp [State.ramAt, h.target, h.kindAt]

theorem SameMap.byteOk {s t : State} (h : SameMap s t) (a : PhysAddr) : t.byteOk a = s.byteOk a := by
  simp [State.byteOk, h.target, h.memAt]

theorem SameMap.wordOk {s t : State} (h : SameMap s t) (a : PhysAddr) : t.wordOk a = s.wordOk a := by
  simp [State.wordOk, State.isSfrWord, h.inSfr, h.byteOk]

/-! ### Reading a byte -/

/-- A read changes nothing but the record of peripherals: their registers' last values, the events, the free values. -/
def ReadOnly (s t : State) : Prop := ∃ m e n, t = { s with sfr := m, events := e, draws := n }

theorem ReadOnly.refl (s : State) : ReadOnly s s := ⟨s.sfr, s.events, s.draws, rfl⟩

theorem ReadOnly.trans {s t u : State} (h : ReadOnly s t) (g : ReadOnly t u) : ReadOnly s u := by
  obtain ⟨m, e, n, rfl⟩ := h
  obtain ⟨m', e', n', rfl⟩ := g
  exact ⟨m', e', n', rfl⟩

theorem ReadOnly.sameMap {s t : State} (h : ReadOnly s t) : SameMap s t := by
  obtain ⟨m, e, n, rfl⟩ := h; exact ⟨rfl, rfl, rfl⟩

theorem ReadOnly.quiet {s t : State} (h : ReadOnly s t) : Quiet s t := by
  obtain ⟨m, e, n, rfl⟩ := h; exact ⟨rfl, rfl, rfl, rfl, rfl⟩

theorem ReadOnly.reg16 {s t : State} (h : ReadOnly s t) (r : Reg16) : t.reg16 r = s.reg16 r := by
  obtain ⟨m, e, n, rfl⟩ := h; rfl

theorem ReadOnly.reg8 {s t : State} (h : ReadOnly s t) (r : Reg8) : t.reg8 r = s.reg8 r := by
  obtain ⟨m, e, n, rfl⟩ := h; rfl

theorem ReadOnly.sreg {s t : State} (h : ReadOnly s t) (r : SReg) : t.sreg r = s.sreg r := by
  obtain ⟨m, e, n, rfl⟩ := h; rfl

theorem ReadOnly.psw {s t : State} (h : ReadOnly s t) : t.psw = s.psw := by
  obtain ⟨m, e, n, rfl⟩ := h; rfl

theorem ReadOnly.pc {s t : State} (h : ReadOnly s t) : t.pc = s.pc := by
  obtain ⟨m, e, n, rfl⟩ := h; rfl

theorem ReadOnly.pre {s t : State} (h : ReadOnly s t) : t.pre = s.pre := by
  obtain ⟨m, e, n, rfl⟩ := h; rfl

theorem ReadOnly.bank {s t : State} (h : ReadOnly s t) : t.bank = s.bank := by
  obtain ⟨m, e, n, rfl⟩ := h; rfl

theorem ReadOnly.flag {s t : State} (h : ReadOnly s t) (f : Flag) : t.flag f = s.flag f := by
  obtain ⟨m, e, n, rfl⟩ := h; rfl

/-- A read-only change frames everything but the peripheral registers. -/
theorem ReadOnly.frame {s t : State} (h : ReadOnly s t) {loaded : List PhysAddr}
    (hs : ∀ o : Byte, s.sfrAddr o ∉ loaded → t.sfr.read o.toNat = s.sfr.read o.toNat) :
    Frame s t [] 0 loaded [] := by
  obtain ⟨m, e, n, rfl⟩ := h
  constructor <;> intros <;> try rfl
  next o ho _ => exact hs o ho

/-- A byte read of an SFR completes unless it is reachable by words only; it changes at most the register read. -/
theorem readSfr_spec (o : Byte) (s : State) (h : sfrByteKind o ≠ .wordOnly) : ∃ v t, readSfr o s = .ok (v, t) ∧
    ReadOnly s t ∧ ∀ p : Byte, p ≠ o → t.sfr.read p.toNat = s.sfr.read p.toNat := by
  unfold readSfr
  split
  · exact ⟨_, _, rfl, .refl s, fun _ _ => rfl⟩
  split
  · exact ⟨_, _, rfl, .refl s, fun _ _ => rfl⟩
  split
  · exact ⟨_, _, rfl, ⟨_, _, _, rfl⟩, fun _ _ => rfl⟩
  split
  · exact ⟨_, _, rfl, ⟨_, _, _, rfl⟩, fun _ _ => rfl⟩
  have peripheral : ∃ v t, readPeripheral o s = .ok (v, t) ∧ ReadOnly s t ∧
      ∀ p : Byte, p ≠ o → t.sfr.read p.toNat = s.sfr.read p.toNat :=
    ⟨_, _, rfl, ⟨_, _, _, rfl⟩, fun p hp => Memory.read_write_other _ _ fun e => hp (BitVec.eq_of_toNat_eq e.symm)⟩
  have free : ∃ v t, drawByte s = .ok (v, t) ∧ ReadOnly s t ∧
      ∀ p : Byte, p ≠ o → t.sfr.read p.toNat = s.sfr.read p.toNat := ⟨_, _, rfl, ⟨_, _, _, rfl⟩, fun _ _ => rfl⟩
  cases hk : sfrByteKind o with
  | wordOnly => contradiction
  | reserved => exact free
  | register access =>
    cases access with
    | writeOnly => exact free
    | readOnly => exact peripheral
    | readWrite => exact peripheral

theorem readSfr_wordOnly {o : Byte} (h : sfrByteKind o = .wordOnly) (s : State) :
    readSfr o s = .error (.fault .sfrAccessUnit) := by
  have h1 : o ≠ sfrIdb := by rintro rfl; revert h; decide
  have h2 : o ≠ sfrPrc := by rintro rfl; revert h; decide
  have h3 : o ≠ sfrFlag := by rintro rfl; revert h; decide
  have h4 : o ≠ sfrStbc := by rintro rfl; revert h; decide
  simp [readSfr, h1, h2, h3, h4, h]

/-- A read of external memory completes exactly on a mapped address that is not reserved, and changes nothing. -/
theorem readExt_spec {s : State} {a : PhysAddr} (ht : s.target a = .ext) : s.memAt a = true ∧ readExt a s = .ok (s.ext.read a.toNat, s) ∨
    s.memAt a = false ∧ ∃ e, readExt a s = .error e := by
  unfold readExt State.memAt
  cases hr : reservedData a
  · cases hk : s.kindAt a with
    | none => right; simp [ht]
    | some k => left; simp [ht]
  · right; simp

/-- A byte read completes exactly where `byteOk` says so. -/
theorem readByte_spec (a : PhysAddr) (s : State) :
    (s.byteOk a = true ∧ ∃ v t, readByte a s = .ok (v, t) ∧ ReadOnly s t ∧ Frame s t [] 0 [a] []) ∨
    (s.byteOk a = false ∧ ∃ e, readByte a s = .error e) := by
  simp only [readByte, M.bind_reads, State.byteOk]
  cases ht : s.target a with
  | idbReg => exact .inl ⟨rfl, _, _, rfl, .refl s, .refl s _ _ _ _⟩
  | iram o => exact .inl ⟨rfl, _, _, rfl, .refl s, .refl s _ _ _ _⟩
  | ext =>
    rcases readExt_spec ht with ⟨h1, h2⟩ | ⟨h1, h2⟩
    · exact .inl ⟨h1, _, _, h2, .refl s, .refl s _ _ _ _⟩
    · exact .inr ⟨h1, h2⟩
  | sfr o =>
    by_cases hk : sfrByteKind o = .wordOnly
    · exact .inr ⟨by simp [hk], _, readSfr_wordOnly hk s⟩
    · obtain ⟨v, t, h, hro, hs⟩ := readSfr_spec o s hk
      refine .inl ⟨by simpa using hk, v, t, h, hro, hro.frame fun p hp => hs p ?_⟩
      rintro rfl
      exact hp (by simp [State.target_sfr ht])

theorem readByte_of_ok {a : PhysAddr} {s : State} (h : s.byteOk a = true) :
    ∃ v t, readByte a s = .ok (v, t) ∧ ReadOnly s t := by
  rcases readByte_spec a s with ⟨_, v, t, h1, h2, _⟩ | ⟨h', _⟩
  · exact ⟨v, t, h1, h2⟩
  · simp [h] at h'

theorem readByte_frame {a : PhysAddr} {s t : State} {v : Byte} (h : readByte a s = .ok (v, t)) :
    ReadOnly s t ∧ Frame s t [] 0 [a] [] := by
  rcases readByte_spec a s with ⟨_, v', t', h1, h2⟩ | ⟨_, e, h'⟩
  · rw [h] at h1; cases h1; exact h2
  · rw [h] at h'; cases h'

/-! ### Writing a byte -/

/-- A byte write changes the PSW only through FLAG, and neither standby nor what is due. -/
theorem writeSfr_spec (o : Byte) (v : Byte) (s : State) (h : sfrByteKind o ≠ .wordOnly) : ∃ t, writeSfr o v s = .ok ((), t) ∧
    Quiet s t ∧ Frame s t [] 0 [] [s.sfrAddr o] ∧ (o ≠ sfrPrc → t.prc = s.prc) := by
  unfold writeSfr
  split
  · next e =>
    subst e
    refine ⟨_, rfl, ⟨rfl, rfl, rfl, rfl, rfl⟩, ?_, fun _ => rfl⟩
    constructor <;> intros <;> first | rfl | simp_all
  split
  · next e =>
    subst e
    refine ⟨_, rfl, ⟨rfl, rfl, rfl, rfl, rfl⟩, ?_, fun h => absurd rfl h⟩
    constructor <;> intros <;> first | rfl | simp_all
  split
  · next e =>
    subst e
    refine ⟨_, rfl, ⟨rfl, rfl, rfl, rfl, rfl⟩, ?_, fun _ => rfl⟩
    constructor <;> intros <;> try rfl
    next i hi _ hf =>
      show (merge s.psw (maskFlag.setWidth 16) (v.setWidth 16)).getLsbD i = _
      rw [getLsbD_merge _ _ _ hi, if_neg]
      intro hm
      have : ∀ i : Fin 16, (maskFlag.setWidth 16 : Word).getLsbD i = true → i.val = 3 ∨ i.val = 5 := by decide
      exact hf (this ⟨i, hi⟩ hm) (by simp)
  split
  · next e =>
    subst e
    refine ⟨_, rfl, ⟨rfl, rfl, rfl, rfl, rfl⟩, ?_, fun _ => rfl⟩
    constructor <;> intros <;> first | rfl | simp_all
  have peripheral : ∃ t, writePeripheral o v s = .ok ((), t) ∧ Quiet s t ∧ Frame s t [] 0 [] [s.sfrAddr o] ∧
      (o ≠ sfrPrc → t.prc = s.prc) := by
    refine ⟨_, rfl, ⟨rfl, rfl, rfl, rfl, rfl⟩, ?_, fun _ => rfl⟩
    constructor <;> intros <;> try rfl
    next p _ hp =>
      exact Memory.read_write_other _ _ fun e => hp (by simp [BitVec.eq_of_toNat_eq e.symm])
  have nothing : ∃ t, (pure () : M Unit) s = .ok ((), t) ∧ Quiet s t ∧ Frame s t [] 0 [] [s.sfrAddr o] ∧
      (o ≠ sfrPrc → t.prc = s.prc) := ⟨s, rfl, .refl s, .refl s _ _ _ _, fun _ => rfl⟩
  cases hk : sfrByteKind o with
  | wordOnly => contradiction
  | reserved => exact nothing
  | register access =>
    cases access with
    | writeOnly => exact peripheral
    | readOnly => exact nothing
    | readWrite => exact peripheral

theorem writeSfr_wordOnly {o : Byte} (h : sfrByteKind o = .wordOnly) (v : Byte) (s : State) :
    writeSfr o v s = .error (.fault .sfrAccessUnit) := by
  have h1 : o ≠ sfrIdb := by rintro rfl; revert h; decide
  have h2 : o ≠ sfrPrc := by rintro rfl; revert h; decide
  have h3 : o ≠ sfrFlag := by rintro rfl; revert h; decide
  have h4 : o ≠ sfrStbc := by rintro rfl; revert h; decide
  simp [writeSfr, h1, h2, h3, h4, h]

theorem frame_storeExt (s : State) (a : PhysAddr) (v : Byte) : Frame s (s.storeExt a v) [] 0 [] [a] := by
  constructor <;> intros <;> try rfl
  next b hb => exact Memory.read_write_other _ _ fun e => hb (by simp [BitVec.eq_of_toNat_eq e.symm])

theorem writeExt_spec {s : State} {a : PhysAddr} (v : Byte) (ht : s.target a = .ext) :
    (s.memAt a = true ∧ ∃ t, writeExt a v s = .ok ((), t) ∧ Quiet s t ∧ SameMap s t ∧ Frame s t [] 0 [] [a]) ∨
    (s.memAt a = false ∧ ∃ e, writeExt a v s = .error e) := by
  unfold writeExt State.memAt
  cases hr : reservedData a
  · cases hk : s.kindAt a with
    | none => right; simp [ht]
    | some k =>
      left
      refine ⟨by simp [ht], ?_⟩
      cases k with
      | rom => exact ⟨_, rfl, ⟨rfl, rfl, rfl, rfl, rfl⟩, ⟨rfl, rfl, rfl⟩, by constructor <;> intros <;> rfl⟩
      | ram => exact ⟨_, rfl, ⟨rfl, rfl, rfl, rfl, rfl⟩, ⟨rfl, rfl, rfl⟩, frame_storeExt s a v⟩
  · right; simp

/-- A byte write completes exactly where `byteOk` says so; it changes the byte's cell alone, and PRC only at PRC's own
address. -/
theorem writeByte_spec (a : PhysAddr) (v : Byte) (s : State) :
    (s.byteOk a = true ∧ ∃ t, writeByte a v s = .ok ((), t) ∧ Quiet s t ∧ Frame s t [] 0 [] [a] ∧
      (a ≠ s.sfrAddr sfrPrc → t.prc = s.prc)) ∨
    (s.byteOk a = false ∧ ∃ e, writeByte a v s = .error e) := by
  simp only [writeByte, M.bind_reads, State.byteOk]
  cases ht : s.target a with
  | idbReg =>
    refine .inl ⟨rfl, _, rfl, ⟨rfl, rfl, rfl, rfl, rfl⟩, ?_, fun _ => rfl⟩
    have := State.target_idbReg ht
    subst this
    constructor <;> intros <;> first | rfl | simp_all
  | iram o =>
    refine .inl ⟨rfl, _, rfl, ⟨rfl, rfl, rfl, rfl, rfl⟩, ?_, fun _ => rfl⟩
    constructor <;> intros <;> try rfl
    next k _ hk =>
      refine Memory.read_write_other _ _ fun e => hk ?_
      rw [State.target_iram ht, BitVec.eq_of_toNat_eq e]; simp
  | ext =>
    rcases writeExt_spec v ht with ⟨h1, t, h2, h3, h4, h5⟩ | h
    · exact .inl ⟨h1, t, h2, h3, h5, fun _ => h4.prc⟩
    · exact .inr h
  | sfr o =>
    by_cases hk : sfrByteKind o = .wordOnly
    · exact .inr ⟨by simp [hk], _, writeSfr_wordOnly hk v s⟩
    · obtain ⟨t, h, hq, hf, hp⟩ := writeSfr_spec o v s hk
      rw [← State.target_sfr ht] at hf
      refine .inl ⟨by simpa using hk, t, h, hq, hf, fun hne => hp ?_⟩
      rintro rfl
      exact hne (State.target_sfr ht)

theorem writeByte_of_ok {a : PhysAddr} {s : State} (h : s.byteOk a = true) (v : Byte) :
    ∃ t, writeByte a v s = .ok ((), t) := by
  rcases writeByte_spec a v s with ⟨_, t, h1, _⟩ | ⟨h', _⟩
  · exact ⟨t, h1⟩
  · simp [h] at h'

theorem writeByte_frame {a : PhysAddr} {v : Byte} {s t : State} (h : writeByte a v s = .ok ((), t)) :
    Quiet s t ∧ Frame s t [] 0 [] [a] ∧ (a ≠ s.sfrAddr sfrPrc → t.prc = s.prc) := by
  rcases writeByte_spec a v s with ⟨_, t', h1, h2⟩ | ⟨_, e, h'⟩
  · rw [h] at h1; cases h1; exact h2
  · rw [h] at h'; cases h'

/-- The next byte's target does not depend on a write to the byte before it. -/
theorem writeByte_target_next {a : PhysAddr} {v : Byte} {s t : State} (h : writeByte a v s = .ok ((), t)) :
    t.target (a + 1) = s.target (a + 1) := by
  obtain ⟨_, hf, hp⟩ := writeByte_frame h
  by_cases ha : a = s.sfrAddr sfrPrc
  · have h1 : a + 1 = s.sfrAddr 0xEC := by
      rw [ha]; unfold State.sfrAddr
      generalize s.area = x
      revert x; decide
    have h2 : s.inSfr (a + 1) = true := (State.inSfr_iff _ _).2 (by rw [h1]; simp)
    have h3 : t.inSfr (a + 1) = true := by simpa [State.inSfr, hf.area] using h2
    simp only [State.target, h2, h3, if_true]
  · exact SameMap.target ⟨hf.area, hp ha, hf.memmap⟩ _

theorem writeByte_byteOk_next {a : PhysAddr} {v : Byte} {s t : State} (h : writeByte a v s = .ok ((), t)) :
    t.byteOk (a + 1) = s.byteOk (a + 1) := by
  have h1 := writeByte_target_next h
  have h2 : t.kindAt (a + 1) = s.kindAt (a + 1) := by simp [State.kindAt, (writeByte_frame h).2.1.memmap]
  simp only [State.byteOk, State.memAt, h1, h2]

/-! ### Words -/

theorem sfr16_next {s : State} {a : PhysAddr} (h : s.isSfrWord a = true) :
    a = s.sfrAddr (a.extractLsb' 0 8) ∧ a + 1 = s.sfrAddr (a.extractLsb' 0 8 + 1) := by
  simp only [State.isSfrWord, Bool.and_eq_true] at h
  have h1 := (State.inSfr_iff s a).1 h.1
  refine ⟨h1, ?_⟩
  have : ∀ o : Byte, sfr16 o = true → ∀ x : Byte, (x ++ 0xF#4 ++ o : PhysAddr) + 1 = x ++ 0xF#4 ++ (o + 1) := by
    intro o ho x
    have ho' : o.toNat < 255 := by
      revert o; decide
    apply BitVec.eq_of_toNat_eq
    have e1 : ∀ p q : Nat, q < 256 → p <<< 8 ||| q = p * 256 + q := by
      intro p q hq
      rw [Nat.shiftLeft_eq, Nat.mul_comm, ← Nat.two_pow_add_eq_or_of_lt hq, Nat.mul_comm]
    have e2 : x.toNat <<< 4 ||| 15 = x.toNat * 16 + 15 := by
      rw [Nat.shiftLeft_eq, Nat.mul_comm, ← Nat.two_pow_add_eq_or_of_lt (by decide), Nat.mul_comm]
    have hx := x.isLt
    have ho : (o + 1).toNat = o.toNat + 1 := by
      rw [BitVec.toNat_add]; exact Nat.mod_eq_of_lt (by show o.toNat + 1 < 256; omega)
    rw [BitVec.toNat_add]
    simp only [BitVec.toNat_append, ho]
    rw [e1 _ _ o.isLt, e1 _ _ (by omega)]
    show ((x.toNat <<< 4 ||| 15) * 256 + o.toNat + 1) % 1048576 = (x.toNat <<< 4 ||| 15) * 256 + (o.toNat + 1)
    rw [e2]
    omega
  conv => lhs; rw [h1]
  exact this _ h.2 _

theorem frame_sfrWord (s : State) {a : PhysAddr} (h : s.isSfrWord a = true) (x y : Byte) (e : Event) (n : Nat)
    (loaded stored : List PhysAddr) (hl : [a, a + 1] ⊆ loaded ++ stored) :
    Frame s { s with
      sfr := (s.sfr.write (a.extractLsb' 0 8).toNat x).write (a.extractLsb' 0 8 + 1).toNat y
      events := e :: s.events
      draws := n } [] 0 loaded stored := by
  obtain ⟨h1, h2⟩ := sfr16_next h
  constructor <;> intros <;> try rfl
  next o hol hos =>
    show Memory.read (Memory.write (Memory.write _ _ _) _ _) _ = _
    have hm : ∀ b ∈ [a, a + 1], b ≠ s.sfrAddr o := by
      intro b hb e
      rcases List.mem_append.1 (hl hb) with h | h
      · exact hol (e ▸ h)
      · exact hos (e ▸ h)
    rw [Memory.read_write_other, Memory.read_write_other]
    · intro e
      exact hm a (by simp) (by rw [← BitVec.eq_of_toNat_eq e]; exact h1)
    · intro e
      exact hm (a + 1) (by simp) (by rw [← BitVec.eq_of_toNat_eq e]; exact h2)

/-- A word read completes exactly where `wordOk` says so, and is read-only. -/
theorem readWord_spec (a : PhysAddr) (s : State) :
    (s.wordOk a = true ∧ ∃ v t, readWord a s = .ok (v, t) ∧ ReadOnly s t ∧ Frame s t [] 0 [a, a + 1] []) ∨
    (s.wordOk a = false ∧ ∃ e, readWord a s = .error e) := by
  unfold readWord State.wordOk
  rw [M.bind_reads]
  cases hw : s.isSfrWord a
  · simp only [Bool.false_or, Bool.false_eq_true, if_false]
    rcases readByte_spec a s with ⟨h1, v, t, h2, h3, h4⟩ | ⟨h1, e, h2⟩
    · rw [M.bind_of_ok h2]
      rcases readByte_spec (a + 1) t with ⟨g1, v', t', g2, g3, g4⟩ | ⟨g1, e, g2⟩
      · rw [M.bind_of_ok g2]
        refine .inl ⟨by rw [h1, ← h3.sameMap.byteOk, g1]; rfl, _, _, rfl, h3.trans g3, ?_⟩
        exact (h4.mono (by simp) (by simp) (by simp) (by simp)).trans (g4.mono (by simp) (by simp) (by simp) (by simp))
      · refine .inr ⟨by rw [h1, ← h3.sameMap.byteOk, g1]; rfl, e, by rw [M.bind_apply, g2]⟩
    · exact .inr ⟨by simp [h1], e, by rw [M.bind_apply, h2]⟩
  · refine .inl ⟨by simp, _, _, rfl, ⟨_, _, _, rfl⟩, ?_⟩
    exact frame_sfrWord s hw _ _ _ _ _ _ (by simp)

theorem readWord_of_ok {a : PhysAddr} {s : State} (h : s.wordOk a = true) :
    ∃ v t, readWord a s = .ok (v, t) ∧ ReadOnly s t := by
  rcases readWord_spec a s with ⟨_, v, t, h1, h2, _⟩ | ⟨h', _⟩
  · exact ⟨v, t, h1, h2⟩
  · simp [h] at h'

theorem readWord_frame {a : PhysAddr} {s t : State} {v : Word} (h : readWord a s = .ok (v, t)) :
    ReadOnly s t ∧ Frame s t [] 0 [a, a + 1] [] := by
  rcases readWord_spec a s with ⟨_, v', t', h1, h2⟩ | ⟨_, e, h'⟩
  · rw [h] at h1; cases h1; exact h2
  · rw [h] at h'; cases h'

/-- A word write completes exactly where `wordOk` says so, and changes its two bytes alone. -/
theorem writeWord_spec (a : PhysAddr) (v : Word) (s : State) :
    (s.wordOk a = true ∧ ∃ t, writeWord a v s = .ok ((), t) ∧ Quiet s t ∧ Frame s t [] 0 [] [a, a + 1]) ∨
    (s.wordOk a = false ∧ ∃ e, writeWord a v s = .error e) := by
  unfold writeWord State.wordOk
  rw [M.bind_reads]
  cases hw : s.isSfrWord a
  · simp only [Bool.false_or, Bool.false_eq_true, if_false]
    rcases writeByte_spec a (v.extractLsb' 0 8) s with ⟨h1, t, h2, h3, h4, _⟩ | ⟨h1, e, h2⟩
    · rw [M.bind_of_ok h2]
      have hn := writeByte_byteOk_next h2
      rcases writeByte_spec (a + 1) (v.extractLsb' 8 8) t with ⟨g1, t', g2, g3, g4, _⟩ | ⟨g1, e, g2⟩
      · refine .inl ⟨by rw [h1, ← hn, g1]; rfl, t', g2, h3.trans g3, ?_⟩
        exact (h4.mono (by simp) (by simp) (by simp) (by simp)).trans (g4.mono (by simp) (by simp) (by simp) (by simp))
      · exact .inr ⟨by rw [h1, ← hn, g1]; rfl, e, g2⟩
    · exact .inr ⟨by simp [h1], e, by rw [M.bind_apply, h2]⟩
  · refine .inl ⟨by simp, _, rfl, ⟨rfl, rfl, rfl, rfl, rfl⟩, ?_⟩
    exact frame_sfrWord s hw _ _ _ _ _ _ (by simp)

theorem writeWord_of_ok {a : PhysAddr} {s : State} (h : s.wordOk a = true) (v : Word) :
    ∃ t, writeWord a v s = .ok ((), t) := by
  rcases writeWord_spec a v s with ⟨_, t, h1, _⟩ | ⟨h', _⟩
  · exact ⟨t, h1⟩
  · simp [h] at h'

theorem writeWord_frame {a : PhysAddr} {v : Word} {s t : State} (h : writeWord a v s = .ok ((), t)) :
    Quiet s t ∧ Frame s t [] 0 [] [a, a + 1] := by
  rcases writeWord_spec a v s with ⟨_, t', h1, h2⟩ | ⟨_, e, h'⟩
  · rw [h] at h1; cases h1; exact h2
  · rw [h] at h'; cases h'

end Sys2Proof.Machine
end

