-- ==== Sys2Proof/Laws/Registers.lean ====
section
/-! SUPPORT. Registers as cells of the on-chip RAM: what a register reads as after a write of another. -/

namespace Sys2Proof.Machine

theorem bankKey_lt (b : BitVec 3) {o : Nat} (h : o < 32) : bankKey b o < 256 := by
  have := b.isLt
  unfold bankKey; omega

theorem bankKey_inj {b c : BitVec 3} {o p : Nat} (ho : o < 32) (hp : p < 32) (h : bankKey b o = bankKey c p) :
    b = c ∧ o = p := by
  unfold bankKey at h
  exact ⟨BitVec.eq_of_toNat_eq (by omega), by omega⟩

theorem word_split (v : Word) : v.extractLsb' 8 8 ++ v.extractLsb' 0 8 = v := by
  apply BitVec.eq_of_getLsbD_eq
  intro i hi
  simp only [BitVec.getLsbD_append, BitVec.getLsbD_extractLsb']
  by_cases h8 : i < 8
  · simp [h8]
  · have : 8 + (i - 8) = i := by omega
    have h3 : i - 8 < 8 := by omega
    simp [h8, h3, this]

@[simp] theorem word_low (hi lo : Byte) : (hi ++ lo : Word).extractLsb' 0 8 = lo := by
  apply BitVec.eq_of_getLsbD_eq
  intro i h
  simp only [BitVec.getLsbD_extractLsb', BitVec.getLsbD_append, h, decide_true, Bool.true_and, Nat.zero_add, if_true]

@[simp] theorem word_high (hi lo : Byte) : (hi ++ lo : Word).extractLsb' 8 8 = hi := by
  apply BitVec.eq_of_getLsbD_eq
  intro i h
  have h1 : ¬ 8 + i < 8 := by omega
  have h2 : 8 + i - 8 = i := by omega
  simp only [BitVec.getLsbD_extractLsb', BitVec.getLsbD_append, h, h1, h2, decide_true, Bool.true_and, if_false]

/-! ### Bytes and words of a bank -/

theorem State.bankByte_setBankByte (s : State) (b c : BitVec 3) {o p : Nat} (v : Byte) (ho : o < 32) (hp : p < 32) :
    (s.setBankByte b o v).bankByte c p = if b = c ∧ o = p then v else s.bankByte c p := by
  show Memory.read (Memory.write _ _ _) _ = _
  rw [Memory.read_write]
  by_cases h : b = c ∧ o = p
  · rw [if_pos h, if_pos (by rw [h.1, h.2])]
  · rw [if_neg h, if_neg (fun e => h (bankKey_inj ho hp e))]; rfl

theorem State.setBankWord_eq (s : State) (b : BitVec 3) (o : Nat) (v : Word) :
    s.setBankWord b o v = (s.setBankByte b o (v.extractLsb' 0 8)).setBankByte b (o + 1) (v.extractLsb' 8 8) := rfl

theorem State.bankWord_setBankWord_same (s : State) (b : BitVec 3) {o : Nat} (v : Word) (ho : o + 1 < 32) :
    (s.setBankWord b o v).bankWord b o = v := by
  have h0 : o < 32 := by omega
  have h1 : o + 1 ≠ o := by omega
  simp only [State.setBankWord_eq, State.bankWord, State.bankByte_setBankByte _ _ _ _ ho ho,
    State.bankByte_setBankByte _ _ _ _ ho h0, State.bankByte_setBankByte _ _ _ _ h0 h0, h1, and_self, and_false, if_true,
    if_false, word_split]

theorem State.bankWord_setBankWord_other (s : State) {b c : BitVec 3} {o p : Nat} (v : Word) (ho : o + 1 < 32)
    (hp : p + 1 < 32) (h : b ≠ c ∨ o + 1 < p ∨ p + 1 < o) : (s.setBankWord b o v).bankWord c p = s.bankWord c p := by
  have h' : ∀ {x y : Nat}, (x = o ∨ x = o + 1) → (y = p ∨ y = p + 1) → ¬ (b = c ∧ x = y) := by
    rintro x y hx hy ⟨hb, hxy⟩
    rcases h with h | h
    · exact h hb
    · omega
  rw [State.setBankWord_eq, State.bankWord, State.bankWord,
    State.bankByte_setBankByte _ _ _ _ ho hp, State.bankByte_setBankByte _ _ _ _ ho (by omega),
    State.bankByte_setBankByte _ _ _ _ (by omega) hp, State.bankByte_setBankByte _ _ _ _ (by omega) (by omega)]
  rw [if_neg (h' (.inr rfl) (.inr rfl)), if_neg (h' (.inr rfl) (.inl rfl)), if_neg (h' (.inl rfl) (.inr rfl)),
    if_neg (h' (.inl rfl) (.inl rfl))]

theorem State.bankByte_setBankWord_other (s : State) {b c : BitVec 3} {o p : Nat} (v : Word) (ho : o + 1 < 32)
    (hp : p < 32) (h : b ≠ c ∨ o + 1 < p ∨ p < o) : (s.setBankWord b o v).bankByte c p = s.bankByte c p := by
  have h' : ∀ {x : Nat}, (x = o ∨ x = o + 1) → ¬ (b = c ∧ x = p) := by
    rintro x hx ⟨hb, hxy⟩
    rcases h with h | h
    · exact h hb
    · omega
  rw [State.setBankWord_eq, State.bankByte_setBankByte _ _ _ _ ho hp, State.bankByte_setBankByte _ _ _ _ (by omega) hp,
    if_neg (h' (.inr rfl)), if_neg (h' (.inl rfl))]

theorem State.bankWord_setBankByte_other (s : State) {b c : BitVec 3} {o p : Nat} (v : Byte) (ho : o < 32)
    (hp : p + 1 < 32) (h : b ≠ c ∨ o < p ∨ p + 1 < o) : (s.setBankByte b o v).bankWord c p = s.bankWord c p := by
  have h' : ∀ {y : Nat}, (y = p ∨ y = p + 1) → ¬ (b = c ∧ o = y) := by
    rintro y hy ⟨hb, hxy⟩
    rcases h with h | h
    · exact h hb
    · omega
  rw [State.bankWord, State.bankWord, State.bankByte_setBankByte _ _ _ _ ho (by omega),
    State.bankByte_setBankByte _ _ _ _ ho (by omega), if_neg (h' (.inr rfl)), if_neg (h' (.inl rfl))]

/-! ### Registers -/

theorem offReg16_range (r : Reg16) : 0x10 ≤ offReg16 r ∧ offReg16 r + 1 < 32 := by cases r <;> decide
theorem offReg8_range (r : Reg8) : 0x18 ≤ offReg8 r ∧ offReg8 r < 32 := by cases r <;> decide
theorem offSReg_range (r : SReg) : 0x08 ≤ offSReg r ∧ offSReg r + 1 < 0x10 := by cases r <;> decide

theorem offReg16_apart {r q : Reg16} (h : r ≠ q) : offReg16 r + 1 < offReg16 q ∨ offReg16 q + 1 < offReg16 r := by
  cases r <;> cases q <;> first | exact absurd rfl h | decide

theorem offSReg_apart {r q : SReg} (h : r ≠ q) : offSReg r + 1 < offSReg q ∨ offSReg q + 1 < offSReg r := by
  cases r <;> cases q <;> first | exact absurd rfl h | decide

theorem offReg8_inj {r q : Reg8} (h : r ≠ q) : offReg8 r ≠ offReg8 q := by
  cases r <;> cases q <;> first | exact absurd rfl h | decide

@[simp] theorem State.bank_withPsw (s : State) (v : Word) : (s.withPsw v).bank = bankOf v := rfl
@[simp] theorem State.bank_setReg16 (s : State) (r : Reg16) (v : Word) : (s.setReg16 r v).bank = s.bank := rfl
@[simp] theorem State.bank_setReg8 (s : State) (r : Reg8) (v : Byte) : (s.setReg8 r v).bank = s.bank := rfl
@[simp] theorem State.bank_setSreg (s : State) (r : SReg) (v : Word) : (s.setSreg r v).bank = s.bank := rfl
@[simp] theorem State.bank_loadPc (s : State) (v : Word) : (s.loadPc v).bank = s.bank := rfl
@[simp] theorem State.bank_setBankWord (s : State) (b : BitVec 3) (o : Nat) (v : Word) : (s.setBankWord b o v).bank = s.bank := rfl

@[simp] theorem State.reg16_setReg16_same (s : State) (r : Reg16) (v : Word) : (s.setReg16 r v).reg16 r = v :=
  State.bankWord_setBankWord_same _ _ _ (offReg16_range r).2

theorem State.reg16_setReg16_other (s : State) {r q : Reg16} (v : Word) (h : r ≠ q) : (s.setReg16 r v).reg16 q = s.reg16 q :=
  State.bankWord_setBankWord_other _ _ (offReg16_range r).2 (offReg16_range q).2 (.inr (offReg16_apart h))

@[simp] theorem State.sreg_setReg16 (s : State) (r : Reg16) (q : SReg) (v : Word) : (s.setReg16 r v).sreg q = s.sreg q :=
  State.bankWord_setBankWord_other _ _ (offReg16_range r).2 (by have := offSReg_range q; omega)
    (.inr (.inr (by have := offSReg_range q; have := offReg16_range r; omega)))

@[simp] theorem State.reg16_setSreg (s : State) (r : SReg) (q : Reg16) (v : Word) : (s.setSreg r v).reg16 q = s.reg16 q :=
  State.bankWord_setBankWord_other _ _ (by have := offSReg_range r; omega) (offReg16_range q).2
    (.inr (.inl (by have := offSReg_range r; have := offReg16_range q; omega)))

@[simp] theorem State.sreg_setSreg_same (s : State) (r : SReg) (v : Word) : (s.setSreg r v).sreg r = v :=
  State.bankWord_setBankWord_same _ _ _ (by have := offSReg_range r; omega)

theorem State.sreg_setSreg_other (s : State) {r q : SReg} (v : Word) (h : r ≠ q) : (s.setSreg r v).sreg q = s.sreg q :=
  State.bankWord_setBankWord_other _ _ (by have := offSReg_range r; omega) (by have := offSReg_range q; omega)
    (.inr (offSReg_apart h))

@[simp] theorem State.reg8_setReg8_same (s : State) (r : Reg8) (v : Byte) : (s.setReg8 r v).reg8 r = v := by
  have h := (offReg8_range r).2
  show (s.setBankByte s.bank _ v).bankByte s.bank _ = v
  rw [State.bankByte_setBankByte _ _ _ _ h h]; simp

theorem State.reg8_setReg8_other (s : State) {r q : Reg8} (v : Byte) (h : r ≠ q) : (s.setReg8 r v).reg8 q = s.reg8 q := by
  show (s.setBankByte s.bank _ v).bankByte s.bank _ = _
  rw [State.bankByte_setBankByte _ _ _ _ (offReg8_range r).2 (offReg8_range q).2, if_neg (fun e => offReg8_inj h e.2)]; rfl

@[simp] theorem State.sreg_setReg8 (s : State) (r : Reg8) (q : SReg) (v : Byte) : (s.setReg8 r v).sreg q = s.sreg q :=
  State.bankWord_setBankByte_other _ _ (offReg8_range r).2 (by have := offSReg_range q; omega)
    (.inr (.inr (by have := offSReg_range q; have := offReg8_range r; omega)))

@[simp] theorem State.reg8_setSreg (s : State) (r : SReg) (q : Reg8) (v : Word) : (s.setSreg r v).reg8 q = s.reg8 q :=
  State.bankByte_setBankWord_other _ _ (by have := offSReg_range r; omega) (offReg8_range q).2
    (.inr (.inl (by have := offSReg_range r; have := offReg8_range q; omega)))

/-! ### What register writes change -/

theorem frame_setBankByte (s : State) (b : BitVec 3) (o : Nat) (v : Byte) :
    Frame s (s.setBankByte b o v) [bankKey b o] 0 [] [] :=
  frame_withIram _ _ _ fun k hk => Memory.read_write_other _ _ fun e => hk (by simp [← e])

theorem frame_setBankWord (s : State) (b : BitVec 3) (o : Nat) (v : Word) :
    Frame s (s.setBankWord b o v) (bankKeys b o) 0 [] [] :=
  frame_withIram _ _ _ fun k hk => by
    rw [Memory.read_write_other, Memory.read_write_other]
    · exact fun e => hk (by simp [bankKeys, ← e])
    · exact fun e => hk (by simp [bankKeys, ← e])

theorem frame_setReg16 (s : State) (r : Reg16) (v : Word) : Frame s (s.setReg16 r v) (bankKeys s.bank (offReg16 r)) 0 [] [] :=
  frame_setBankWord _ _ _ _

theorem frame_setSreg (s : State) (r : SReg) (v : Word) : Frame s (s.setSreg r v) (sregKeys s r) 0 [] [] :=
  frame_setBankWord _ _ _ _

theorem frame_setReg8 (s : State) (r : Reg8) (v : Byte) : Frame s (s.setReg8 r v) [bankKey s.bank (offReg8 r)] 0 [] [] :=
  frame_setBankByte _ _ _ _

theorem quiet_setReg16 (s : State) (r : Reg16) (v : Word) : Quiet s (s.setReg16 r v) := ⟨rfl, rfl, rfl, rfl, rfl⟩
theorem quiet_setSreg (s : State) (r : SReg) (v : Word) : Quiet s (s.setSreg r v) := ⟨rfl, rfl, rfl, rfl, rfl⟩
theorem quiet_setReg8 (s : State) (r : Reg8) (v : Byte) : Quiet s (s.setReg8 r v) := ⟨rfl, rfl, rfl, rfl, rfl⟩

end Sys2Proof.Machine
end

