-- ==== Sys2Proof/Laws/Operands.lean ====
section
/-! SUPPORT. Operands of either size: reading one is read-only, writing one changes its cells alone, and both complete
exactly where `placeOk` says so. -/

namespace Sys2Proof.Machine

section
variable {w : Nat} {ρ : Type}

/-- What the byte and the word operations have in common. -/
structure Size.Lawful (z : Size w ρ) : Prop where
  read_spec : ∀ seg off s,
    (z.okAt s (phys seg off) = true ∧ ∃ v t, z.ops.readMem seg off s = .ok (v, t) ∧ ReadOnly s t ∧
      Frame s t [] 0 (z.span (phys seg off)) []) ∨
    (z.okAt s (phys seg off) = false ∧ ∃ e, z.ops.readMem seg off s = .error e)
  write_spec : ∀ seg off v s,
    (z.okAt s (phys seg off) = true ∧ ∃ t, z.ops.writeMem seg off v s = .ok ((), t) ∧ Quiet s t ∧
      Frame s t [] 0 [] (z.span (phys seg off))) ∨
    (z.okAt s (phys seg off) = false ∧ ∃ e, z.ops.writeMem seg off v s = .error e)
  okAt_map : ∀ {s t}, SameMap s t → ∀ a, z.okAt t a = z.okAt s a
  getReg_readOnly : ∀ {s t}, ReadOnly s t → ∀ r, z.ops.getReg t r = z.ops.getReg s r
  getReg_psw : ∀ s v r, bankOf v = s.bank → z.ops.getReg (s.withPsw v) r = z.ops.getReg s r
  setReg_frame : ∀ s r v, Frame s (z.ops.setReg s r v) (z.keys s r) 0 [] []
  setReg_quiet : ∀ s r v, Quiet s (z.ops.setReg s r v)
  setReg_map : ∀ s r v, SameMap s (z.ops.setReg s r v)
  getReg_setReg : ∀ s r v, z.ops.getReg (z.ops.setReg s r v) r = v
  keys_bank : ∀ {s t : State}, t.bank = s.bank → ∀ r, z.keys t r = z.keys s r

theorem byteSize_lawful : byteSize.Lawful where
  read_spec _ _ s := readByte_spec _ s
  write_spec _ _ v s := by
    rcases writeByte_spec _ v s with ⟨h1, t, h2, h3, h4, _⟩ | h
    · exact .inl ⟨h1, t, h2, h3, h4⟩
    · exact .inr h
  okAt_map h a := h.byteOk a
  getReg_readOnly h r := h.reg8 r
  getReg_psw s v r h := by show State.bankByte _ _ _ = State.bankByte _ _ _; rw [State.bank_withPsw, h]; rfl
  setReg_frame s r v := frame_setReg8 s r v
  setReg_quiet s r v := quiet_setReg8 s r v
  setReg_map _ _ _ := ⟨rfl, rfl, rfl⟩
  getReg_setReg s r v := State.reg8_setReg8_same s r v
  keys_bank h r := by simp [byteSize, h]

theorem wordSize_lawful : wordSize.Lawful where
  read_spec _ _ s := readWord_spec _ s
  write_spec _ _ v s := writeWord_spec _ v s
  okAt_map h a := h.wordOk a
  getReg_readOnly h r := h.reg16 r
  getReg_psw s v r h := by show State.bankWord _ _ _ = State.bankWord _ _ _; rw [State.bank_withPsw, h]; rfl
  setReg_frame s r v := frame_setReg16 s r v
  setReg_quiet s r v := quiet_setReg16 s r v
  setReg_map _ _ _ := ⟨rfl, rfl, rfl⟩
  getReg_setReg s r v := State.reg16_setReg16_same s r v
  keys_bank h r := by simp [wordSize, h]

variable {z : Size w ρ}

theorem SameMap.setStatus (s : State) (mask status : Word) : SameMap s (s.setStatus mask status) := ⟨rfl, rfl, rfl⟩

theorem SameMap.withDraws (s : State) (n : Nat) : SameMap s (s.withDraws n) := ⟨rfl, rfl, rfl⟩

theorem SameMap.placeOk {s t : State} (hz : z.Lawful) (h : SameMap s t) (p : Place ρ) : z.placeOk t p = z.placeOk s p := by
  cases p with
  | reg r => rfl
  | mem seg off => exact hz.okAt_map h _

/-- Reading a place completes exactly where it may, and is read-only. -/
theorem readPlace_spec (hz : z.Lawful) (p : Place ρ) (s : State) :
    (z.placeOk s p = true ∧ ∃ v t, readPlace z.ops p s = .ok (v, t) ∧ ReadOnly s t ∧ Frame s t [] 0 (z.placeBytes p) []) ∨
    (z.placeOk s p = false ∧ ∃ e, readPlace z.ops p s = .error e) := by
  cases p with
  | reg r => exact .inl ⟨rfl, _, _, rfl, .refl s, .refl s _ _ _ _⟩
  | mem seg off => exact hz.read_spec seg off s

theorem readPlace_of_ok (hz : z.Lawful) {p : Place ρ} {s : State} (h : z.placeOk s p = true) :
    ∃ v t, readPlace z.ops p s = .ok (v, t) ∧ ReadOnly s t := by
  rcases readPlace_spec hz p s with ⟨_, v, t, h1, h2, _⟩ | ⟨h', _⟩
  · exact ⟨v, t, h1, h2⟩
  · simp [h] at h'

theorem readPlace_frame (hz : z.Lawful) {p : Place ρ} {s t : State} {v : BitVec w} (h : readPlace z.ops p s = .ok (v, t)) :
    ReadOnly s t ∧ Frame s t [] 0 (z.placeBytes p) [] := by
  rcases readPlace_spec hz p s with ⟨_, v', t', h1, h2⟩ | ⟨_, e, h'⟩
  · rw [h] at h1; cases h1; exact h2
  · rw [h] at h'; cases h'

/-- Writing a place completes exactly where it may, and changes its cells alone. -/
theorem writePlace_spec (hz : z.Lawful) (p : Place ρ) (v : BitVec w) (s : State) :
    (z.placeOk s p = true ∧ ∃ t, writePlace z.ops p v s = .ok ((), t) ∧ Quiet s t ∧
      Frame s t (z.placeKeys s p) 0 [] (z.placeBytes p)) ∨
    (z.placeOk s p = false ∧ ∃ e, writePlace z.ops p v s = .error e) := by
  cases p with
  | reg r => exact .inl ⟨rfl, _, rfl, hz.setReg_quiet s r v, hz.setReg_frame s r v⟩
  | mem seg off => exact hz.write_spec seg off v s

theorem writePlace_of_ok (hz : z.Lawful) {p : Place ρ} {s : State} (h : z.placeOk s p = true) (v : BitVec w) :
    ∃ t, writePlace z.ops p v s = .ok ((), t) := by
  rcases writePlace_spec hz p v s with ⟨_, t, h1, _⟩ | ⟨h', _⟩
  · exact ⟨t, h1⟩
  · simp [h] at h'

theorem writePlace_frame (hz : z.Lawful) {p : Place ρ} {v : BitVec w} {s t : State}
    (h : writePlace z.ops p v s = .ok ((), t)) : Quiet s t ∧ Frame s t (z.placeKeys s p) 0 [] (z.placeBytes p) := by
  rcases writePlace_spec hz p v s with ⟨_, t', h1, h2⟩ | ⟨_, e, h'⟩
  · rw [h] at h1; cases h1; exact h2
  · rw [h] at h'; cases h'

theorem placeKeys_bank (hz : z.Lawful) {s t : State} (h : t.bank = s.bank) (p : Place ρ) :
    z.placeKeys t p = z.placeKeys s p := by
  cases p with
  | reg r => exact hz.keys_bank h r
  | mem _ _ => rfl

end

end Sys2Proof.Machine
end

