-- ==== Sys2Proof/Laws/PerInstr.lean ====
section
/-! SUPPORT. Statements about every instruction as syntax: one lemma a constructor. -/

namespace Sys2Proof.Laws.EncodedLength

/-- No encoding is empty and none is longer than what the fetch looks at. -/
def Statement (i : Instr) : Prop := 1 ≤ (encode i).length ∧ (encode i).length ≤ maxInstrBytes

theorem of_length {i : Instr} {n : Nat} (h : (encode i).length = n) (h1 : 1 ≤ n) (h6 : n ≤ 6) : Statement i :=
  ⟨h ▸ h1, h ▸ h6⟩

theorem of_front {i : Instr} {l : List Byte} (front : List Byte) (h : encode i = front ++ l)
    (hl : 1 ≤ l.length ∧ l.length ≤ 3) (hf : front.length ≤ 3) : Statement i :=
  of_length (congrArg List.length h) (by simp only [List.length_append]; omega) (by simp only [List.length_append]; omega)

theorem of_parts {i : Instr} {l : List Byte} (front back : List Byte) (h : encode i = front ++ (l ++ back))
    (hl : 1 ≤ l.length ∧ l.length ≤ 3) (hf : front.length + back.length ≤ 3) : Statement i :=
  of_length (congrArg List.length h) (by simp only [List.length_append]; omega) (by simp only [List.length_append]; omega)

theorem memOp_length (m : MemOp) (reg : BitVec 3) : 1 ≤ (m.encode reg).length ∧ (m.encode reg).length ≤ 3 := by
  cases m <;> simp [MemOp.encode, encWord]

theorem rm8_length (e : RM Reg8) (reg : BitVec 3) : 1 ≤ (e.encode8 reg).length ∧ (e.encode8 reg).length ≤ 3 := by
  cases e with
  | reg r => simp [RM.encode8]
  | mem m => exact memOp_length m reg

theorem rm16_length (e : RM Reg16) (reg : BitVec 3) : 1 ≤ (e.encode16 reg).length ∧ (e.encode16 reg).length ≤ 3 := by
  cases e with
  | reg r => simp [RM.encode16]
  | mem m => exact memOp_length m reg

theorem addEbRb (e : RM Reg8) (r : Reg8) : Statement (.addEbRb e r) :=
  of_front [_] rfl (rm8_length e (r.num)) (Nat.le_of_ble_eq_true rfl)

theorem addEwRw (e : RM Reg16) (r : Reg16) : Statement (.addEwRw e r) :=
  of_front [_] rfl (rm16_length e (r.num)) (Nat.le_of_ble_eq_true rfl)

theorem addRbEb (r : Reg8) (e : RM Reg8) : Statement (.addRbEb r e) :=
  of_front [_] rfl (rm8_length e (r.num)) (Nat.le_of_ble_eq_true rfl)

theorem addRwEw (r : Reg16) (e : RM Reg16) : Statement (.addRwEw r e) :=
  of_front [_] rfl (rm16_length e (r.num)) (Nat.le_of_ble_eq_true rfl)

theorem addAlImm8 (imm : Byte) : Statement (.addAlImm8 imm) :=
  of_length rfl (Nat.le_of_ble_eq_true rfl) (Nat.le_of_ble_eq_true rfl)

theorem addAwImm16 (imm : Word) : Statement (.addAwImm16 imm) :=
  of_length rfl (Nat.le_of_ble_eq_true rfl) (Nat.le_of_ble_eq_true rfl)

theorem addEbImm8 (e : RM Reg8) (imm : Byte) : Statement (.addEbImm8 e imm) :=
  of_parts [_] [_] rfl (rm8_length e (0)) (Nat.le_of_ble_eq_true rfl)

theorem addEwImm16 (e : RM Reg16) (imm : Word) : Statement (.addEwImm16 e imm) :=
  of_parts [_] [_, _] rfl (rm16_length e (0)) (Nat.le_of_ble_eq_true rfl)

theorem addEbImm8Dup (e : RM Reg8) (imm : Byte) : Statement (.addEbImm8Dup e imm) :=
  of_parts [_] [_] rfl (rm8_length e (0)) (Nat.le_of_ble_eq_true rfl)

theorem addEwSextImm8 (e : RM Reg16) (imm : Byte) : Statement (.addEwSextImm8 e imm) :=
  of_parts [_] [_] rfl (rm16_length e (0)) (Nat.le_of_ble_eq_true rfl)

theorem orEbRb (e : RM Reg8) (r : Reg8) : Statement (.orEbRb e r) :=
  of_front [_] rfl (rm8_length e (r.num)) (Nat.le_of_ble_eq_true rfl)

theorem orEwRw (e : RM Reg16) (r : Reg16) : Statement (.orEwRw e r) :=
  of_front [_] rfl (rm16_length e (r.num)) (Nat.le_of_ble_eq_true rfl)

theorem orRbEb (r : Reg8) (e : RM Reg8) : Statement (.orRbEb r e) :=
  of_front [_] rfl (rm8_length e (r.num)) (Nat.le_of_ble_eq_true rfl)

theorem orRwEw (r : Reg16) (e : RM Reg16) : Statement (.orRwEw r e) :=
  of_front [_] rfl (rm16_length e (r.num)) (Nat.le_of_ble_eq_true rfl)

theorem orAlImm8 (imm : Byte) : Statement (.orAlImm8 imm) :=
  of_length rfl (Nat.le_of_ble_eq_true rfl) (Nat.le_of_ble_eq_true rfl)

theorem orAwImm16 (imm : Word) : Statement (.orAwImm16 imm) :=
  of_length rfl (Nat.le_of_ble_eq_true rfl) (Nat.le_of_ble_eq_true rfl)

theorem orEbImm8 (e : RM Reg8) (imm : Byte) : Statement (.orEbImm8 e imm) :=
  of_parts [_] [_] rfl (rm8_length e (1)) (Nat.le_of_ble_eq_true rfl)

theorem orEwImm16 (e : RM Reg16) (imm : Word) : Statement (.orEwImm16 e imm) :=
  of_parts [_] [_, _] rfl (rm16_length e (1)) (Nat.le_of_ble_eq_true rfl)

theorem orEbImm8Dup (e : RM Reg8) (imm : Byte) : Statement (.orEbImm8Dup e imm) :=
  of_parts [_] [_] rfl (rm8_length e (1)) (Nat.le_of_ble_eq_true rfl)

theorem orEwSextImm8 (e : RM Reg16) (imm : Byte) : Statement (.orEwSextImm8 e imm) :=
  of_parts [_] [_] rfl (rm16_length e (1)) (Nat.le_of_ble_eq_true rfl)

theorem addcEbRb (e : RM Reg8) (r : Reg8) : Statement (.addcEbRb e r) :=
  of_front [_] rfl (rm8_length e (r.num)) (Nat.le_of_ble_eq_true rfl)

theorem addcEwRw (e : RM Reg16) (r : Reg16) : Statement (.addcEwRw e r) :=
  of_front [_] rfl (rm16_length e (r.num)) (Nat.le_of_ble_eq_true rfl)

theorem addcRbEb (r : Reg8) (e : RM Reg8) : Statement (.addcRbEb r e) :=
  of_front [_] rfl (rm8_length e (r.num)) (Nat.le_of_ble_eq_true rfl)

theorem addcRwEw (r : Reg16) (e : RM Reg16) : Statement (.addcRwEw r e) :=
  of_front [_] rfl (rm16_length e (r.num)) (Nat.le_of_ble_eq_true rfl)

theorem addcAlImm8 (imm : Byte) : Statement (.addcAlImm8 imm) :=
  of_length rfl (Nat.le_of_ble_eq_true rfl) (Nat.le_of_ble_eq_true rfl)

theorem addcAwImm16 (imm : Word) : Statement (.addcAwImm16 imm) :=
  of_length rfl (Nat.le_of_ble_eq_true rfl) (Nat.le_of_ble_eq_true rfl)

theorem addcEbImm8 (e : RM Reg8) (imm : Byte) : Statement (.addcEbImm8 e imm) :=
  of_parts [_] [_] rfl (rm8_length e (2)) (Nat.le_of_ble_eq_true rfl)

theorem addcEwImm16 (e : RM Reg16) (imm : Word) : Statement (.addcEwImm16 e imm) :=
  of_parts [_] [_, _] rfl (rm16_length e (2)) (Nat.le_of_ble_eq_true rfl)

theorem addcEbImm8Dup (e : RM Reg8) (imm : Byte) : Statement (.addcEbImm8Dup e imm) :=
  of_parts [_] [_] rfl (rm8_length e (2)) (Nat.le_of_ble_eq_true rfl)

theorem addcEwSextImm8 (e : RM Reg16) (imm : Byte) : Statement (.addcEwSextImm8 e imm) :=
  of_parts [_] [_] rfl (rm16_length e (2)) (Nat.le_of_ble_eq_true rfl)

theorem subcEbRb (e : RM Reg8) (r : Reg8) : Statement (.subcEbRb e r) :=
  of_front [_] rfl (rm8_length e (r.num)) (Nat.le_of_ble_eq_true rfl)

theorem subcEwRw (e : RM Reg16) (r : Reg16) : Statement (.subcEwRw e r) :=
  of_front [_] rfl (rm16_length e (r.num)) (Nat.le_of_ble_eq_true rfl)

theorem subcRbEb (r : Reg8) (e : RM Reg8) : Statement (.subcRbEb r e) :=
  of_front [_] rfl (rm8_length e (r.num)) (Nat.le_of_ble_eq_true rfl)

theorem subcRwEw (r : Reg16) (e : RM Reg16) : Statement (.subcRwEw r e) :=
  of_front [_] rfl (rm16_length e (r.num)) (Nat.le_of_ble_eq_true rfl)

theorem subcAlImm8 (imm : Byte) : Statement (.subcAlImm8 imm) :=
  of_length rfl (Nat.le_of_ble_eq_true rfl) (Nat.le_of_ble_eq_true rfl)

theorem subcAwImm16 (imm : Word) : Statement (.subcAwImm16 imm) :=
  of_length rfl (Nat.le_of_ble_eq_true rfl) (Nat.le_of_ble_eq_true rfl)

theorem subcEbImm8 (e : RM Reg8) (imm : Byte) : Statement (.subcEbImm8 e imm) :=
  of_parts [_] [_] rfl (rm8_length e (3)) (Nat.le_of_ble_eq_true rfl)

theorem subcEwImm16 (e : RM Reg16) (imm : Word) : Statement (.subcEwImm16 e imm) :=
  of_parts [_] [_, _] rfl (rm16_length e (3)) (Nat.le_of_ble_eq_true rfl)

theorem subcEbImm8Dup (e : RM Reg8) (imm : Byte) : Statement (.subcEbImm8Dup e imm) :=
  of_parts [_] [_] rfl (rm8_length e (3)) (Nat.le_of_ble_eq_true rfl)

theorem subcEwSextImm8 (e : RM Reg16) (imm : Byte) : Statement (.subcEwSextImm8 e imm) :=
  of_parts [_] [_] rfl (rm16_length e (3)) (Nat.le_of_ble_eq_true rfl)

theorem andEbRb (e : RM Reg8) (r : Reg8) : Statement (.andEbRb e r) :=
  of_front [_] rfl (rm8_length e (r.num)) (Nat.le_of_ble_eq_true rfl)

theorem andEwRw (e : RM Reg16) (r : Reg16) : Statement (.andEwRw e r) :=
  of_front [_] rfl (rm16_length e (r.num)) (Nat.le_of_ble_eq_true rfl)

theorem andRbEb (r : Reg8) (e : RM Reg8) : Statement (.andRbEb r e) :=
  of_front [_] rfl (rm8_length e (r.num)) (Nat.le_of_ble_eq_true rfl)

theorem andRwEw (r : Reg16) (e : RM Reg16) : Statement (.andRwEw r e) :=
  of_front [_] rfl (rm16_length e (r.num)) (Nat.le_of_ble_eq_true rfl)

theorem andAlImm8 (imm : Byte) : Statement (.andAlImm8 imm) :=
  of_length rfl (Nat.le_of_ble_eq_true rfl) (Nat.le_of_ble_eq_true rfl)

theorem andAwImm16 (imm : Word) : Statement (.andAwImm16 imm) :=
  of_length rfl (Nat.le_of_ble_eq_true rfl) (Nat.le_of_ble_eq_true rfl)

theorem andEbImm8 (e : RM Reg8) (imm : Byte) : Statement (.andEbImm8 e imm) :=
  of_parts [_] [_] rfl (rm8_length e (4)) (Nat.le_of_ble_eq_true rfl)

theorem andEwImm16 (e : RM Reg16) (imm : Word) : Statement (.andEwImm16 e imm) :=
  of_parts [_] [_, _] rfl (rm16_length e (4)) (Nat.le_of_ble_eq_true rfl)

theorem andEbImm8Dup (e : RM Reg8) (imm : Byte) : Statement (.andEbImm8Dup e imm) :=
  of_parts [_] [_] rfl (rm8_length e (4)) (Nat.le_of_ble_eq_true rfl)

theorem andEwSextImm8 (e : RM Reg16) (imm : Byte) : Statement (.andEwSextImm8 e imm) :=
  of_parts [_] [_] rfl (rm16_length e (4)) (Nat.le_of_ble_eq_true rfl)

theorem subEbRb (e : RM Reg8) (r : Reg8) : Statement (.subEbRb e r) :=
  of_front [_] rfl (rm8_length e (r.num)) (Nat.le_of_ble_eq_true rfl)

theorem subEwRw (e : RM Reg16) (r : Reg16) : Statement (.subEwRw e r) :=
  of_front [_] rfl (rm16_length e (r.num)) (Nat.le_of_ble_eq_true rfl)

theorem subRbEb (r : Reg8) (e : RM Reg8) : Statement (.subRbEb r e) :=
  of_front [_] rfl (rm8_length e (r.num)) (Nat.le_of_ble_eq_true rfl)

theorem subRwEw (r : Reg16) (e : RM Reg16) : Statement (.subRwEw r e) :=
  of_front [_] rfl (rm16_length e (r.num)) (Nat.le_of_ble_eq_true rfl)

theorem subAlImm8 (imm : Byte) : Statement (.subAlImm8 imm) :=
  of_length rfl (Nat.le_of_ble_eq_true rfl) (Nat.le_of_ble_eq_true rfl)

theorem subAwImm16 (imm : Word) : Statement (.subAwImm16 imm) :=
  of_length rfl (Nat.le_of_ble_eq_true rfl) (Nat.le_of_ble_eq_true rfl)

theorem subEbImm8 (e : RM Reg8) (imm : Byte) : Statement (.subEbImm8 e imm) :=
  of_parts [_] [_] rfl (rm8_length e (5)) (Nat.le_of_ble_eq_true rfl)

theorem subEwImm16 (e : RM Reg16) (imm : Word) : Statement (.subEwImm16 e imm) :=
  of_parts [_] [_, _] rfl (rm16_length e (5)) (Nat.le_of_ble_eq_true rfl)

theorem subEbImm8Dup (e : RM Reg8) (imm : Byte) : Statement (.subEbImm8Dup e imm) :=
  of_parts [_] [_] rfl (rm8_length e (5)) (Nat.le_of_ble_eq_true rfl)

theorem subEwSextImm8 (e : RM Reg16) (imm : Byte) : Statement (.subEwSextImm8 e imm) :=
  of_parts [_] [_] rfl (rm16_length e (5)) (Nat.le_of_ble_eq_true rfl)

theorem xorEbRb (e : RM Reg8) (r : Reg8) : Statement (.xorEbRb e r) :=
  of_front [_] rfl (rm8_length e (r.num)) (Nat.le_of_ble_eq_true rfl)

theorem xorEwRw (e : RM Reg16) (r : Reg16) : Statement (.xorEwRw e r) :=
  of_front [_] rfl (rm16_length e (r.num)) (Nat.le_of_ble_eq_true rfl)

theorem xorRbEb (r : Reg8) (e : RM Reg8) : Statement (.xorRbEb r e) :=
  of_front [_] rfl (rm8_length e (r.num)) (Nat.le_of_ble_eq_true rfl)

theorem xorRwEw (r : Reg16) (e : RM Reg16) : Statement (.xorRwEw r e) :=
  of_front [_] rfl (rm16_length e (r.num)) (Nat.le_of_ble_eq_true rfl)

theorem xorAlImm8 (imm : Byte) : Statement (.xorAlImm8 imm) :=
  of_length rfl (Nat.le_of_ble_eq_true rfl) (Nat.le_of_ble_eq_true rfl)

theorem xorAwImm16 (imm : Word) : Statement (.xorAwImm16 imm) :=
  of_length rfl (Nat.le_of_ble_eq_true rfl) (Nat.le_of_ble_eq_true rfl)

theorem xorEbImm8 (e : RM Reg8) (imm : Byte) : Statement (.xorEbImm8 e imm) :=
  of_parts [_] [_] rfl (rm8_length e (6)) (Nat.le_of_ble_eq_true rfl)

theorem xorEwImm16 (e : RM Reg16) (imm : Word) : Statement (.xorEwImm16 e imm) :=
  of_parts [_] [_, _] rfl (rm16_length e (6)) (Nat.le_of_ble_eq_true rfl)

theorem xorEbImm8Dup (e : RM Reg8) (imm : Byte) : Statement (.xorEbImm8Dup e imm) :=
  of_parts [_] [_] rfl (rm8_length e (6)) (Nat.le_of_ble_eq_true rfl)

theorem xorEwSextImm8 (e : RM Reg16) (imm : Byte) : Statement (.xorEwSextImm8 e imm) :=
  of_parts [_] [_] rfl (rm16_length e (6)) (Nat.le_of_ble_eq_true rfl)

theorem cmpEbRb (e : RM Reg8) (r : Reg8) : Statement (.cmpEbRb e r) :=
  of_front [_] rfl (rm8_length e (r.num)) (Nat.le_of_ble_eq_true rfl)

theorem cmpEwRw (e : RM Reg16) (r : Reg16) : Statement (.cmpEwRw e r) :=
  of_front [_] rfl (rm16_length e (r.num)) (Nat.le_of_ble_eq_true rfl)

theorem cmpRbEb (r : Reg8) (e : RM Reg8) : Statement (.cmpRbEb r e) :=
  of_front [_] rfl (rm8_length e (r.num)) (Nat.le_of_ble_eq_true rfl)

theorem cmpRwEw (r : Reg16) (e : RM Reg16) : Statement (.cmpRwEw r e) :=
  of_front [_] rfl (rm16_length e (r.num)) (Nat.le_of_ble_eq_true rfl)

theorem cmpAlImm8 (imm : Byte) : Statement (.cmpAlImm8 imm) :=
  of_length rfl (Nat.le_of_ble_eq_true rfl) (Nat.le_of_ble_eq_true rfl)

theorem cmpAwImm16 (imm : Word) : Statement (.cmpAwImm16 imm) :=
  of_length rfl (Nat.le_of_ble_eq_true rfl) (Nat.le_of_ble_eq_true rfl)

theorem cmpEbImm8 (e : RM Reg8) (imm : Byte) : Statement (.cmpEbImm8 e imm) :=
  of_parts [_] [_] rfl (rm8_length e (7)) (Nat.le_of_ble_eq_true rfl)

theorem cmpEwImm16 (e : RM Reg16) (imm : Word) : Statement (.cmpEwImm16 e imm) :=
  of_parts [_] [_, _] rfl (rm16_length e (7)) (Nat.le_of_ble_eq_true rfl)

theorem cmpEbImm8Dup (e : RM Reg8) (imm : Byte) : Statement (.cmpEbImm8Dup e imm) :=
  of_parts [_] [_] rfl (rm8_length e (7)) (Nat.le_of_ble_eq_true rfl)

theorem cmpEwSextImm8 (e : RM Reg16) (imm : Byte) : Statement (.cmpEwSextImm8 e imm) :=
  of_parts [_] [_] rfl (rm16_length e (7)) (Nat.le_of_ble_eq_true rfl)

theorem incReg16 (r : Reg16) : Statement (.incReg16 r) :=
  of_length rfl (Nat.le_of_ble_eq_true rfl) (Nat.le_of_ble_eq_true rfl)

theorem decReg16 (r : Reg16) : Statement (.decReg16 r) :=
  of_length rfl (Nat.le_of_ble_eq_true rfl) (Nat.le_of_ble_eq_true rfl)

theorem pushReg16 (r : Reg16) : Statement (.pushReg16 r) :=
  of_length rfl (Nat.le_of_ble_eq_true rfl) (Nat.le_of_ble_eq_true rfl)

theorem popReg16 (r : Reg16) : Statement (.popReg16 r) :=
  of_length rfl (Nat.le_of_ble_eq_true rfl) (Nat.le_of_ble_eq_true rfl)

theorem chkind (r : Reg16) (m : MemOp) : Statement (.chkind r m) :=
  of_front [_] rfl (memOp_length m (r.num)) (Nat.le_of_ble_eq_true rfl)

theorem fpo2 (op : BitVec 1) (reg : BitVec 3) (e : RM Reg16) : Statement (.fpo2 op reg e) :=
  of_front [_] rfl (rm16_length e (reg)) (Nat.le_of_ble_eq_true rfl)

theorem pushImm16 (imm : Word) : Statement (.pushImm16 imm) :=
  of_length rfl (Nat.le_of_ble_eq_true rfl) (Nat.le_of_ble_eq_true rfl)

theorem mulReg16EwImm16 (r : Reg16) (e : RM Reg16) (imm : Word) : Statement (.mulReg16EwImm16 r e imm) :=
  of_parts [_] [_, _] rfl (rm16_length e (r.num)) (Nat.le_of_ble_eq_true rfl)

theorem pushImm8 (imm : Byte) : Statement (.pushImm8 imm) :=
  of_length rfl (Nat.le_of_ble_eq_true rfl) (Nat.le_of_ble_eq_true rfl)

theorem mulReg16EwImm8 (r : Reg16) (e : RM Reg16) (imm : Byte) : Statement (.mulReg16EwImm8 r e imm) :=
  of_parts [_] [_] rfl (rm16_length e (r.num)) (Nat.le_of_ble_eq_true rfl)

theorem bv (disp : Byte) : Statement (.bv disp) :=
  of_length rfl (Nat.le_of_ble_eq_true rfl) (Nat.le_of_ble_eq_true rfl)

theorem bnv (disp : Byte) : Statement (.bnv disp) :=
  of_length rfl (Nat.le_of_ble_eq_true rfl) (Nat.le_of_ble_eq_true rfl)

theorem bc (disp : Byte) : Statement (.bc disp) :=
  of_length rfl (Nat.le_of_ble_eq_true rfl) (Nat.le_of_ble_eq_true rfl)

theorem bnc (disp : Byte) : Statement (.bnc disp) :=
  of_length rfl (Nat.le_of_ble_eq_true rfl) (Nat.le_of_ble_eq_true rfl)

theorem be (disp : Byte) : Statement (.be disp) :=
  of_length rfl (Nat.le_of_ble_eq_true rfl) (Nat.le_of_ble_eq_true rfl)

theorem bne (disp : Byte) : Statement (.bne disp) :=
  of_length rfl (Nat.le_of_ble_eq_true rfl) (Nat.le_of_ble_eq_true rfl)

theorem bnh (disp : Byte) : Statement (.bnh disp) :=
  of_length rfl (Nat.le_of_ble_eq_true rfl) (Nat.le_of_ble_eq_true rfl)

theorem bh (disp : Byte) : Statement (.bh disp) :=
  of_length rfl (Nat.le_of_ble_eq_true rfl) (Nat.le_of_ble_eq_true rfl)

theorem bn (disp : Byte) : Statement (.bn disp) :=
  of_length rfl (Nat.le_of_ble_eq_true rfl) (Nat.le_of_ble_eq_true rfl)

theorem bp (disp : Byte) : Statement (.bp disp) :=
  of_length rfl (Nat.le_of_ble_eq_true rfl) (Nat.le_of_ble_eq_true rfl)

theorem bpe (disp : Byte) : Statement (.bpe disp) :=
  of_length rfl (Nat.le_of_ble_eq_true rfl) (Nat.le_of_ble_eq_true rfl)

theorem bpo (disp : Byte) : Statement (.bpo disp) :=
  of_length rfl (Nat.le_of_ble_eq_true rfl) (Nat.le_of_ble_eq_true rfl)

theorem blt (disp : Byte) : Statement (.blt disp) :=
  of_length rfl (Nat.le_of_ble_eq_true rfl) (Nat.le_of_ble_eq_true rfl)

theorem bge (disp : Byte) : Statement (.bge disp) :=
  of_length rfl (Nat.le_of_ble_eq_true rfl) (Nat.le_of_ble_eq_true rfl)

theorem ble (disp : Byte) : Statement (.ble disp) :=
  of_length rfl (Nat.le_of_ble_eq_true rfl) (Nat.le_of_ble_eq_true rfl)

theorem bgt (disp : Byte) : Statement (.bgt disp) :=
  of_length rfl (Nat.le_of_ble_eq_true rfl) (Nat.le_of_ble_eq_true rfl)

theorem testEbRb (e : RM Reg8) (r : Reg8) : Statement (.testEbRb e r) :=
  of_front [_] rfl (rm8_length e (r.num)) (Nat.le_of_ble_eq_true rfl)

theorem testEwRw (e : RM Reg16) (r : Reg16) : Statement (.testEwRw e r) :=
  of_front [_] rfl (rm16_length e (r.num)) (Nat.le_of_ble_eq_true rfl)

theorem xchEbRb (e : RM Reg8) (r : Reg8) : Statement (.xchEbRb e r) :=
  of_front [_] rfl (rm8_length e (r.num)) (Nat.le_of_ble_eq_true rfl)

theorem xchEwRw (e : RM Reg16) (r : Reg16) : Statement (.xchEwRw e r) :=
  of_front [_] rfl (rm16_length e (r.num)) (Nat.le_of_ble_eq_true rfl)

theorem movEbRb (e : RM Reg8) (r : Reg8) : Statement (.movEbRb e r) :=
  of_front [_] rfl (rm8_length e (r.num)) (Nat.le_of_ble_eq_true rfl)

theorem movEwRw (e : RM Reg16) (r : Reg16) : Statement (.movEwRw e r) :=
  of_front [_] rfl (rm16_length e (r.num)) (Nat.le_of_ble_eq_true rfl)

theorem movRbEb (r : Reg8) (e : RM Reg8) : Statement (.movRbEb r e) :=
  of_front [_] rfl (rm8_length e (r.num)) (Nat.le_of_ble_eq_true rfl)

theorem movRwEw (r : Reg16) (e : RM Reg16) : Statement (.movRwEw r e) :=
  of_front [_] rfl (rm16_length e (r.num)) (Nat.le_of_ble_eq_true rfl)

theorem movEwSreg (e : RM Reg16) (s : SReg) : Statement (.movEwSreg e s) :=
  of_front [_] rfl (rm16_length e (s.field)) (Nat.le_of_ble_eq_true rfl)

theorem ldea (r : Reg16) (m : MemOp) : Statement (.ldea r m) :=
  of_front [_] rfl (memOp_length m (r.num)) (Nat.le_of_ble_eq_true rfl)

theorem movSregEw (s : SReg) (e : RM Reg16) : Statement (.movSregEw s e) :=
  of_front [_] rfl (rm16_length e (s.field)) (Nat.le_of_ble_eq_true rfl)

theorem popEw (e : RM Reg16) : Statement (.popEw e) :=
  of_front [_] rfl (rm16_length e (0)) (Nat.le_of_ble_eq_true rfl)

theorem xchAwReg16 (r : Reg16) : Statement (.xchAwReg16 r) :=
  of_length rfl (Nat.le_of_ble_eq_true rfl) (Nat.le_of_ble_eq_true rfl)

theorem callFar (off : Word) (seg : Word) : Statement (.callFar off seg) :=
  of_length rfl (Nat.le_of_ble_eq_true rfl) (Nat.le_of_ble_eq_true rfl)

theorem movAlMem (addr : Word) : Statement (.movAlMem addr) :=
  of_length rfl (Nat.le_of_ble_eq_true rfl) (Nat.le_of_ble_eq_true rfl)

theorem movAwMem (addr : Word) : Statement (.movAwMem addr) :=
  of_length rfl (Nat.le_of_ble_eq_true rfl) (Nat.le_of_ble_eq_true rfl)

theorem movMemAl (addr : Word) : Statement (.movMemAl addr) :=
  of_length rfl (Nat.le_of_ble_eq_true rfl) (Nat.le_of_ble_eq_true rfl)

theorem movMemAw (addr : Word) : Statement (.movMemAw addr) :=
  of_length rfl (Nat.le_of_ble_eq_true rfl) (Nat.le_of_ble_eq_true rfl)

theorem testAlImm8 (imm : Byte) : Statement (.testAlImm8 imm) :=
  of_length rfl (Nat.le_of_ble_eq_true rfl) (Nat.le_of_ble_eq_true rfl)

theorem testAwImm16 (imm : Word) : Statement (.testAwImm16 imm) :=
  of_length rfl (Nat.le_of_ble_eq_true rfl) (Nat.le_of_ble_eq_true rfl)

theorem movReg8Imm8 (r : Reg8) (imm : Byte) : Statement (.movReg8Imm8 r imm) :=
  of_length rfl (Nat.le_of_ble_eq_true rfl) (Nat.le_of_ble_eq_true rfl)

theorem movReg16Imm16 (r : Reg16) (imm : Word) : Statement (.movReg16Imm16 r imm) :=
  of_length rfl (Nat.le_of_ble_eq_true rfl) (Nat.le_of_ble_eq_true rfl)

theorem rolEbImm8 (e : RM Reg8) (imm : Byte) : Statement (.rolEbImm8 e imm) :=
  of_parts [_] [_] rfl (rm8_length e (0)) (Nat.le_of_ble_eq_true rfl)

theorem rorEbImm8 (e : RM Reg8) (imm : Byte) : Statement (.rorEbImm8 e imm) :=
  of_parts [_] [_] rfl (rm8_length e (1)) (Nat.le_of_ble_eq_true rfl)

theorem rolcEbImm8 (e : RM Reg8) (imm : Byte) : Statement (.rolcEbImm8 e imm) :=
  of_parts [_] [_] rfl (rm8_length e (2)) (Nat.le_of_ble_eq_true rfl)

theorem rorcEbImm8 (e : RM Reg8) (imm : Byte) : Statement (.rorcEbImm8 e imm) :=
  of_parts [_] [_] rfl (rm8_length e (3)) (Nat.le_of_ble_eq_true rfl)

theorem shlEbImm8 (e : RM Reg8) (imm : Byte) : Statement (.shlEbImm8 e imm) :=
  of_parts [_] [_] rfl (rm8_length e (4)) (Nat.le_of_ble_eq_true rfl)

theorem shrEbImm8 (e : RM Reg8) (imm : Byte) : Statement (.shrEbImm8 e imm) :=
  of_parts [_] [_] rfl (rm8_length e (5)) (Nat.le_of_ble_eq_true rfl)

theorem shraEbImm8 (e : RM Reg8) (imm : Byte) : Statement (.shraEbImm8 e imm) :=
  of_parts [_] [_] rfl (rm8_length e (7)) (Nat.le_of_ble_eq_true rfl)

theorem rolEwImm8 (e : RM Reg16) (imm : Byte) : Statement (.rolEwImm8 e imm) :=
  of_parts [_] [_] rfl (rm16_length e (0)) (Nat.le_of_ble_eq_true rfl)

theorem rorEwImm8 (e : RM Reg16) (imm : Byte) : Statement (.rorEwImm8 e imm) :=
  of_parts [_] [_] rfl (rm16_length e (1)) (Nat.le_of_ble_eq_true rfl)

theorem rolcEwImm8 (e : RM Reg16) (imm : Byte) : Statement (.rolcEwImm8 e imm) :=
  of_parts [_] [_] rfl (rm16_length e (2)) (Nat.le_of_ble_eq_true rfl)

theorem rorcEwImm8 (e : RM Reg16) (imm : Byte) : Statement (.rorcEwImm8 e imm) :=
  of_parts [_] [_] rfl (rm16_length e (3)) (Nat.le_of_ble_eq_true rfl)

theorem shlEwImm8 (e : RM Reg16) (imm : Byte) : Statement (.shlEwImm8 e imm) :=
  of_parts [_] [_] rfl (rm16_length e (4)) (Nat.le_of_ble_eq_true rfl)

theorem shrEwImm8 (e : RM Reg16) (imm : Byte) : Statement (.shrEwImm8 e imm) :=
  of_parts [_] [_] rfl (rm16_length e (5)) (Nat.le_of_ble_eq_true rfl)

theorem shraEwImm8 (e : RM Reg16) (imm : Byte) : Statement (.shraEwImm8 e imm) :=
  of_parts [_] [_] rfl (rm16_length e (7)) (Nat.le_of_ble_eq_true rfl)

theorem rolEb1 (e : RM Reg8) : Statement (.rolEb1 e) :=
  of_front [_] rfl (rm8_length e (0)) (Nat.le_of_ble_eq_true rfl)

theorem rorEb1 (e : RM Reg8) : Statement (.rorEb1 e) :=
  of_front [_] rfl (rm8_length e (1)) (Nat.le_of_ble_eq_true rfl)

theorem rolcEb1 (e : RM Reg8) : Statement (.rolcEb1 e) :=
  of_front [_] rfl (rm8_length e (2)) (Nat.le_of_ble_eq_true rfl)

theorem rorcEb1 (e : RM Reg8) : Statement (.rorcEb1 e) :=
  of_front [_] rfl (rm8_length e (3)) (Nat.le_of_ble_eq_true rfl)

theorem shlEb1 (e : RM Reg8) : Statement (.shlEb1 e) :=
  of_front [_] rfl (rm8_length e (4)) (Nat.le_of_ble_eq_true rfl)

theorem shrEb1 (e : RM Reg8) : Statement (.shrEb1 e) :=
  of_front [_] rfl (rm8_length e (5)) (Nat.le_of_ble_eq_true rfl)

theorem shraEb1 (e : RM Reg8) : Statement (.shraEb1 e) :=
  of_front [_] rfl (rm8_length e (7)) (Nat.le_of_ble_eq_true rfl)

theorem rolEw1 (e : RM Reg16) : Statement (.rolEw1 e) :=
  of_front [_] rfl (rm16_length e (0)) (Nat.le_of_ble_eq_true rfl)

theorem rorEw1 (e : RM Reg16) : Statement (.rorEw1 e) :=
  of_front [_] rfl (rm16_length e (1)) (Nat.le_of_ble_eq_true rfl)

theorem rolcEw1 (e : RM Reg16) : Statement (.rolcEw1 e) :=
  of_front [_] rfl (rm16_length e (2)) (Nat.le_of_ble_eq_true rfl)

theorem rorcEw1 (e : RM Reg16) : Statement (.rorcEw1 e) :=
  of_front [_] rfl (rm16_length e (3)) (Nat.le_of_ble_eq_true rfl)

theorem shlEw1 (e : RM Reg16) : Statement (.shlEw1 e) :=
  of_front [_] rfl (rm16_length e (4)) (Nat.le_of_ble_eq_true rfl)

theorem shrEw1 (e : RM Reg16) : Statement (.shrEw1 e) :=
  of_front [_] rfl (rm16_length e (5)) (Nat.le_of_ble_eq_true rfl)

theorem shraEw1 (e : RM Reg16) : Statement (.shraEw1 e) :=
  of_front [_] rfl (rm16_length e (7)) (Nat.le_of_ble_eq_true rfl)

theorem rolEbCl (e : RM Reg8) : Statement (.rolEbCl e) :=
  of_front [_] rfl (rm8_length e (0)) (Nat.le_of_ble_eq_true rfl)

theorem rorEbCl (e : RM Reg8) : Statement (.rorEbCl e) :=
  of_front [_] rfl (rm8_length e (1)) (Nat.le_of_ble_eq_true rfl)

theorem rolcEbCl (e : RM Reg8) : Statement (.rolcEbCl e) :=
  of_front [_] rfl (rm8_length e (2)) (Nat.le_of_ble_eq_true rfl)

theorem rorcEbCl (e : RM Reg8) : Statement (.rorcEbCl e) :=
  of_front [_] rfl (rm8_length e (3)) (Nat.le_of_ble_eq_true rfl)

theorem shlEbCl (e : RM Reg8) : Statement (.shlEbCl e) :=
  of_front [_] rfl (rm8_length e (4)) (Nat.le_of_ble_eq_true rfl)

theorem shrEbCl (e : RM Reg8) : Statement (.shrEbCl e) :=
  of_front [_] rfl (rm8_length e (5)) (Nat.le_of_ble_eq_true rfl)

theorem shraEbCl (e : RM Reg8) : Statement (.shraEbCl e) :=
  of_front [_] rfl (rm8_length e (7)) (Nat.le_of_ble_eq_true rfl)

theorem rolEwCl (e : RM Reg16) : Statement (.rolEwCl e) :=
  of_front [_] rfl (rm16_length e (0)) (Nat.le_of_ble_eq_true rfl)

theorem rorEwCl (e : RM Reg16) : Statement (.rorEwCl e) :=
  of_front [_] rfl (rm16_length e (1)) (Nat.le_of_ble_eq_true rfl)

theorem rolcEwCl (e : RM Reg16) : Statement (.rolcEwCl e) :=
  of_front [_] rfl (rm16_length e (2)) (Nat.le_of_ble_eq_true rfl)

theorem rorcEwCl (e : RM Reg16) : Statement (.rorcEwCl e) :=
  of_front [_] rfl (rm16_length e (3)) (Nat.le_of_ble_eq_true rfl)

theorem shlEwCl (e : RM Reg16) : Statement (.shlEwCl e) :=
  of_front [_] rfl (rm16_length e (4)) (Nat.le_of_ble_eq_true rfl)

theorem shrEwCl (e : RM Reg16) : Statement (.shrEwCl e) :=
  of_front [_] rfl (rm16_length e (5)) (Nat.le_of_ble_eq_true rfl)

theorem shraEwCl (e : RM Reg16) : Statement (.shraEwCl e) :=
  of_front [_] rfl (rm16_length e (7)) (Nat.le_of_ble_eq_true rfl)

theorem retNearPop (imm : Word) : Statement (.retNearPop imm) :=
  of_length rfl (Nat.le_of_ble_eq_true rfl) (Nat.le_of_ble_eq_true rfl)

theorem movDs1Mem32 (r : Reg16) (m : MemOp) : Statement (.movDs1Mem32 r m) :=
  of_front [_] rfl (memOp_length m (r.num)) (Nat.le_of_ble_eq_true rfl)

theorem movDs0Mem32 (r : Reg16) (m : MemOp) : Statement (.movDs0Mem32 r m) :=
  of_front [_] rfl (memOp_length m (r.num)) (Nat.le_of_ble_eq_true rfl)

theorem movEbImm8 (e : RM Reg8) (imm : Byte) : Statement (.movEbImm8 e imm) :=
  of_parts [_] [_] rfl (rm8_length e (0)) (Nat.le_of_ble_eq_true rfl)

theorem movEwImm16 (e : RM Reg16) (imm : Word) : Statement (.movEwImm16 e imm) :=
  of_parts [_] [_, _] rfl (rm16_length e (0)) (Nat.le_of_ble_eq_true rfl)

theorem prepare (size : Word) (level : Byte) : Statement (.prepare size level) :=
  of_length rfl (Nat.le_of_ble_eq_true rfl) (Nat.le_of_ble_eq_true rfl)

theorem retFarPop (imm : Word) : Statement (.retFarPop imm) :=
  of_length rfl (Nat.le_of_ble_eq_true rfl) (Nat.le_of_ble_eq_true rfl)

theorem brkImm8 (imm : Byte) : Statement (.brkImm8 imm) :=
  of_length rfl (Nat.le_of_ble_eq_true rfl) (Nat.le_of_ble_eq_true rfl)

theorem fpo1 (op : BitVec 3) (reg : BitVec 3) (e : RM Reg16) : Statement (.fpo1 op reg e) :=
  of_front [_] rfl (rm16_length e (reg)) (Nat.le_of_ble_eq_true rfl)

theorem dbnzne (disp : Byte) : Statement (.dbnzne disp) :=
  of_length rfl (Nat.le_of_ble_eq_true rfl) (Nat.le_of_ble_eq_true rfl)

theorem dbnze (disp : Byte) : Statement (.dbnze disp) :=
  of_length rfl (Nat.le_of_ble_eq_true rfl) (Nat.le_of_ble_eq_true rfl)

theorem dbnz (disp : Byte) : Statement (.dbnz disp) :=
  of_length rfl (Nat.le_of_ble_eq_true rfl) (Nat.le_of_ble_eq_true rfl)

theorem bcwz (disp : Byte) : Statement (.bcwz disp) :=
  of_length rfl (Nat.le_of_ble_eq_true rfl) (Nat.le_of_ble_eq_true rfl)

theorem inAlImm8 (imm : Byte) : Statement (.inAlImm8 imm) :=
  of_length rfl (Nat.le_of_ble_eq_true rfl) (Nat.le_of_ble_eq_true rfl)

theorem inAwImm8 (imm : Byte) : Statement (.inAwImm8 imm) :=
  of_length rfl (Nat.le_of_ble_eq_true rfl) (Nat.le_of_ble_eq_true rfl)

theorem outImm8Al (imm : Byte) : Statement (.outImm8Al imm) :=
  of_length rfl (Nat.le_of_ble_eq_true rfl) (Nat.le_of_ble_eq_true rfl)

theorem outImm8Aw (imm : Byte) : Statement (.outImm8Aw imm) :=
  of_length rfl (Nat.le_of_ble_eq_true rfl) (Nat.le_of_ble_eq_true rfl)

theorem callNear (disp : Word) : Statement (.callNear disp) :=
  of_length rfl (Nat.le_of_ble_eq_true rfl) (Nat.le_of_ble_eq_true rfl)

theorem brNear (disp : Word) : Statement (.brNear disp) :=
  of_length rfl (Nat.le_of_ble_eq_true rfl) (Nat.le_of_ble_eq_true rfl)

theorem brFar (off : Word) (seg : Word) : Statement (.brFar off seg) :=
  of_length rfl (Nat.le_of_ble_eq_true rfl) (Nat.le_of_ble_eq_true rfl)

theorem brShort (disp : Byte) : Statement (.brShort disp) :=
  of_length rfl (Nat.le_of_ble_eq_true rfl) (Nat.le_of_ble_eq_true rfl)

theorem testEbImm8 (e : RM Reg8) (imm : Byte) : Statement (.testEbImm8 e imm) :=
  of_parts [_] [_] rfl (rm8_length e (0)) (Nat.le_of_ble_eq_true rfl)

theorem notEb (e : RM Reg8) : Statement (.notEb e) :=
  of_front [_] rfl (rm8_length e (2)) (Nat.le_of_ble_eq_true rfl)

theorem negEb (e : RM Reg8) : Statement (.negEb e) :=
  of_front [_] rfl (rm8_length e (3)) (Nat.le_of_ble_eq_true rfl)

theorem muluEb (e : RM Reg8) : Statement (.muluEb e) :=
  of_front [_] rfl (rm8_length e (4)) (Nat.le_of_ble_eq_true rfl)

theorem mulEb (e : RM Reg8) : Statement (.mulEb e) :=
  of_front [_] rfl (rm8_length e (5)) (Nat.le_of_ble_eq_true rfl)

theorem divuEb (e : RM Reg8) : Statement (.divuEb e) :=
  of_front [_] rfl (rm8_length e (6)) (Nat.le_of_ble_eq_true rfl)

theorem divEb (e : RM Reg8) : Statement (.divEb e) :=
  of_front [_] rfl (rm8_length e (7)) (Nat.le_of_ble_eq_true rfl)

theorem testEwImm16 (e : RM Reg16) (imm : Word) : Statement (.testEwImm16 e imm) :=
  of_parts [_] [_, _] rfl (rm16_length e (0)) (Nat.le_of_ble_eq_true rfl)

theorem notEw (e : RM Reg16) : Statement (.notEw e) :=
  of_front [_] rfl (rm16_length e (2)) (Nat.le_of_ble_eq_true rfl)

theorem negEw (e : RM Reg16) : Statement (.negEw e) :=
  of_front [_] rfl (rm16_length e (3)) (Nat.le_of_ble_eq_true rfl)

theorem muluEw (e : RM Reg16) : Statement (.muluEw e) :=
  of_front [_] rfl (rm16_length e (4)) (Nat.le_of_ble_eq_true rfl)

theorem mulEw (e : RM Reg16) : Statement (.mulEw e) :=
  of_front [_] rfl (rm16_length e (5)) (Nat.le_of_ble_eq_true rfl)

theorem divuEw (e : RM Reg16) : Statement (.divuEw e) :=
  of_front [_] rfl (rm16_length e (6)) (Nat.le_of_ble_eq_true rfl)

theorem divEw (e : RM Reg16) : Statement (.divEw e) :=
  of_front [_] rfl (rm16_length e (7)) (Nat.le_of_ble_eq_true rfl)

theorem incEb (e : RM Reg8) : Statement (.incEb e) :=
  of_front [_] rfl (rm8_length e (0)) (Nat.le_of_ble_eq_true rfl)

theorem decEb (e : RM Reg8) : Statement (.decEb e) :=
  of_front [_] rfl (rm8_length e (1)) (Nat.le_of_ble_eq_true rfl)

theorem incEw (e : RM Reg16) : Statement (.incEw e) :=
  of_front [_] rfl (rm16_length e (0)) (Nat.le_of_ble_eq_true rfl)

theorem decEw (e : RM Reg16) : Statement (.decEw e) :=
  of_front [_] rfl (rm16_length e (1)) (Nat.le_of_ble_eq_true rfl)

theorem callEw (e : RM Reg16) : Statement (.callEw e) :=
  of_front [_] rfl (rm16_length e (2)) (Nat.le_of_ble_eq_true rfl)

theorem callMem32 (m : MemOp) : Statement (.callMem32 m) :=
  of_front [_] rfl (memOp_length m (3)) (Nat.le_of_ble_eq_true rfl)

theorem brEw (e : RM Reg16) : Statement (.brEw e) :=
  of_front [_] rfl (rm16_length e (4)) (Nat.le_of_ble_eq_true rfl)

theorem brMem32 (m : MemOp) : Statement (.brMem32 m) :=
  of_front [_] rfl (memOp_length m (5)) (Nat.le_of_ble_eq_true rfl)

theorem pushEw (e : RM Reg16) : Statement (.pushEw e) :=
  of_front [_] rfl (rm16_length e (6)) (Nat.le_of_ble_eq_true rfl)

theorem test1EbCl (e : RM Reg8) : Statement (.test1EbCl e) :=
  of_front [_, _] rfl (rm8_length e (0)) (Nat.le_of_ble_eq_true rfl)

theorem test1EwCl (e : RM Reg16) : Statement (.test1EwCl e) :=
  of_front [_, _] rfl (rm16_length e (0)) (Nat.le_of_ble_eq_true rfl)

theorem test1EbImm3 (e : RM Reg8) (imm : Byte) : Statement (.test1EbImm3 e imm) :=
  of_parts [_, _] [_] rfl (rm8_length e (0)) (Nat.le_of_ble_eq_true rfl)

theorem test1EwImm4 (e : RM Reg16) (imm : Byte) : Statement (.test1EwImm4 e imm) :=
  of_parts [_, _] [_] rfl (rm16_length e (0)) (Nat.le_of_ble_eq_true rfl)

theorem clr1EbCl (e : RM Reg8) : Statement (.clr1EbCl e) :=
  of_front [_, _] rfl (rm8_length e (0)) (Nat.le_of_ble_eq_true rfl)

theorem clr1EwCl (e : RM Reg16) : Statement (.clr1EwCl e) :=
  of_front [_, _] rfl (rm16_length e (0)) (Nat.le_of_ble_eq_true rfl)

theorem clr1EbImm3 (e : RM Reg8) (imm : Byte) : Statement (.clr1EbImm3 e imm) :=
  of_parts [_, _] [_] rfl (rm8_length e (0)) (Nat.le_of_ble_eq_true rfl)

theorem clr1EwImm4 (e : RM Reg16) (imm : Byte) : Statement (.clr1EwImm4 e imm) :=
  of_parts [_, _] [_] rfl (rm16_length e (0)) (Nat.le_of_ble_eq_true rfl)

theorem set1EbCl (e : RM Reg8) : Statement (.set1EbCl e) :=
  of_front [_, _] rfl (rm8_length e (0)) (Nat.le_of_ble_eq_true rfl)

theorem set1EwCl (e : RM Reg16) : Statement (.set1EwCl e) :=
  of_front [_, _] rfl (rm16_length e (0)) (Nat.le_of_ble_eq_true rfl)

theorem set1EbImm3 (e : RM Reg8) (imm : Byte) : Statement (.set1EbImm3 e imm) :=
  of_parts [_, _] [_] rfl (rm8_length e (0)) (Nat.le_of_ble_eq_true rfl)

theorem set1EwImm4 (e : RM Reg16) (imm : Byte) : Statement (.set1EwImm4 e imm) :=
  of_parts [_, _] [_] rfl (rm16_length e (0)) (Nat.le_of_ble_eq_true rfl)

theorem not1EbCl (e : RM Reg8) : Statement (.not1EbCl e) :=
  of_front [_, _] rfl (rm8_length e (0)) (Nat.le_of_ble_eq_true rfl)

theorem not1EwCl (e : RM Reg16) : Statement (.not1EwCl e) :=
  of_front [_, _] rfl (rm16_length e (0)) (Nat.le_of_ble_eq_true rfl)

theorem not1EbImm3 (e : RM Reg8) (imm : Byte) : Statement (.not1EbImm3 e imm) :=
  of_parts [_, _] [_] rfl (rm8_length e (0)) (Nat.le_of_ble_eq_true rfl)

theorem not1EwImm4 (e : RM Reg16) (imm : Byte) : Statement (.not1EwImm4 e imm) :=
  of_parts [_, _] [_] rfl (rm16_length e (0)) (Nat.le_of_ble_eq_true rfl)

theorem rol4Eb (e : RM Reg8) : Statement (.rol4Eb e) :=
  of_front [_, _] rfl (rm8_length e (0)) (Nat.le_of_ble_eq_true rfl)

theorem ror4Eb (e : RM Reg8) : Statement (.ror4Eb e) :=
  of_front [_, _] rfl (rm8_length e (0)) (Nat.le_of_ble_eq_true rfl)

theorem brkcsReg16 (r : Reg16) : Statement (.brkcsReg16 r) :=
  of_length rfl (Nat.le_of_ble_eq_true rfl) (Nat.le_of_ble_eq_true rfl)

theorem insReg8Reg8 (off : Reg8) (len : Reg8) : Statement (.insReg8Reg8 off len) :=
  of_length rfl (Nat.le_of_ble_eq_true rfl) (Nat.le_of_ble_eq_true rfl)

theorem extReg8Reg8 (off : Reg8) (len : Reg8) : Statement (.extReg8Reg8 off len) :=
  of_length rfl (Nat.le_of_ble_eq_true rfl) (Nat.le_of_ble_eq_true rfl)

theorem insReg8Imm4 (off : Reg8) (imm : Byte) : Statement (.insReg8Imm4 off imm) :=
  of_length rfl (Nat.le_of_ble_eq_true rfl) (Nat.le_of_ble_eq_true rfl)

theorem extReg8Imm4 (off : Reg8) (imm : Byte) : Statement (.extReg8Imm4 off imm) :=
  of_length rfl (Nat.le_of_ble_eq_true rfl) (Nat.le_of_ble_eq_true rfl)

theorem tskswReg16 (r : Reg16) : Statement (.tskswReg16 r) :=
  of_length rfl (Nat.le_of_ble_eq_true rfl) (Nat.le_of_ble_eq_true rfl)

theorem movspbReg16 (r : Reg16) : Statement (.movspbReg16 r) :=
  of_length rfl (Nat.le_of_ble_eq_true rfl) (Nat.le_of_ble_eq_true rfl)

theorem btclr (sfr : Byte) (imm : Byte) (disp : Byte) : Statement (.btclr sfr imm disp) :=
  of_length rfl (Nat.le_of_ble_eq_true rfl) (Nat.le_of_ble_eq_true rfl)

theorem pushDs1 : Statement .pushDs1 :=
  of_length rfl (Nat.le_of_ble_eq_true rfl) (Nat.le_of_ble_eq_true rfl)

theorem pushPs : Statement .pushPs :=
  of_length rfl (Nat.le_of_ble_eq_true rfl) (Nat.le_of_ble_eq_true rfl)

theorem pushSs : Statement .pushSs :=
  of_length rfl (Nat.le_of_ble_eq_true rfl) (Nat.le_of_ble_eq_true rfl)

theorem pushDs0 : Statement .pushDs0 :=
  of_length rfl (Nat.le_of_ble_eq_true rfl) (Nat.le_of_ble_eq_true rfl)

theorem popDs1 : Statement .popDs1 :=
  of_length rfl (Nat.le_of_ble_eq_true rfl) (Nat.le_of_ble_eq_true rfl)

theorem popSs : Statement .popSs :=
  of_length rfl (Nat.le_of_ble_eq_true rfl) (Nat.le_of_ble_eq_true rfl)

theorem popDs0 : Statement .popDs0 :=
  of_length rfl (Nat.le_of_ble_eq_true rfl) (Nat.le_of_ble_eq_true rfl)

theorem prefixDs1 : Statement .prefixDs1 :=
  of_length rfl (Nat.le_of_ble_eq_true rfl) (Nat.le_of_ble_eq_true rfl)

theorem prefixPs : Statement .prefixPs :=
  of_length rfl (Nat.le_of_ble_eq_true rfl) (Nat.le_of_ble_eq_true rfl)

theorem prefixSs : Statement .prefixSs :=
  of_length rfl (Nat.le_of_ble_eq_true rfl) (Nat.le_of_ble_eq_true rfl)

theorem prefixDs0 : Statement .prefixDs0 :=
  of_length rfl (Nat.le_of_ble_eq_true rfl) (Nat.le_of_ble_eq_true rfl)

theorem adj4a : Statement .adj4a :=
  of_length rfl (Nat.le_of_ble_eq_true rfl) (Nat.le_of_ble_eq_true rfl)

theorem adj4s : Statement .adj4s :=
  of_length rfl (Nat.le_of_ble_eq_true rfl) (Nat.le_of_ble_eq_true rfl)

theorem adjba : Statement .adjba :=
  of_length rfl (Nat.le_of_ble_eq_true rfl) (Nat.le_of_ble_eq_true rfl)

theorem adjbs : Statement .adjbs :=
  of_length rfl (Nat.le_of_ble_eq_true rfl) (Nat.le_of_ble_eq_true rfl)

theorem pushR : Statement .pushR :=
  of_length rfl (Nat.le_of_ble_eq_true rfl) (Nat.le_of_ble_eq_true rfl)

theorem popR : Statement .popR :=
  of_length rfl (Nat.le_of_ble_eq_true rfl) (Nat.le_of_ble_eq_true rfl)

theorem prefixRepnc : Statement .prefixRepnc :=
  of_length rfl (Nat.le_of_ble_eq_true rfl) (Nat.le_of_ble_eq_true rfl)

theorem prefixRepc : Statement .prefixRepc :=
  of_length rfl (Nat.le_of_ble_eq_true rfl) (Nat.le_of_ble_eq_true rfl)

theorem inmb : Statement .inmb :=
  of_length rfl (Nat.le_of_ble_eq_true rfl) (Nat.le_of_ble_eq_true rfl)

theorem inmw : Statement .inmw :=
  of_length rfl (Nat.le_of_ble_eq_true rfl) (Nat.le_of_ble_eq_true rfl)

theorem outmb : Statement .outmb :=
  of_length rfl (Nat.le_of_ble_eq_true rfl) (Nat.le_of_ble_eq_true rfl)

theorem outmw : Statement .outmw :=
  of_length rfl (Nat.le_of_ble_eq_true rfl) (Nat.le_of_ble_eq_true rfl)

theorem nop : Statement .nop :=
  of_length rfl (Nat.le_of_ble_eq_true rfl) (Nat.le_of_ble_eq_true rfl)

theorem cvtbw : Statement .cvtbw :=
  of_length rfl (Nat.le_of_ble_eq_true rfl) (Nat.le_of_ble_eq_true rfl)

theorem cvtwl : Statement .cvtwl :=
  of_length rfl (Nat.le_of_ble_eq_true rfl) (Nat.le_of_ble_eq_true rfl)

theorem poll : Statement .poll :=
  of_length rfl (Nat.le_of_ble_eq_true rfl) (Nat.le_of_ble_eq_true rfl)

theorem pushPsw : Statement .pushPsw :=
  of_length rfl (Nat.le_of_ble_eq_true rfl) (Nat.le_of_ble_eq_true rfl)

theorem popPsw : Statement .popPsw :=
  of_length rfl (Nat.le_of_ble_eq_true rfl) (Nat.le_of_ble_eq_true rfl)

theorem movPswAh : Statement .movPswAh :=
  of_length rfl (Nat.le_of_ble_eq_true rfl) (Nat.le_of_ble_eq_true rfl)

theorem movAhPsw : Statement .movAhPsw :=
  of_length rfl (Nat.le_of_ble_eq_true rfl) (Nat.le_of_ble_eq_true rfl)

theorem movbkb : Statement .movbkb :=
  of_length rfl (Nat.le_of_ble_eq_true rfl) (Nat.le_of_ble_eq_true rfl)

theorem movbkw : Statement .movbkw :=
  of_length rfl (Nat.le_of_ble_eq_true rfl) (Nat.le_of_ble_eq_true rfl)

theorem cmpbkb : Statement .cmpbkb :=
  of_length rfl (Nat.le_of_ble_eq_true rfl) (Nat.le_of_ble_eq_true rfl)

theorem cmpbkw : Statement .cmpbkw :=
  of_length rfl (Nat.le_of_ble_eq_true rfl) (Nat.le_of_ble_eq_true rfl)

theorem stmb : Statement .stmb :=
  of_length rfl (Nat.le_of_ble_eq_true rfl) (Nat.le_of_ble_eq_true rfl)

theorem stmw : Statement .stmw :=
  of_length rfl (Nat.le_of_ble_eq_true rfl) (Nat.le_of_ble_eq_true rfl)

theorem ldmb : Statement .ldmb :=
  of_length rfl (Nat.le_of_ble_eq_true rfl) (Nat.le_of_ble_eq_true rfl)

theorem ldmw : Statement .ldmw :=
  of_length rfl (Nat.le_of_ble_eq_true rfl) (Nat.le_of_ble_eq_true rfl)

theorem cmpmb : Statement .cmpmb :=
  of_length rfl (Nat.le_of_ble_eq_true rfl) (Nat.le_of_ble_eq_true rfl)

theorem cmpmw : Statement .cmpmw :=
  of_length rfl (Nat.le_of_ble_eq_true rfl) (Nat.le_of_ble_eq_true rfl)

theorem retNear : Statement .retNear :=
  of_length rfl (Nat.le_of_ble_eq_true rfl) (Nat.le_of_ble_eq_true rfl)

theorem dispose : Statement .dispose :=
  of_length rfl (Nat.le_of_ble_eq_true rfl) (Nat.le_of_ble_eq_true rfl)

theorem retFar : Statement .retFar :=
  of_length rfl (Nat.le_of_ble_eq_true rfl) (Nat.le_of_ble_eq_true rfl)

theorem brk3 : Statement .brk3 :=
  of_length rfl (Nat.le_of_ble_eq_true rfl) (Nat.le_of_ble_eq_true rfl)

theorem brkv : Statement .brkv :=
  of_length rfl (Nat.le_of_ble_eq_true rfl) (Nat.le_of_ble_eq_true rfl)

theorem reti : Statement .reti :=
  of_length rfl (Nat.le_of_ble_eq_true rfl) (Nat.le_of_ble_eq_true rfl)

theorem cvtbd : Statement .cvtbd :=
  of_length rfl (Nat.le_of_ble_eq_true rfl) (Nat.le_of_ble_eq_true rfl)

theorem cvtdb : Statement .cvtdb :=
  of_length rfl (Nat.le_of_ble_eq_true rfl) (Nat.le_of_ble_eq_true rfl)

theorem trans : Statement .trans :=
  of_length rfl (Nat.le_of_ble_eq_true rfl) (Nat.le_of_ble_eq_true rfl)

theorem inAlDw : Statement .inAlDw :=
  of_length rfl (Nat.le_of_ble_eq_true rfl) (Nat.le_of_ble_eq_true rfl)

theorem inAwDw : Statement .inAwDw :=
  of_length rfl (Nat.le_of_ble_eq_true rfl) (Nat.le_of_ble_eq_true rfl)

theorem outDwAl : Statement .outDwAl :=
  of_length rfl (Nat.le_of_ble_eq_true rfl) (Nat.le_of_ble_eq_true rfl)

theorem outDwAw : Statement .outDwAw :=
  of_length rfl (Nat.le_of_ble_eq_true rfl) (Nat.le_of_ble_eq_true rfl)

theorem prefixBuslock : Statement .prefixBuslock :=
  of_length rfl (Nat.le_of_ble_eq_true rfl) (Nat.le_of_ble_eq_true rfl)

theorem prefixRepne : Statement .prefixRepne :=
  of_length rfl (Nat.le_of_ble_eq_true rfl) (Nat.le_of_ble_eq_true rfl)

theorem prefixRep : Statement .prefixRep :=
  of_length rfl (Nat.le_of_ble_eq_true rfl) (Nat.le_of_ble_eq_true rfl)

theorem halt : Statement .halt :=
  of_length rfl (Nat.le_of_ble_eq_true rfl) (Nat.le_of_ble_eq_true rfl)

theorem not1Cy : Statement .not1Cy :=
  of_length rfl (Nat.le_of_ble_eq_true rfl) (Nat.le_of_ble_eq_true rfl)

theorem clr1Cy : Statement .clr1Cy :=
  of_length rfl (Nat.le_of_ble_eq_true rfl) (Nat.le_of_ble_eq_true rfl)

theorem set1Cy : Statement .set1Cy :=
  of_length rfl (Nat.le_of_ble_eq_true rfl) (Nat.le_of_ble_eq_true rfl)

theorem di : Statement .di :=
  of_length rfl (Nat.le_of_ble_eq_true rfl) (Nat.le_of_ble_eq_true rfl)

theorem ei : Statement .ei :=
  of_length rfl (Nat.le_of_ble_eq_true rfl) (Nat.le_of_ble_eq_true rfl)

theorem clr1Dir : Statement .clr1Dir :=
  of_length rfl (Nat.le_of_ble_eq_true rfl) (Nat.le_of_ble_eq_true rfl)

theorem set1Dir : Statement .set1Dir :=
  of_length rfl (Nat.le_of_ble_eq_true rfl) (Nat.le_of_ble_eq_true rfl)

theorem add4s : Statement .add4s :=
  of_length rfl (Nat.le_of_ble_eq_true rfl) (Nat.le_of_ble_eq_true rfl)

theorem sub4s : Statement .sub4s :=
  of_length rfl (Nat.le_of_ble_eq_true rfl) (Nat.le_of_ble_eq_true rfl)

theorem movspa : Statement .movspa :=
  of_length rfl (Nat.le_of_ble_eq_true rfl) (Nat.le_of_ble_eq_true rfl)

theorem cmp4s : Statement .cmp4s :=
  of_length rfl (Nat.le_of_ble_eq_true rfl) (Nat.le_of_ble_eq_true rfl)

theorem retrbi : Statement .retrbi :=
  of_length rfl (Nat.le_of_ble_eq_true rfl) (Nat.le_of_ble_eq_true rfl)

theorem fint : Statement .fint :=
  of_length rfl (Nat.le_of_ble_eq_true rfl) (Nat.le_of_ble_eq_true rfl)

theorem stop : Statement .stop :=
  of_length rfl (Nat.le_of_ble_eq_true rfl) (Nat.le_of_ble_eq_true rfl)

end Sys2Proof.Laws.EncodedLength
end

