-- ==== Sys2Proof/Laws/Service.lean ====
section
/-! SUPPORT. What a macro service response can do: the frame of its writes, and the canonical forms kept. -/

namespace Sys2Proof.Machine

/-- What the writes of macro service keep. -/
structure ServiceKeeps (s t : State) : Prop where
  banks : ∀ (b : BitVec 3) (off : Nat), 2 ≤ b.toNat → t.bankByte b off = s.bankByte b off
  ext : ∀ a : PhysAddr, s.kindAt a ≠ some .ram ∨ reservedData a = true → t.ext.read a.toNat = s.ext.read a.toNat
  reservedSfr : ∀ o : Byte, sfrByteKind o = .reserved → t.sfr.read o.toNat = s.sfr.read o.toNat
  stbc : s.stbc &&& t.stbc = s.stbc
  memories : s.ext.wf 0x100000 = true → s.iram.wf 0x100 = true → s.sfr.wf 0x100 = true →
    t.ext.wf 0x100000 = true ∧ t.iram.wf 0x100 = true ∧ t.sfr.wf 0x100 = true
  /-- Every field no write can reach. -/
  rest : ∃ i p sb m sf e q, t =
    { s with idb := i, prc := p, stbc := sb, iram := m, sfr := sf, ext := e, queueOld := q }

theorem ServiceKeeps.refl (s : State) : ServiceKeeps s s :=
  ⟨fun _ _ _ => rfl, fun _ _ => rfl, fun _ _ => rfl, BitVec.and_self, fun h1 h2 h3 => ⟨h1, h2, h3⟩,
    _, _, _, _, _, _, _, rfl⟩

theorem ServiceKeeps.memmap {s t : State} (h : ServiceKeeps s t) : t.memmap = s.memmap := by
  obtain ⟨_, _, _, _, _, _, _, rfl⟩ := h.rest; rfl

theorem ServiceKeeps.trans {s t u : State} (h : ServiceKeeps s t) (g : ServiceKeeps t u) : ServiceKeeps s u where
  banks b o hb := (g.banks b o hb).trans (h.banks b o hb)
  ext a ha := (g.ext a (by rwa [State.kindAt, h.memmap])).trans (h.ext a ha)
  reservedSfr o ho := (g.reservedSfr o ho).trans (h.reservedSfr o ho)
  stbc := by rw [← h.stbc, BitVec.and_assoc, g.stbc]
  memories h1 h2 h3 := by obtain ⟨a, b, c⟩ := h.memories h1 h2 h3; exact g.memories a b c
  rest := by
    obtain ⟨_, _, _, _, _, _, _, rfl⟩ := h.rest
    obtain ⟨_, _, _, _, _, _, _, rfl⟩ := g.rest
    exact ⟨_, _, _, _, _, _, _, rfl⟩

theorem serviceKeeps_serviceSfr (s : State) (o v : Byte) : ServiceKeeps s (s.serviceSfr o v) := by
  unfold State.serviceSfr
  split
  · exact { ServiceKeeps.refl s with rest := ⟨_, _, _, _, _, _, _, rfl⟩ }
  split
  · exact { ServiceKeeps.refl s with rest := ⟨_, _, _, _, _, _, _, rfl⟩ }
  split
  · exact .refl s
  split
  · exact { ServiceKeeps.refl s with
      stbc := by show s.stbc &&& (s.stbc ||| v) = s.stbc; ext i; simp +contextual
      rest := ⟨_, _, _, _, _, _, _, rfl⟩ }
  have written (hk : sfrByteKind o ≠ .reserved) : ServiceKeeps s (s.withSfr (s.sfr.write o.toNat v)) :=
    { ServiceKeeps.refl s with
      reservedSfr := fun p hp => Memory.read_write_other _ _ fun e => hk (by rwa [BitVec.eq_of_toNat_eq e])
      memories := fun h1 h2 h3 => ⟨h1, h2, Memory.wf_write h3 o.isLt v⟩
      rest := ⟨_, _, _, _, _, _, _, rfl⟩ }
  split
  · exact .refl s
  · exact .refl s
  · next h _ => exact written h

theorem serviceKeeps_serviceWrite (s : State) (w : Config.ServiceWrite) : ServiceKeeps s (s.serviceWrite w) := by
  cases w with
  | sfr o v => exact serviceKeeps_serviceSfr s o v
  | bank o v =>
    exact { ServiceKeeps.refl s with
      banks := fun b off hb => Memory.read_write_other _ _ (by have := o.isLt; simp only [bankKey]; omega)
      memories := fun h1 h2 h3 => ⟨h1, Memory.wf_write h2 (Nat.lt_trans o.isLt (by decide)) v, h3⟩
      rest := ⟨_, _, _, _, _, _, _, rfl⟩ }
  | memory a v =>
    by_cases h : reservedData a = false ∧ s.kindAt a = some .ram
    · have e : s.serviceWrite (.memory a v) = s.storeExt a v := if_pos h
      rw [e]
      exact { ServiceKeeps.refl s with
        ext := fun b hb => Memory.read_write_other _ _ fun e => by
          obtain rfl := BitVec.eq_of_toNat_eq e
          rcases hb with hb | hb
          · exact hb h.2
          · simp [h.1] at hb
        memories := fun h1 h2 h3 => ⟨Memory.wf_write h1 a.isLt v, h2, h3⟩
        rest := ⟨_, _, _, _, _, _, _, rfl⟩ }
    · have e : s.serviceWrite (.memory a v) = s := if_neg h
      rw [e]; exact .refl s

theorem serviceKeeps_foldl (ws : List Config.ServiceWrite) (s : State) :
    ServiceKeeps s (ws.foldl State.serviceWrite s) := by
  induction ws generalizing s with
  | nil => exact .refl s
  | cons w ws ih => exact (serviceKeeps_serviceWrite s w).trans (ih _)

/-- The writes of a response, before the event and the boundary. -/
theorem State.service_spec (s : State) : ∃ u, ServiceKeeps s u ∧ s.service = (u.withDraws (s.draws + 1)).record .macroService := by
  obtain ⟨a, b, c, d, e, i, p, sb, m, sf, x, q, h⟩ :=
    serviceKeeps_foldl (Config.macroService s.draws s.ext s.iram s.sfr) (s.withDraws (s.draws + 1))
  refine ⟨{ s with idb := i, prc := p, stbc := sb, iram := m, sfr := sf, ext := x, queueOld := q },
    ?_, by unfold State.service; rw [h]; rfl⟩
  rw [h] at a b c d e
  exact ⟨a, b, c, d, e, _, _, _, _, _, _, _, rfl⟩

/-- Everything a macro service response can do. -/
theorem State.serviced_spec (s : State) : Serviced s s.serviced ∧
    (s.ext.wf 0x100000 = true → s.iram.wf 0x100 = true → s.sfr.wf 0x100 = true →
      s.serviced.ext.wf 0x100000 = true ∧ s.serviced.iram.wf 0x100 = true ∧ s.serviced.sfr.wf 0x100 = true) := by
  obtain ⟨u, ⟨a, b, c, d, e, i, p, sb, m, sf, x, q, rfl⟩, hs⟩ := s.service_spec
  unfold State.serviced
  cases hr : s.resume.isNone
  · rw [if_neg (by simp), hs]
    exact ⟨⟨rfl, rfl, rfl, a, b, c, d, by simp [hr], rfl, ⟨rfl, rfl, rfl, rfl, rfl⟩,
      rfl, rfl, rfl, rfl, rfl, rfl, rfl⟩, e⟩
  · rw [if_pos rfl, hs]
    exact ⟨⟨rfl, rfl, rfl, a, b, c, d, by simp [hr], rfl, ⟨rfl, rfl, rfl, rfl, rfl⟩,
      rfl, rfl, rfl, rfl, rfl, rfl, rfl⟩, e⟩

end Sys2Proof.Machine
end

