-- ==== Sys2Proof/Laws/Shapes.lean ====
section
/-! SUPPORT. What the shared shapes of instructions can do: two operands, one operand changed in place, shifts and rotates,
moves. Each shape has a lemma that it completes and one that says what it leaves unchanged. -/

namespace Sys2Proof.Machine

section
variable {w : Nat} {ρ : Type} {z : Size w ρ}

/-! ### Frames of the usual parts -/

/-- A read, then a change of flags, then a write of the place read. -/
theorem frame_of_parts (hz : z.Lawful) {s s1 u t : State} {p : Place ρ} {mask : Word} {v : BitVec w} {loaded : List PhysAddr}
    (h1 : ReadOnly s s1 ∧ Frame s s1 [] 0 loaded []) (h2 : Frame s1 u [] mask [] []) (q2 : Quiet s1 u)
    (hb : u.bank = s1.bank) (h3 : writePlace z.ops p v u = .ok ((), t)) :
    Quiet s t ∧ Frame s t (z.placeKeys s p) mask loaded (z.placeBytes p) := by
  obtain ⟨q3, f3⟩ := writePlace_frame hz h3
  refine ⟨(h1.1.quiet.trans q2).trans q3, ?_⟩
  have hk : z.placeKeys u p = z.placeKeys s p := placeKeys_bank hz (hb.trans h1.1.bank) p
  rw [hk] at f3
  exact ((h1.2.mono (by simp) (by simp) (by simp) (by simp)).trans
    (h2.mono (by simp) (by simp) (by simp) (by simp))).trans (f3.mono (by simp) (by simp) (by simp) (by simp))

/-- The masks of the status flags leave the bank field alone. -/
theorem bankOf_merge {psw mask status : Word} (h : mask &&& 0x7000 = 0) : bankOf (merge psw mask status) = bankOf psw := by
  apply BitVec.eq_of_getLsbD_eq
  intro i hi
  have hm : mask.getLsbD (12 + i) = false := by
    have := congrArg (fun x => x.getLsbD (12 + i)) h
    simp only [BitVec.getLsbD_and] at this
    have h7 : ∀ j : Fin 3, (0x7000 : Word).getLsbD (12 + j.val) = true := by decide
    rw [h7 ⟨i, hi⟩] at this
    simpa using this
  simp only [bankOf, BitVec.getLsbD_extractLsb', hi, decide_true, Bool.true_and]
  rw [getLsbD_merge _ _ _ (by omega), hm]; rfl

@[simp] theorem bank_setStatus (s : State) (status : Word) : (s.setStatus maskStatus status).bank = s.bank :=
  bankOf_merge (by decide)

@[simp] theorem bank_setStatusNoCy (s : State) (status : Word) : (s.setStatus maskStatusNoCy status).bank = s.bank :=
  bankOf_merge (by decide)

@[simp] theorem bank_setStatusRotate (s : State) (status : Word) : (s.setStatus maskRotate status).bank = s.bank :=
  bankOf_merge (by decide)

theorem bank_setStatusShift (s : State) (op : ShiftOp) (status : Word) : (s.setStatus op.mask status).bank = s.bank := by
  unfold ShiftOp.mask; split
  · exact bank_setStatusRotate s status
  · exact bank_setStatus s status

/-! ### Two operands -/

/-- What is left of a two-operand instruction when both operands are known. -/
theorem aluAt_apply (k : Width w ρ) (op : AluOp) (d : Place ρ) (source : M (BitVec w)) {s s1 s2 : State} {a b : BitVec w}
    (h1 : readPlace k d s = .ok (a, s1)) (h2 : source s1 = .ok (b, s2)) :
    ∃ n free, s2.draws ≤ n ∧ aluAt k op d source s =
      (if op.stores then writePlace k d (op.result a b (s2.flag .cy)) else pure ())
        ((s2.withDraws n).setStatus maskStatus (op.status a b (s2.flag .cy) free)) := by
  unfold aluAt
  rw [M.bind_of_ok h1, M.bind_of_ok h2, M.bind_reads]
  cases h : op.isLogical
  · exact ⟨s2.draws, 0, le_refl _, rfl⟩
  · exact ⟨s2.draws + 1, _, Nat.le_succ _, rfl⟩

/-- A two-operand instruction completes if its destination is accessible and its source can be read. -/
theorem aluAt_ends (hz : z.Lawful) {op : AluOp} {d : Place ρ} {source : M (BitVec w)} {s s1 s2 : State} {a b : BitVec w}
    (hd : z.placeOk s d = true) (h1 : readPlace z.ops d s = .ok (a, s1)) (h2 : source s1 = .ok (b, s2)) (hr : ReadOnly s1 s2) :
    ∃ n free t, s2.draws ≤ n ∧ aluAt z.ops op d source s = .ok ((), t) ∧
      (let u := (s2.withDraws n).setStatus maskStatus (op.status a b (s.flag .cy) free)
       if op.stores then writePlace z.ops d (op.result a b (s.flag .cy)) u = .ok ((), t) else t = u) := by
  have hro := (readPlace_frame hz h1).1.trans hr
  obtain ⟨n, free, hn, he⟩ := aluAt_apply z.ops op d source h1 h2
  rw [hro.flag] at he
  have hok : z.placeOk ((s2.withDraws n).setStatus maskStatus (op.status a b (s.flag .cy) free)) d = true := by
    rw [SameMap.placeOk hz ((hro.sameMap.trans (.withDraws _ _)).trans (.setStatus _ _ _)) d, hd]
  cases hs : op.stores
  · simp only [hs, Bool.false_eq_true, if_false] at he
    exact ⟨n, free, _, hn, he, by simp⟩
  · simp only [hs, if_true] at he
    obtain ⟨t, ht⟩ := writePlace_of_ok hz hok (op.result a b (s.flag .cy))
    exact ⟨n, free, t, hn, by rw [he, ht], by simpa using ht⟩

/-- What a two-operand instruction leaves unchanged. -/
theorem aluAt_frame (hz : z.Lawful) {op : AluOp} {d : Place ρ} {source : M (BitVec w)} {s t : State} {loaded : List PhysAddr}
    (hsrc : ∀ {s1 s2 b}, ReadOnly s s1 → source s1 = .ok (b, s2) → ReadOnly s1 s2 ∧ Frame s1 s2 [] 0 loaded [])
    (h : aluAt z.ops op d source s = .ok ((), t)) : Quiet s t ∧
    Frame s t (if op.stores then z.placeKeys s d else []) maskStatus (z.placeBytes d ++ loaded)
      (if op.stores then z.placeBytes d else []) := by
  have h0 := h
  unfold aluAt at h0
  obtain ⟨a, s1, h1, h0⟩ := M.bind_ok.1 h0
  obtain ⟨b, s2, h2, -⟩ := M.bind_ok.1 h0
  obtain ⟨r1, f1⟩ := readPlace_frame hz h1
  obtain ⟨r2, f2⟩ := hsrc r1 h2
  obtain ⟨n, free, -, he⟩ := aluAt_apply z.ops op d source h1 h2
  have hro : ReadOnly s s2 ∧ Frame s s2 [] 0 (z.placeBytes d ++ loaded) [] :=
    ⟨r1.trans r2, (f1.mono (by simp) (by simp) (by simp) (by simp)).trans
      (f2.mono (by simp) (by simp) (by simp) (by simp))⟩
  have hm : Frame s2 ((s2.withDraws n).setStatus maskStatus (op.status a b (s2.flag .cy) free)) [] maskStatus [] [] :=
    ((frame_withDraws s2 n).mono (by simp) (by simp) (by simp) (by simp)).trans (frame_setStatus _ _ _)
  rw [h] at he
  cases hs : op.stores
  · simp only [hs, Bool.false_eq_true, if_false] at he ⊢
    cases he
    exact ⟨hro.1.quiet.trans ((quiet_withDraws _ _).trans (quiet_setStatus _ _ _)),
      (hro.2.mono (by simp) (by simp) (by simp) (by simp)).trans (hm.mono (by simp) (by simp) (by simp) (by simp))⟩
  · simp only [hs, if_true] at he ⊢
    exact frame_of_parts hz hro hm ((quiet_withDraws _ _).trans (quiet_setStatus _ _ _))
      (by rw [bank_setStatus]; rfl) he.symm

/-! ### One operand changed in place -/

theorem modifyPlace_ends (hz : z.Lawful) {d : Place ρ} {s : State} (hd : z.placeOk s d = true) (f : BitVec w → BitVec w) :
    ∃ a s1 t, readPlace z.ops d s = .ok (a, s1) ∧ writePlace z.ops d (f a) s1 = .ok ((), t) ∧
      modifyPlace z.ops d f s = .ok ((), t) := by
  obtain ⟨a, s1, h1, hr⟩ := readPlace_of_ok hz hd
  obtain ⟨t, ht⟩ := writePlace_of_ok hz (by rw [SameMap.placeOk hz hr.sameMap d, hd]) (f a)
  exact ⟨a, s1, t, h1, ht, by unfold modifyPlace; rw [M.bind_of_ok h1, ht]⟩

theorem modifyPlace_frame (hz : z.Lawful) {d : Place ρ} {s t : State} {f : BitVec w → BitVec w}
    (h : modifyPlace z.ops d f s = .ok ((), t)) :
    Quiet s t ∧ Frame s t (z.placeKeys s d) 0 (z.placeBytes d) (z.placeBytes d) := by
  unfold modifyPlace at h
  obtain ⟨a, s1, h1, h2⟩ := M.bind_ok.1 h
  exact frame_of_parts hz (readPlace_frame hz h1) (.refl _ _ _ _ _) (.refl _) rfl h2

/-- A change in place followed by a change of flags. -/
theorem modifyThenFlags_frame (hz : z.Lawful) {d : Place ρ} {s s1 u : State} {a r : BitVec w} {mask status : Word}
    (h1 : readPlace z.ops d s = .ok (a, s1)) (h2 : writePlace z.ops d r s1 = .ok ((), u)) :
    Quiet s (u.setStatus mask status) ∧
      Frame s (u.setStatus mask status) (z.placeKeys s d) mask (z.placeBytes d) (z.placeBytes d) := by
  obtain ⟨q, f⟩ := frame_of_parts hz (mask := 0) (readPlace_frame hz h1) (.refl _ _ _ _ _) (.refl _) rfl h2
  exact ⟨q.trans (quiet_setStatus _ _ _), (f.mono (by simp) (by simp) (by simp) (by simp)).trans
    ((frame_setStatus u mask status).mono (by simp) (by simp) (by simp) (by simp))⟩

/-! ### Shifts and rotates -/

theorem shiftPlace_ends (hz : z.Lawful) (op : ShiftOp) {d : Place ρ} (c : Nat) {s : State} (hd : z.placeOk s d = true) :
    ∃ a s1 n free t, readPlace z.ops d s = .ok (a, s1) ∧ s1.draws ≤ n ∧ shiftPlace z.ops op d c s = .ok ((), t) ∧
      (if c = 0 then writePlace z.ops d a s1 = .ok ((), t)
       else
         let out := op.steps c (a, s.flag .cy)
         writePlace z.ops d out.1 ((s1.withDraws n).setStatus op.mask (op.status out.1 out.2 c free)) = .ok ((), t)) := by
  obtain ⟨a, s1, h1, hr⟩ := readPlace_of_ok hz hd
  unfold shiftPlace
  rw [M.bind_of_ok h1, M.bind_reads, hr.flag]
  by_cases hc : c = 0
  · obtain ⟨t, ht⟩ := writePlace_of_ok hz (by rw [SameMap.placeOk hz hr.sameMap d, hd]) a
    exact ⟨a, s1, s1.draws, 0, t, h1, le_refl _, by simp [hc, ht], by simp [hc, ht]⟩
  · let out := op.steps c (a, s.flag .cy)
    let u := (s1.withDraws (s1.draws + 1)).setStatus op.mask (op.status out.1 out.2 c (Config.freeWord s1.draws))
    have hok : z.placeOk u d = true := by
      rw [SameMap.placeOk hz ((hr.sameMap.trans (.withDraws _ _)).trans (.setStatus _ _ _)) d, hd]
    obtain ⟨t, ht⟩ := writePlace_of_ok hz hok out.1
    refine ⟨a, s1, s1.draws + 1, Config.freeWord s1.draws, t, h1, Nat.le_succ _, ?_, ?_⟩
    · simp only [hc, if_false, M.bind_draw, M.bind_update]; exact ht
    · simp only [hc, if_false]; exact ht

theorem shiftPlace_frame (hz : z.Lawful) {op : ShiftOp} {d : Place ρ} {c : Nat} {s t : State}
    (h : shiftPlace z.ops op d c s = .ok ((), t)) :
    Quiet s t ∧ Frame s t (z.placeKeys s d) op.mask (z.placeBytes d) (z.placeBytes d) := by
  unfold shiftPlace at h
  obtain ⟨a, s1, h1, h⟩ := M.bind_ok.1 h
  rw [M.bind_reads] at h
  have hro := readPlace_frame hz h1
  by_cases hc : c = 0
  · simp only [hc, if_true] at h
    exact frame_of_parts hz hro (.refl _ _ _ _ _) (.refl _) rfl h
  · simp only [hc, if_false, M.bind_draw, M.bind_update] at h
    refine frame_of_parts hz hro ?_ ((quiet_withDraws _ _).trans (quiet_setStatus _ _ _)) ?_ h
    · exact ((frame_withDraws s1 _).mono (by simp) (by simp) (by simp) (by simp)).trans (frame_setStatus _ _ _)
    · exact bank_setStatusShift _ _ _

end

/-! ### The composed shapes with their operands resolved -/

section
variable {w : Nat} {ρ : Type}

theorem act_shiftOnce (k : Width w ρ) (op : ShiftOp) (e : RM ρ) (s : State) :
    act (shiftOnce k op e) s = act (shiftPlace k op (s.place e) 1) s := act_bind_reads _ _ _

theorem act_shiftByCl (k : Width w ρ) (op : ShiftOp) (e : RM ρ) (s : State) :
    act (shiftByCl k op e) s = act (shiftPlace k op (s.place e) (shiftCount (s.reg8 .cl))) s := by
  unfold shiftByCl; rw [act_bind_reads, act_bind_reads]

theorem act_shiftByImm (k : Width w ρ) (op : ShiftOp) (e : RM ρ) (imm : Byte) (s : State) :
    act (shiftByImm k op e imm) s = act (shiftPlace k op (s.place e) (shiftCount imm)) s := act_bind_reads _ _ _

theorem act_modifyRM (k : Width w ρ) (e : RM ρ) (f : BitVec w → BitVec w) (s : State) :
    act (modifyRM k e f) s = act (modifyPlace k (s.place e) f) s := act_bind_reads _ _ _

theorem ReadOnly.place {s t : State} (h : ReadOnly s t) (e : RM ρ) : t.place e = s.place e := by
  obtain ⟨m, ev, n, rfl⟩ := h; rfl

end

/-! ### 32-bit operands -/

/-- A 32-bit operand can be read where `pairOk` says so, and reading it is read-only. -/
theorem readPair_of_ok {seg off : Word} {s : State} (h : s.pairOk seg off = true) :
    ∃ p t, readPair seg off s = .ok (p, t) ∧ ReadOnly s t := by
  simp only [State.pairOk, Bool.and_eq_true, decide_eq_true_eq] at h
  obtain ⟨⟨ho, hlo⟩, hhi⟩ := h
  obtain ⟨lo, s1, h1, r1⟩ := readWord_of_ok hlo
  obtain ⟨hi, s2, h2, r2⟩ := readWord_of_ok (s := s1) (a := phys seg (off + 2)) (by rwa [r1.sameMap.wordOk])
  refine ⟨(lo, hi), s2, ?_, r1.trans r2⟩
  unfold readPair
  rw [if_pos ho, M.bind_of_ok (show readW seg off s = _ from h1), M.bind_of_ok (show readW seg (off + 2) s1 = _ from h2)]
  rfl

/-- A 32-bit operand that does not fit in the segment is refused. -/
theorem readPair_refused {seg off : Word} (h : 0xFFFE ≤ off.toNat) (s : State) :
    readPair seg off s = .error (.refused .operandPastSegmentEnd) := by
  unfold readPair
  rw [if_neg (by omega)]
  rfl

theorem readPair_frame {seg off : Word} {s t : State} {p : Word × Word} (h : readPair seg off s = .ok (p, t)) :
    ReadOnly s t ∧ Frame s t [] 0 ([phys seg off, phys seg off + 1] ++ [phys seg (off + 2), phys seg (off + 2) + 1]) [] := by
  by_cases ho : off.toNat < 0xFFFE
  · unfold readPair at h
    rw [if_pos ho] at h
    obtain ⟨lo, s1, h1, h⟩ := M.bind_ok.1 h
    obtain ⟨hi, s2, h2, h⟩ := M.bind_ok.1 h
    cases h
    obtain ⟨r1, f1⟩ := readWord_frame (show readWord _ s = _ from h1)
    obtain ⟨r2, f2⟩ := readWord_frame (show readWord _ s1 = _ from h2)
    exact ⟨r1.trans r2, (f1.mono (by simp) (by simp) (by simp) (by simp)).trans
      (f2.mono (by simp) (by simp) (by simp) (by simp))⟩
  · rw [readPair_refused (by omega)] at h
    cases h

end Sys2Proof.Machine
end

