-- ==== Sys2Proof/Laws/Stack.lean ====
section
/-! SUPPORT. Words in plain external memory: reading one, storing one, pushing and popping. -/

namespace Sys2Proof.Machine

/-! ### Plain memory -/

theorem State.memAt_iff {s : State} {a : PhysAddr} :
    s.memAt a = true ↔ s.target a = .ext ∧ reservedData a = false ∧ ∃ k, s.kindAt a = some k := by
  simp [State.memAt, Option.isSome_iff_exists, and_assoc]

theorem State.ramAt_iff {s : State} {a : PhysAddr} :
    s.ramAt a = true ↔ s.target a = .ext ∧ reservedData a = false ∧ s.kindAt a = some .ram := by
  simp [State.ramAt, and_assoc]

theorem State.memAt_of_ramAt {s : State} {a : PhysAddr} (h : s.ramAt a = true) : s.memAt a = true := by
  obtain ⟨h1, h2, h3⟩ := State.ramAt_iff.1 h
  exact State.memAt_iff.2 ⟨h1, h2, _, h3⟩

theorem State.byteOk_of_memAt {s : State} {a : PhysAddr} (h : s.memAt a = true) : s.byteOk a = true := by
  simp [State.byteOk, (State.memAt_iff.1 h).1, h]

theorem State.isSfrWord_of_memAt {s : State} {a : PhysAddr} (h : s.memAt a = true) : s.isSfrWord a = false := by
  have h1 := (State.memAt_iff.1 h).1
  have h2 : s.inSfr a = false := by
    unfold State.target at h1
    split at h1
    · cases h1
    · split at h1
      · cases h1
      · next hs => simpa using hs
  simp [State.isSfrWord, h2]

theorem readByte_mem {s : State} {a : PhysAddr} (h : s.memAt a = true) : readByte a s = .ok (s.ext.read a.toNat, s) := by
  have h1 := (State.memAt_iff.1 h).1
  rcases readExt_spec h1 with ⟨-, h2⟩ | ⟨h2, -⟩
  · simp only [readByte, M.bind_reads, h1, h2]
  · simp [h] at h2

theorem writeByte_ram {s : State} {a : PhysAddr} (h : s.ramAt a = true) (v : Byte) :
    writeByte a v s = .ok ((), s.storeExt a v) := by
  obtain ⟨h1, h2, h3⟩ := State.ramAt_iff.1 h
  simp only [writeByte, M.bind_reads, h1, writeExt, h2, h3, Bool.false_eq_true, if_false]

/-- A word in plain memory reads as its two bytes, and nothing changes. -/
theorem readWord_mem {s : State} {a : PhysAddr} (h : s.memWordAt a = true) : readWord a s = .ok (s.extWord a, s) := by
  simp only [State.memWordAt, Bool.and_eq_true] at h
  unfold readWord
  rw [M.bind_reads]
  simp only [State.isSfrWord_of_memAt h.1, Bool.false_eq_true, if_false]
  rw [M.bind_of_ok (readByte_mem h.1), M.bind_of_ok (readByte_mem h.2)]; rfl

/-- A word stored in external memory, low byte first. -/
def State.storeWord (s : State) (a : PhysAddr) (v : Word) : State :=
  (s.storeExt a (v.extractLsb' 0 8)).storeExt (a + 1) (v.extractLsb' 8 8)

theorem sameMap_storeExt (s : State) (a : PhysAddr) (v : Byte) : SameMap s (s.storeExt a v) := ⟨rfl, rfl, rfl⟩
theorem sameMap_storeWord (s : State) (a : PhysAddr) (v : Word) : SameMap s (s.storeWord a v) :=
  (sameMap_storeExt s a _).trans (sameMap_storeExt _ _ _)

theorem sameMap_setReg16 (s : State) (r : Reg16) (v : Word) : SameMap s (s.setReg16 r v) := ⟨rfl, rfl, rfl⟩
theorem sameMap_setSreg (s : State) (r : SReg) (v : Word) : SameMap s (s.setSreg r v) := ⟨rfl, rfl, rfl⟩

theorem SameMap.ramWordAt {s t : State} (h : SameMap s t) (a : PhysAddr) : t.ramWordAt a = s.ramWordAt a := by
  simp only [State.ramWordAt, h.ramAt]

theorem SameMap.memWordAt {s t : State} (h : SameMap s t) (a : PhysAddr) : t.memWordAt a = s.memWordAt a := by
  simp only [State.memWordAt, h.memAt]

theorem writeWord_ram {s : State} {a : PhysAddr} (h : s.ramWordAt a = true) (v : Word) :
    writeWord a v s = .ok ((), s.storeWord a v) := by
  simp only [State.ramWordAt, Bool.and_eq_true] at h
  unfold writeWord
  rw [M.bind_reads]
  simp only [State.isSfrWord_of_memAt (State.memAt_of_ramAt h.1), Bool.false_eq_true, if_false]
  rw [M.bind_of_ok (writeByte_ram h.1 _), writeByte_ram (by rw [(sameMap_storeExt s a _).ramAt]; exact h.2)]; rfl

theorem State.reg16_congr {s t : State} (hi : t.iram = s.iram) (hp : t.psw = s.psw) (r : Reg16) : t.reg16 r = s.reg16 r := by
  simp only [State.reg16, State.bankWord, State.bankByte, State.bank, hi, hp]

theorem State.reg8_congr {s t : State} (hi : t.iram = s.iram) (hp : t.psw = s.psw) (r : Reg8) : t.reg8 r = s.reg8 r := by
  simp only [State.reg8, State.bankByte, State.bank, hi, hp]

theorem State.sreg_congr {s t : State} (hi : t.iram = s.iram) (hp : t.psw = s.psw) (r : SReg) : t.sreg r = s.sreg r := by
  simp only [State.sreg, State.bankWord, State.bankByte, State.bank, hi, hp]

@[simp] theorem State.storeWord_iram (s : State) (a : PhysAddr) (v : Word) : (s.storeWord a v).iram = s.iram := by
  simp only [State.storeWord, State.storeExt_iram]

@[simp] theorem State.storeWord_psw (s : State) (a : PhysAddr) (v : Word) : (s.storeWord a v).psw = s.psw := by
  simp only [State.storeWord, State.storeExt_psw]

@[simp] theorem State.storeWord_pc (s : State) (a : PhysAddr) (v : Word) : (s.storeWord a v).pc = s.pc := by
  simp only [State.storeWord, State.storeExt_pc]

@[simp] theorem State.storeWord_reg16 (s : State) (a : PhysAddr) (v : Word) (r : Reg16) :
    (s.storeWord a v).reg16 r = s.reg16 r := State.reg16_congr (s.storeWord_iram a v) (s.storeWord_psw a v) r

@[simp] theorem State.storeWord_reg8 (s : State) (a : PhysAddr) (v : Word) (r : Reg8) :
    (s.storeWord a v).reg8 r = s.reg8 r := State.reg8_congr (s.storeWord_iram a v) (s.storeWord_psw a v) r

@[simp] theorem State.storeWord_sreg (s : State) (a : PhysAddr) (v : Word) (r : SReg) :
    (s.storeWord a v).sreg r = s.sreg r := State.sreg_congr (s.storeWord_iram a v) (s.storeWord_psw a v) r

theorem quiet_storeExt (s : State) (a : PhysAddr) (v : Byte) : Quiet s (s.storeExt a v) := ⟨rfl, rfl, rfl, rfl, rfl⟩

theorem quiet_storeWord (s : State) (a : PhysAddr) (v : Word) : Quiet s (s.storeWord a v) :=
  (quiet_storeExt s a _).trans (quiet_storeExt _ _ _)

theorem frame_storeWord (s : State) (a : PhysAddr) (v : Word) : Frame s (s.storeWord a v) [] 0 [] [a, a + 1] :=
  ((frame_storeExt s a _).mono (by simp) (by simp) (by simp) (by simp)).trans
    ((frame_storeExt _ (a + 1) _).mono (by simp) (by simp) (by simp) (by simp))

theorem State.storeWord_ext_read (s : State) (a b : PhysAddr) (v : Word) :
    (s.storeWord a v).ext.read b.toNat =
      if a + 1 = b then v.extractLsb' 8 8 else if a = b then v.extractLsb' 0 8 else s.ext.read b.toNat := by
  show Memory.read (Memory.write (Memory.write _ _ _) _ _) _ = _
  rw [Memory.read_write, Memory.read_write]
  by_cases h1 : a + 1 = b
  · rw [if_pos (congrArg BitVec.toNat h1), if_pos h1]
  · rw [if_neg (fun e => h1 (BitVec.eq_of_toNat_eq e)), if_neg h1]
    by_cases h2 : a = b
    · rw [if_pos (congrArg BitVec.toNat h2), if_pos h2]
    · rw [if_neg (fun e => h2 (BitVec.eq_of_toNat_eq e)), if_neg h2]

theorem addr_succ_ne (a : PhysAddr) : a + 1 ≠ a := by
  intro h
  have := congrArg BitVec.toNat h
  rw [BitVec.toNat_add] at this
  have hlt := a.isLt
  have h1 : (1 : PhysAddr).toNat = 1 := rfl
  omega

theorem State.extWord_storeWord_same (s : State) (a : PhysAddr) (v : Word) : (s.storeWord a v).extWord a = v := by
  simp only [State.extWord, State.storeWord_ext_read, if_true, addr_succ_ne a, if_false]
  exact word_split v

theorem State.extWord_storeWord_other (s : State) {a b : PhysAddr} (v : Word) (h1 : a ≠ b) (h2 : a + 1 ≠ b) (h3 : a ≠ b + 1) :
    (s.storeWord a v).extWord b = s.extWord b := by
  have h4 : a + 1 ≠ b + 1 := fun e => h1 (by
    have := congrArg (· - 1) e
    simpa using this)
  simp only [State.extWord, State.storeWord_ext_read, h1, h2, h3, h4, if_false]

/-! ### Addresses of the stack -/

theorem phys_toNat (seg off : Word) : (phys seg off).toNat = (seg.toNat * 16 + off.toNat) % 0x100000 := by
  have h1 := seg.isLt
  have h2 := off.isLt
  simp only [phys, BitVec.toNat_add, BitVec.toNat_shiftLeft, BitVec.toNat_setWidth, Nat.shiftLeft_eq]
  omega

theorem State.below_toNat (s : State) (k : Nat) : (s.below k).toNat =
    ((s.sreg .ss).toNat * 16 + ((s.reg16 .sp).toNat + (0x10000 - k % 0x10000)) % 0x10000) % 0x100000 := by
  rw [State.below, phys_toNat, BitVec.toNat_sub, BitVec.toNat_ofNat]
  congr 2
  omega

/-- Words pushed one after the other do not overlap. -/
theorem State.below_apart (s : State) {i j : Nat} (hi : i ≤ 0x8000) (hj : j ≤ 0x8000) (hij : i + 1 < j ∨ j + 1 < i) :
    s.below i ≠ s.below j ∧ s.below i + 1 ≠ s.below j ∧ s.below i ≠ s.below j + 1 := by
  have h1 := (s.sreg .ss).isLt
  have h2 := (s.reg16 .sp).isLt
  have e1 := s.below_toNat i
  have e2 := s.below_toNat j
  have one : (1 : PhysAddr).toNat = 1 := rfl
  refine ⟨fun e => ?_, fun e => ?_, fun e => ?_⟩
  · have := congrArg BitVec.toNat e
    omega
  · have := congrArg BitVec.toNat e
    rw [BitVec.toNat_add, one] at this
    omega
  · have := congrArg BitVec.toNat e
    rw [BitVec.toNat_add, one] at this
    omega

/-- What lies `i` bytes below the top of the stack once it has been lowered by `k`. -/
theorem State.below_lowered {s t : State} (hs : t.sreg .ss = s.sreg .ss) {k : Nat}
    (hp : t.reg16 .sp = s.reg16 .sp - BitVec.ofNat 16 k) (i : Nat) : t.below i = s.below (k + i) := by
  unfold State.below
  rw [hs, hp, BitVec.sub_sub, ← BitVec.ofNat_add]

/-! ### Push and pop -/

/-- A push on plain RAM stores the word below the top of the stack and lowers SP by two. -/
theorem push16_ram {s : State} (h : s.ramWordAt (s.below 2) = true) (v : Word) :
    push16 v s = .ok ((), (s.setReg16 .sp (s.reg16 .sp - 2)).storeWord (s.below 2) v) := by
  unfold push16
  rw [M.bind_update, M.bind_reads, M.bind_reads]
  have h1 : (s.setReg16 .sp (s.reg16 .sp - 2)).ramWordAt (s.below 2) = true := by
    rw [(sameMap_setReg16 s .sp _).ramWordAt]; exact h
  have h2 : phys ((s.setReg16 .sp (s.reg16 .sp - 2)).sreg .ss) ((s.setReg16 .sp (s.reg16 .sp - 2)).reg16 .sp) = s.below 2 := by
    rw [State.sreg_setReg16, State.reg16_setReg16_same]; rfl
  unfold writeW
  rw [h2, writeWord_ram h1]

theorem State.roomFor_get {s : State} {n : Nat} (h : s.roomFor n = true) {i : Nat} (hi : i < n) :
    s.ramWordAt (s.below (2 * (i + 1))) = true := by
  simp only [State.roomFor, List.all_eq_true, List.mem_range] at h
  exact h i hi

/-- A push in a chain of pushes: `u` is `s` with `k` bytes pushed already. What those bytes hold stays. -/
theorem push16_chain {s u : State} {k : Nat} (hk : k ≤ 0x4000) (m : SameMap s u) (hss : u.sreg .ss = s.sreg .ss)
    (hsp : u.reg16 .sp = s.reg16 .sp - BitVec.ofNat 16 k) (hr : s.ramWordAt (s.below (k + 2)) = true) (v : Word) :
    ∃ t, push16 v u = .ok ((), t) ∧ SameMap s t ∧ t.psw = u.psw ∧ t.bank = u.bank ∧ t.pc = u.pc ∧
      (∀ r, t.sreg r = u.sreg r) ∧ (∀ r, r ≠ .sp → t.reg16 r = u.reg16 r) ∧
      t.reg16 .sp = s.reg16 .sp - BitVec.ofNat 16 (k + 2) ∧ t.extWord (s.below (k + 2)) = v ∧
      (∀ j, 2 ≤ j → j ≤ k → t.extWord (s.below j) = u.extWord (s.below j)) := by
  have hb : u.below 2 = s.below (k + 2) := State.below_lowered hss hsp 2
  have p := push16_ram (s := u) (by rw [m.ramWordAt, hb]; exact hr) v
  rw [hb] at p
  refine ⟨_, p, (m.trans (sameMap_setReg16 _ _ _)).trans (sameMap_storeWord _ _ _), ?_, ?_, ?_, ?_, ?_, ?_, ?_, ?_⟩
  · rw [State.storeWord_psw]; rfl
  · unfold State.bank; rw [State.storeWord_psw]; rfl
  · rw [State.storeWord_pc]; rfl
  · intro r; rw [State.storeWord_sreg, State.sreg_setReg16]
  · intro r hr'; rw [State.storeWord_reg16, State.reg16_setReg16_other _ _ (Ne.symm hr')]
  · rw [State.storeWord_reg16, State.reg16_setReg16_same, hsp, BitVec.sub_sub]
    rw [show (2 : Word) = BitVec.ofNat 16 2 from rfl, ← BitVec.ofNat_add]
  · rw [State.extWord_storeWord_same]
  · intro j h1 h2
    obtain ⟨a, b, c⟩ := s.below_apart (i := k + 2) (j := j) (by omega) (by omega) (by omega)
    rw [State.extWord_storeWord_other _ _ a b c]; rfl

/-- A push completes where its word is accessible. -/
theorem push16_of_ok {s : State} (h : s.wordOk (s.below 2) = true) (v : Word) :
    ∃ t, writeWord (s.below 2) v (s.setReg16 .sp (s.reg16 .sp - 2)) = .ok ((), t) ∧ push16 v s = .ok ((), t) := by
  have h2 : phys ((s.setReg16 .sp (s.reg16 .sp - 2)).sreg .ss) ((s.setReg16 .sp (s.reg16 .sp - 2)).reg16 .sp) = s.below 2 := by
    rw [State.sreg_setReg16, State.reg16_setReg16_same]; rfl
  obtain ⟨t, ht⟩ := writeWord_of_ok (s := s.setReg16 .sp (s.reg16 .sp - 2)) (a := s.below 2)
    (by rw [(sameMap_setReg16 s .sp _).wordOk]; exact h) v
  refine ⟨t, ht, ?_⟩
  unfold push16
  rw [M.bind_update, M.bind_reads, M.bind_reads]
  unfold writeW
  rw [h2, ht]

theorem push16_frame {s t : State} {v : Word} (h : push16 v s = .ok ((), t)) :
    Quiet s t ∧ Frame s t (bankKeys s.bank (offReg16 .sp)) 0 [] [s.below 2, s.below 2 + 1] := by
  unfold push16 at h
  rw [M.bind_update, M.bind_reads, M.bind_reads] at h
  obtain ⟨q, f⟩ := writeWord_frame (show writeWord _ v _ = _ from h)
  have h2 : phys ((s.setReg16 .sp (s.reg16 .sp - 2)).sreg .ss) ((s.setReg16 .sp (s.reg16 .sp - 2)).reg16 .sp) = s.below 2 := by
    rw [State.sreg_setReg16, State.reg16_setReg16_same]; rfl
  rw [h2] at f
  exact ⟨(quiet_setReg16 _ _ _).trans q, ((frame_setReg16 s .sp _).mono (by simp) (by simp) (by simp) (by simp)).trans
    (f.mono (by simp) (by simp) (by simp) (by simp))⟩

theorem State.above_zero (s : State) : s.above 0 = phys (s.sreg .ss) (s.reg16 .sp) := by
  simp [State.above]

/-- A pop from plain memory yields the word on top of the stack and raises SP by two. -/
theorem pop16_mem {s : State} (h : s.memWordAt (s.above 0) = true) :
    pop16 s = .ok (s.extWord (s.above 0), s.setReg16 .sp (s.reg16 .sp + 2)) := by
  rw [State.above_zero] at h ⊢
  unfold pop16 readW
  rw [M.bind_reads, M.bind_reads, M.bind_of_ok (readWord_mem h)]; rfl

/-- A pop completes where its word is accessible. -/
theorem pop16_of_ok {s : State} (h : s.wordOk (s.above 0) = true) :
    ∃ v s1, readWord (s.above 0) s = .ok (v, s1) ∧ ReadOnly s s1 ∧
      pop16 s = .ok (v, s1.setReg16 .sp (s.reg16 .sp + 2)) := by
  obtain ⟨v, s1, h1, hr⟩ := readWord_of_ok h
  refine ⟨v, s1, h1, hr, ?_⟩
  rw [State.above_zero] at h1
  unfold pop16 readW
  rw [M.bind_reads, M.bind_reads, M.bind_of_ok h1, ← hr.reg16]; rfl

theorem pop16_frame {s t : State} {v : Word} (h : pop16 s = .ok (v, t)) :
    Quiet s t ∧ Frame s t (bankKeys s.bank (offReg16 .sp)) 0 [s.above 0, s.above 0 + 1] [] := by
  unfold pop16 at h
  rw [M.bind_reads, M.bind_reads] at h
  obtain ⟨v', s1, h1, h2⟩ := M.bind_ok.1 h
  cases h2
  obtain ⟨r, f⟩ := readWord_frame (show readWord _ s = _ from h1)
  rw [State.above_zero, ← r.bank]
  exact ⟨r.quiet.trans (quiet_setReg16 _ _ _), (f.mono (by simp) (by simp) (by simp) (by simp)).trans
    ((frame_setReg16 s1 .sp _).mono (by simp) (by simp) (by simp) (by simp))⟩

end Sys2Proof.Machine
end

