-- ==== Sys2Proof/Tests/Slice0.lean ====
section
/-! SUPPORT. The model's own tests: the well-formedness smoke tests, one decoded word for every constructor, single steps
from `spec/95_test_vectors.md` (expected results from there; the name of a test is the vector's), and for every obligation
with hypotheses a theorem that shows states and operands meeting them. -/

/-- Bytes put into external memory. -/
def Sys2Proof.Machine.State.poke (s : Sys2Proof.Machine.State) (a : Nat) :
    List Sys2Proof.Byte → Sys2Proof.Machine.State
  | [] => s
  | b :: rest => (s.withExt (s.ext.write a b)).poke (a + 1) rest

namespace Sys2Proof.Tests

open Sys2Proof.Machine

/-! ### Helpers -/

/-- The start state of the vectors: after reset, but at PS:PC = 0000H:0100H. -/
def start : State := (State.reset.setSreg .ps 0x0000).loadPc 0x0100

/-- The step that runs these bytes gives a next state with the property. -/
def ends (bytes : List Byte) (s : State) (p : State → Bool) : Bool :=
  match step (s.placeBytes bytes 0) with
  | .next t => p t
  | _ => false

/-- The step that runs these bytes is refused for this reason. -/
def isRefused (bytes : List Byte) (s : State) (r : Refusal) : Bool :=
  match step (s.placeBytes bytes 0) with
  | .refused q => q == r
  | _ => false

/-- The step that runs these bytes faults for this reason. -/
def isFault (bytes : List Byte) (s : State) (f : Fault) : Bool :=
  match step (s.placeBytes bytes 0) with
  | .fault g => g == f
  | _ => false

/-- Every list of bytes decodes, whole, to the instruction beside it. -/
def decodesAll (l : List (List Byte × Instr)) : Bool :=
  l.all fun p =>
    match decode p.1 with
    | .ok d => d.instr == p.2 && d.length == p.1.length && d.rest.isEmpty
    | .error _ => false

/-! ### Ill-formed terms are refused by the well-formedness check -/

theorem test_wf_bp_alone : (Instr.movRbEb .al (.mem (.based0 .bp))).wellFormed = false := by decide

theorem test_wf_mov_to_ps : (Instr.movSregEw .ps (.reg .aw)).wellFormed = false := by decide

theorem test_wf_xch_aw_aw : (Instr.xchAwReg16 .aw).wellFormed = false := by decide

theorem test_wf_bp_displaced : (Instr.movRbEb .al (.mem (.based8 .bp 0x00))).wellFormed = true := by decide

/-! ### Decoding: one word written out for every constructor -/

/-- Rows 1 to 26 of the opcode table, encoded by hand from R151 to R169. -/
theorem test_decode_01 : decodesAll [
    ([0x00, 0x26, 0x34, 0x12], .addEbRb (.mem (.direct 0x1234)) .ah),
    ([0x01, 0x7E, 0xFE], .addEwRw (.mem (.based8 .bp 0xFE)) .iy),
    ([0x02, 0x95, 0xCD, 0xAB], .addRbEb .dl (.mem (.based16 .iy 0xABCD))),
    ([0x03, 0x2F], .addRwEw .bp (.mem (.based0 .bw))),
    ([0x04, 0x9C], .addAlImm8 0x9C),
    ([0x05, 0x78, 0x56], .addAwImm16 0x5678),
    ([0x80, 0x83, 0xCD, 0xAB, 0x9C], .addEbImm8 (.mem (.based16 .bpIy 0xABCD)) 0x9C),
    ([0x81, 0x01, 0x78, 0x56], .addEwImm16 (.mem (.based0 .bwIy)) 0x5678),
    ([0x82, 0xC4, 0x9C], .addEbImm8Dup (.reg .ah) 0x9C),
    ([0x83, 0x42, 0xFE, 0x9C], .addEwSextImm8 (.mem (.based8 .bpIx 0xFE)) 0x9C),
    ([0x08, 0x14], .orEbRb (.mem (.based0 .ix)) .dl),
    ([0x09, 0xEA], .orEwRw (.reg .dw) .bp),
    ([0x0A, 0x06, 0x34, 0x12], .orRbEb .al (.mem (.direct 0x1234))),
    ([0x0B, 0x5E, 0xFE], .orRwEw .bw (.mem (.based8 .bp 0xFE))),
    ([0x0C, 0x9C], .orAlImm8 0x9C),
    ([0x0D, 0x78, 0x56], .orAwImm16 0x5678),
    ([0x80, 0xCF, 0x9C], .orEbImm8 (.reg .bh) 0x9C),
    ([0x81, 0x48, 0xFE, 0x78, 0x56], .orEwImm16 (.mem (.based8 .bwIx 0xFE)) 0x5678),
    ([0x82, 0x8B, 0xCD, 0xAB, 0x9C], .orEbImm8Dup (.mem (.based16 .bpIy 0xABCD)) 0x9C),
    ([0x83, 0x09, 0x9C], .orEwSextImm8 (.mem (.based0 .bwIy)) 0x9C),
    ([0x10, 0xC4], .addcEbRb (.reg .ah) .al),
    ([0x11, 0x5A, 0xFE], .addcEwRw (.mem (.based8 .bpIx 0xFE)) .bw),
    ([0x12, 0x34], .addcRbEb .dh (.mem (.based0 .ix))),
    ([0x13, 0xCA], .addcRwEw .cw (.reg .dw)),
    ([0x14, 0x9C], .addcAlImm8 0x9C),
    ([0x15, 0x78, 0x56], .addcAwImm16 0x5678)] = true := by decide

/-- Rows 27 to 52 of the opcode table, encoded by hand from R151 to R169. -/
theorem test_decode_02 : decodesAll [
    ([0x80, 0x95, 0xCD, 0xAB, 0x9C], .addcEbImm8 (.mem (.based16 .iy 0xABCD)) 0x9C),
    ([0x81, 0x17, 0x78, 0x56], .addcEwImm16 (.mem (.based0 .bw)) 0x5678),
    ([0x82, 0xD7, 0x9C], .addcEbImm8Dup (.reg .bh) 0x9C),
    ([0x83, 0x50, 0xFE, 0x9C], .addcEwSextImm8 (.mem (.based8 .bwIx 0xFE)) 0x9C),
    ([0x18, 0xB3, 0xCD, 0xAB], .subcEbRb (.mem (.based16 .bpIy 0xABCD)) .dh),
    ([0x19, 0x09], .subcEwRw (.mem (.based0 .bwIy)) .cw),
    ([0x1A, 0xE4], .subcRbEb .ah (.reg .ah)),
    ([0x1B, 0x7A, 0xFE], .subcRwEw .iy (.mem (.based8 .bpIx 0xFE))),
    ([0x1C, 0x9C], .subcAlImm8 0x9C),
    ([0x1D, 0x78, 0x56], .subcAwImm16 0x5678),
    ([0x80, 0x1E, 0x34, 0x12, 0x9C], .subcEbImm8 (.mem (.direct 0x1234)) 0x9C),
    ([0x81, 0x5E, 0xFE, 0x78, 0x56], .subcEwImm16 (.mem (.based8 .bp 0xFE)) 0x5678),
    ([0x82, 0x9D, 0xCD, 0xAB, 0x9C], .subcEbImm8Dup (.mem (.based16 .iy 0xABCD)) 0x9C),
    ([0x83, 0x1F, 0x9C], .subcEwSextImm8 (.mem (.based0 .bw)) 0x9C),
    ([0x20, 0xE7], .andEbRb (.reg .bh) .ah),
    ([0x21, 0x78, 0xFE], .andEwRw (.mem (.based8 .bwIx 0xFE)) .iy),
    ([0x22, 0x93, 0xCD, 0xAB], .andRbEb .dl (.mem (.based16 .bpIy 0xABCD))),
    ([0x23, 0x29], .andRwEw .bp (.mem (.based0 .bwIy))),
    ([0x24, 0x9C], .andAlImm8 0x9C),
    ([0x25, 0x78, 0x56], .andAwImm16 0x5678),
    ([0x80, 0x24, 0x9C], .andEbImm8 (.mem (.based0 .ix)) 0x9C),
    ([0x81, 0xE2, 0x78, 0x56], .andEwImm16 (.reg .dw) 0x5678),
    ([0x82, 0x26, 0x34, 0x12, 0x9C], .andEbImm8Dup (.mem (.direct 0x1234)) 0x9C),
    ([0x83, 0x66, 0xFE, 0x9C], .andEwSextImm8 (.mem (.based8 .bp 0xFE)) 0x9C),
    ([0x28, 0x95, 0xCD, 0xAB], .subEbRb (.mem (.based16 .iy 0xABCD)) .dl),
    ([0x29, 0x2F], .subEwRw (.mem (.based0 .bw)) .bp)] = true := by decide

/-- Rows 53 to 78 of the opcode table, encoded by hand from R151 to R169. -/
theorem test_decode_03 : decodesAll [
    ([0x2A, 0xC7], .subRbEb .al (.reg .bh)),
    ([0x2B, 0x58, 0xFE], .subRwEw .bw (.mem (.based8 .bwIx 0xFE))),
    ([0x2C, 0x9C], .subAlImm8 0x9C),
    ([0x2D, 0x78, 0x56], .subAwImm16 0x5678),
    ([0x80, 0xEC, 0x9C], .subEbImm8 (.reg .ah) 0x9C),
    ([0x81, 0x6A, 0xFE, 0x78, 0x56], .subEwImm16 (.mem (.based8 .bpIx 0xFE)) 0x5678),
    ([0x82, 0x2C, 0x9C], .subEbImm8Dup (.mem (.based0 .ix)) 0x9C),
    ([0x83, 0xEA, 0x9C], .subEwSextImm8 (.reg .dw) 0x9C),
    ([0x30, 0x06, 0x34, 0x12], .xorEbRb (.mem (.direct 0x1234)) .al),
    ([0x31, 0x5E, 0xFE], .xorEwRw (.mem (.based8 .bp 0xFE)) .bw),
    ([0x32, 0xB5, 0xCD, 0xAB], .xorRbEb .dh (.mem (.based16 .iy 0xABCD))),
    ([0x33, 0x0F], .xorRwEw .cw (.mem (.based0 .bw))),
    ([0x34, 0x9C], .xorAlImm8 0x9C),
    ([0x35, 0x78, 0x56], .xorAwImm16 0x5678),
    ([0x80, 0xB3, 0xCD, 0xAB, 0x9C], .xorEbImm8 (.mem (.based16 .bpIy 0xABCD)) 0x9C),
    ([0x81, 0x31, 0x78, 0x56], .xorEwImm16 (.mem (.based0 .bwIy)) 0x5678),
    ([0x82, 0xF4, 0x9C], .xorEbImm8Dup (.reg .ah) 0x9C),
    ([0x83, 0x72, 0xFE, 0x9C], .xorEwSextImm8 (.mem (.based8 .bpIx 0xFE)) 0x9C),
    ([0x38, 0x34], .cmpEbRb (.mem (.based0 .ix)) .dh),
    ([0x39, 0xCA], .cmpEwRw (.reg .dw) .cw),
    ([0x3A, 0x26, 0x34, 0x12], .cmpRbEb .ah (.mem (.direct 0x1234))),
    ([0x3B, 0x7E, 0xFE], .cmpRwEw .iy (.mem (.based8 .bp 0xFE))),
    ([0x3C, 0x9C], .cmpAlImm8 0x9C),
    ([0x3D, 0x78, 0x56], .cmpAwImm16 0x5678),
    ([0x80, 0xFF, 0x9C], .cmpEbImm8 (.reg .bh) 0x9C),
    ([0x81, 0x78, 0xFE, 0x78, 0x56], .cmpEwImm16 (.mem (.based8 .bwIx 0xFE)) 0x5678)] = true := by decide

/-- Rows 79 to 104 of the opcode table, encoded by hand from R151 to R169. -/
theorem test_decode_04 : decodesAll [
    ([0x82, 0xBB, 0xCD, 0xAB, 0x9C], .cmpEbImm8Dup (.mem (.based16 .bpIy 0xABCD)) 0x9C),
    ([0x83, 0x39, 0x9C], .cmpEwSextImm8 (.mem (.based0 .bwIy)) 0x9C),
    ([0x06], .pushDs1),
    ([0x0E], .pushPs),
    ([0x16], .pushSs),
    ([0x1E], .pushDs0),
    ([0x07], .popDs1),
    ([0x17], .popSs),
    ([0x1F], .popDs0),
    ([0x26], .prefixDs1),
    ([0x2E], .prefixPs),
    ([0x36], .prefixSs),
    ([0x3E], .prefixDs0),
    ([0x27], .adj4a),
    ([0x2F], .adj4s),
    ([0x37], .adjba),
    ([0x3F], .adjbs),
    ([0x46], .incReg16 .ix),
    ([0x4F], .decReg16 .iy),
    ([0x51], .pushReg16 .cw),
    ([0x5A], .popReg16 .dw),
    ([0x60], .pushR),
    ([0x61], .popR),
    ([0x62, 0x1F], .chkind .bw (.based0 .bw)),
    ([0x64], .prefixRepnc),
    ([0x65], .prefixRepc)] = true := by decide

/-- Rows 105 to 130 of the opcode table, encoded by hand from R151 to R169. -/
theorem test_decode_05 : decodesAll [
    ([0x67, 0xE4], .fpo2 1 4 (.reg .sp)),
    ([0x68, 0x78, 0x56], .pushImm16 0x5678),
    ([0x69, 0x14, 0x78, 0x56], .mulReg16EwImm16 .dw (.mem (.based0 .ix)) 0x5678),
    ([0x6A, 0x9C], .pushImm8 0x9C),
    ([0x6B, 0x06, 0x34, 0x12, 0x9C], .mulReg16EwImm8 .aw (.mem (.direct 0x1234)) 0x9C),
    ([0x6C], .inmb),
    ([0x6D], .inmw),
    ([0x6E], .outmb),
    ([0x6F], .outmw),
    ([0x70, 0x9C], .bv 0x9C),
    ([0x71, 0x9C], .bnv 0x9C),
    ([0x72, 0x9C], .bc 0x9C),
    ([0x73, 0x9C], .bnc 0x9C),
    ([0x74, 0x9C], .be 0x9C),
    ([0x75, 0x9C], .bne 0x9C),
    ([0x76, 0x9C], .bnh 0x9C),
    ([0x77, 0x9C], .bh 0x9C),
    ([0x78, 0x9C], .bn 0x9C),
    ([0x79, 0x9C], .bp 0x9C),
    ([0x7A, 0x9C], .bpe 0x9C),
    ([0x7B, 0x9C], .bpo 0x9C),
    ([0x7C, 0x9C], .blt 0x9C),
    ([0x7D, 0x9C], .bge 0x9C),
    ([0x7E, 0x9C], .ble 0x9C),
    ([0x7F, 0x9C], .bgt 0x9C),
    ([0x84, 0x7A, 0xFE], .testEbRb (.mem (.based8 .bpIx 0xFE)) .bh)] = true := by decide

/-- Rows 131 to 156 of the opcode table, encoded by hand from R151 to R169. -/
theorem test_decode_06 : decodesAll [
    ([0x85, 0x14], .testEwRw (.mem (.based0 .ix)) .dw),
    ([0x86, 0xEA], .xchEbRb (.reg .dl) .ch),
    ([0x87, 0x06, 0x34, 0x12], .xchEwRw (.mem (.direct 0x1234)) .aw),
    ([0x88, 0x5E, 0xFE], .movEbRb (.mem (.based8 .bp 0xFE)) .bl),
    ([0x89, 0xB5, 0xCD, 0xAB], .movEwRw (.mem (.based16 .iy 0xABCD)) .ix),
    ([0x8A, 0x0F], .movRbEb .cl (.mem (.based0 .bw))),
    ([0x8B, 0xE7], .movRwEw .sp (.reg .iy)),
    ([0x8C, 0x50, 0xFE], .movEwSreg (.mem (.based8 .bwIx 0xFE)) .ss),
    ([0x8D, 0x50, 0xFE], .ldea .dw (.based8 .bwIx 0xFE)),
    ([0x8E, 0x01], .movSregEw .ds1 (.mem (.based0 .bwIy))),
    ([0x8F, 0xC4], .popEw (.reg .sp)),
    ([0x90], .nop),
    ([0x94], .xchAwReg16 .sp),
    ([0x98], .cvtbw),
    ([0x99], .cvtwl),
    ([0x9A, 0x78, 0x56, 0x00, 0xF0], .callFar 0x5678 0xF000),
    ([0x9B], .poll),
    ([0x9C], .pushPsw),
    ([0x9D], .popPsw),
    ([0x9E], .movPswAh),
    ([0x9F], .movAhPsw),
    ([0xA0, 0x78, 0x56], .movAlMem 0x5678),
    ([0xA1, 0x78, 0x56], .movAwMem 0x5678),
    ([0xA2, 0x78, 0x56], .movMemAl 0x5678),
    ([0xA3, 0x78, 0x56], .movMemAw 0x5678),
    ([0xA4], .movbkb)] = true := by decide

/-- Rows 157 to 182 of the opcode table, encoded by hand from R151 to R169. -/
theorem test_decode_07 : decodesAll [
    ([0xA5], .movbkw),
    ([0xA6], .cmpbkb),
    ([0xA7], .cmpbkw),
    ([0xA8, 0x9C], .testAlImm8 0x9C),
    ([0xA9, 0x78, 0x56], .testAwImm16 0x5678),
    ([0xAA], .stmb),
    ([0xAB], .stmw),
    ([0xAC], .ldmb),
    ([0xAD], .ldmw),
    ([0xAE], .cmpmb),
    ([0xAF], .cmpmw),
    ([0xB5, 0x9C], .movReg8Imm8 .ch 0x9C),
    ([0xBD, 0x78, 0x56], .movReg16Imm16 .bp 0x5678),
    ([0xC0, 0x46, 0xFE, 0x9C], .rolEbImm8 (.mem (.based8 .bp 0xFE)) 0x9C),
    ([0xC0, 0x8D, 0xCD, 0xAB, 0x9C], .rorEbImm8 (.mem (.based16 .iy 0xABCD)) 0x9C),
    ([0xC0, 0x17, 0x9C], .rolcEbImm8 (.mem (.based0 .bw)) 0x9C),
    ([0xC0, 0xDF, 0x9C], .rorcEbImm8 (.reg .bh) 0x9C),
    ([0xC0, 0x60, 0xFE, 0x9C], .shlEbImm8 (.mem (.based8 .bwIx 0xFE)) 0x9C),
    ([0xC0, 0xAB, 0xCD, 0xAB, 0x9C], .shrEbImm8 (.mem (.based16 .bpIy 0xABCD)) 0x9C),
    ([0xC0, 0x39, 0x9C], .shraEbImm8 (.mem (.based0 .bwIy)) 0x9C),
    ([0xC1, 0xC4, 0x9C], .rolEwImm8 (.reg .sp) 0x9C),
    ([0xC1, 0x4A, 0xFE, 0x9C], .rorEwImm8 (.mem (.based8 .bpIx 0xFE)) 0x9C),
    ([0xC1, 0x14, 0x9C], .rolcEwImm8 (.mem (.based0 .ix)) 0x9C),
    ([0xC1, 0xDA, 0x9C], .rorcEwImm8 (.reg .dw) 0x9C),
    ([0xC1, 0x26, 0x34, 0x12, 0x9C], .shlEwImm8 (.mem (.direct 0x1234)) 0x9C),
    ([0xC1, 0x6E, 0xFE, 0x9C], .shrEwImm8 (.mem (.based8 .bp 0xFE)) 0x9C)] = true := by decide

/-- Rows 183 to 208 of the opcode table, encoded by hand from R151 to R169. -/
theorem test_decode_08 : decodesAll [
    ([0xC1, 0xBD, 0xCD, 0xAB, 0x9C], .shraEwImm8 (.mem (.based16 .iy 0xABCD)) 0x9C),
    ([0xD0, 0x07], .rolEb1 (.mem (.based0 .bw))),
    ([0xD0, 0xCF], .rorEb1 (.reg .bh)),
    ([0xD0, 0x50, 0xFE], .rolcEb1 (.mem (.based8 .bwIx 0xFE))),
    ([0xD0, 0x9B, 0xCD, 0xAB], .rorcEb1 (.mem (.based16 .bpIy 0xABCD))),
    ([0xD0, 0x21], .shlEb1 (.mem (.based0 .bwIy))),
    ([0xD0, 0xEC], .shrEb1 (.reg .ah)),
    ([0xD0, 0x7A, 0xFE], .shraEb1 (.mem (.based8 .bpIx 0xFE))),
    ([0xD1, 0x04], .rolEw1 (.mem (.based0 .ix))),
    ([0xD1, 0xCA], .rorEw1 (.reg .dw)),
    ([0xD1, 0x16, 0x34, 0x12], .rolcEw1 (.mem (.direct 0x1234))),
    ([0xD1, 0x5E, 0xFE], .rorcEw1 (.mem (.based8 .bp 0xFE))),
    ([0xD1, 0xA5, 0xCD, 0xAB], .shlEw1 (.mem (.based16 .iy 0xABCD))),
    ([0xD1, 0x2F], .shrEw1 (.mem (.based0 .bw))),
    ([0xD1, 0xFF], .shraEw1 (.reg .iy)),
    ([0xD2, 0x40, 0xFE], .rolEbCl (.mem (.based8 .bwIx 0xFE))),
    ([0xD2, 0x8B, 0xCD, 0xAB], .rorEbCl (.mem (.based16 .bpIy 0xABCD))),
    ([0xD2, 0x11], .rolcEbCl (.mem (.based0 .bwIy))),
    ([0xD2, 0xDC], .rorcEbCl (.reg .ah)),
    ([0xD2, 0x62, 0xFE], .shlEbCl (.mem (.based8 .bpIx 0xFE))),
    ([0xD2, 0x2C], .shrEbCl (.mem (.based0 .ix))),
    ([0xD2, 0xFA], .shraEbCl (.reg .dl)),
    ([0xD3, 0x06, 0x34, 0x12], .rolEwCl (.mem (.direct 0x1234))),
    ([0xD3, 0x4E, 0xFE], .rorEwCl (.mem (.based8 .bp 0xFE))),
    ([0xD3, 0x95, 0xCD, 0xAB], .rolcEwCl (.mem (.based16 .iy 0xABCD))),
    ([0xD3, 0x1F], .rorcEwCl (.mem (.based0 .bw)))] = true := by decide

/-- Rows 209 to 234 of the opcode table, encoded by hand from R151 to R169. -/
theorem test_decode_09 : decodesAll [
    ([0xD3, 0xE7], .shlEwCl (.reg .iy)),
    ([0xD3, 0x68, 0xFE], .shrEwCl (.mem (.based8 .bwIx 0xFE))),
    ([0xD3, 0xBB, 0xCD, 0xAB], .shraEwCl (.mem (.based16 .bpIy 0xABCD))),
    ([0xC2, 0x78, 0x56], .retNearPop 0x5678),
    ([0xC3], .retNear),
    ([0xC4, 0x5A, 0xFE], .movDs1Mem32 .bw (.based8 .bpIx 0xFE)),
    ([0xC5, 0x34], .movDs0Mem32 .ix (.based0 .ix)),
    ([0xC6, 0xC2, 0x9C], .movEbImm8 (.reg .dl) 0x9C),
    ([0xC7, 0x06, 0x34, 0x12, 0x78, 0x56], .movEwImm16 (.mem (.direct 0x1234)) 0x5678),
    ([0xC8, 0x78, 0x56, 0x03], .prepare 0x5678 0x03),
    ([0xC9], .dispose),
    ([0xCA, 0x78, 0x56], .retFarPop 0x5678),
    ([0xCB], .retFar),
    ([0xCC], .brk3),
    ([0xCD, 0x9C], .brkImm8 0x9C),
    ([0xCE], .brkv),
    ([0xCF], .reti),
    ([0xD4, 0x0A], .cvtbd),
    ([0xD5, 0x0A], .cvtdb),
    ([0xD7], .trans),
    ([0xDB, 0x06, 0x34, 0x12], .fpo1 3 0 (.mem (.direct 0x1234))),
    ([0xE0, 0x9C], .dbnzne 0x9C),
    ([0xE1, 0x9C], .dbnze 0x9C),
    ([0xE2, 0x9C], .dbnz 0x9C),
    ([0xE3, 0x9C], .bcwz 0x9C),
    ([0xE4, 0x9C], .inAlImm8 0x9C)] = true := by decide

/-- Rows 235 to 260 of the opcode table, encoded by hand from R151 to R169. -/
theorem test_decode_10 : decodesAll [
    ([0xE5, 0x9C], .inAwImm8 0x9C),
    ([0xE6, 0x9C], .outImm8Al 0x9C),
    ([0xE7, 0x9C], .outImm8Aw 0x9C),
    ([0xE8, 0x78, 0x56], .callNear 0x5678),
    ([0xE9, 0x78, 0x56], .brNear 0x5678),
    ([0xEA, 0x78, 0x56, 0x00, 0xF0], .brFar 0x5678 0xF000),
    ([0xEB, 0x9C], .brShort 0x9C),
    ([0xEC], .inAlDw),
    ([0xED], .inAwDw),
    ([0xEE], .outDwAl),
    ([0xEF], .outDwAw),
    ([0xF0], .prefixBuslock),
    ([0xF2], .prefixRepne),
    ([0xF3], .prefixRep),
    ([0xF4], .halt),
    ([0xF5], .not1Cy),
    ([0xF6, 0x04, 0x9C], .testEbImm8 (.mem (.based0 .ix)) 0x9C),
    ([0xF6, 0xD2], .notEb (.reg .dl)),
    ([0xF6, 0x1E, 0x34, 0x12], .negEb (.mem (.direct 0x1234))),
    ([0xF6, 0x66, 0xFE], .muluEb (.mem (.based8 .bp 0xFE))),
    ([0xF6, 0xAD, 0xCD, 0xAB], .mulEb (.mem (.based16 .iy 0xABCD))),
    ([0xF6, 0x37], .divuEb (.mem (.based0 .bw))),
    ([0xF6, 0xFF], .divEb (.reg .bh)),
    ([0xF7, 0x40, 0xFE, 0x78, 0x56], .testEwImm16 (.mem (.based8 .bwIx 0xFE)) 0x5678),
    ([0xF7, 0x93, 0xCD, 0xAB], .notEw (.mem (.based16 .bpIy 0xABCD))),
    ([0xF7, 0x19], .negEw (.mem (.based0 .bwIy)))] = true := by decide

/-- Rows 261 to 286 of the opcode table, encoded by hand from R151 to R169. -/
theorem test_decode_11 : decodesAll [
    ([0xF7, 0xE4], .muluEw (.reg .sp)),
    ([0xF7, 0x6A, 0xFE], .mulEw (.mem (.based8 .bpIx 0xFE))),
    ([0xF7, 0x34], .divuEw (.mem (.based0 .ix))),
    ([0xF7, 0xFA], .divEw (.reg .dw)),
    ([0xF8], .clr1Cy),
    ([0xF9], .set1Cy),
    ([0xFA], .di),
    ([0xFB], .ei),
    ([0xFC], .clr1Dir),
    ([0xFD], .set1Dir),
    ([0xFE, 0x83, 0xCD, 0xAB], .incEb (.mem (.based16 .bpIy 0xABCD))),
    ([0xFE, 0x09], .decEb (.mem (.based0 .bwIy))),
    ([0xFF, 0xC4], .incEw (.reg .sp)),
    ([0xFF, 0x4A, 0xFE], .decEw (.mem (.based8 .bpIx 0xFE))),
    ([0xFF, 0x14], .callEw (.mem (.based0 .ix))),
    ([0xFF, 0x19], .callMem32 (.based0 .bwIy)),
    ([0xFF, 0x26, 0x34, 0x12], .brEw (.mem (.direct 0x1234))),
    ([0xFF, 0x2C], .brMem32 (.based0 .ix)),
    ([0xFF, 0xB5, 0xCD, 0xAB], .pushEw (.mem (.based16 .iy 0xABCD))),
    ([0x0F, 0x10, 0x07], .test1EbCl (.mem (.based0 .bw))),
    ([0x0F, 0x11, 0xC7], .test1EwCl (.reg .iy)),
    ([0x0F, 0x18, 0x40, 0xFE, 0x9C], .test1EbImm3 (.mem (.based8 .bwIx 0xFE)) 0x9C),
    ([0x0F, 0x19, 0x83, 0xCD, 0xAB, 0x9C], .test1EwImm4 (.mem (.based16 .bpIy 0xABCD)) 0x9C),
    ([0x0F, 0x12, 0x01], .clr1EbCl (.mem (.based0 .bwIy))),
    ([0x0F, 0x13, 0xC4], .clr1EwCl (.reg .sp)),
    ([0x0F, 0x1A, 0x42, 0xFE, 0x9C], .clr1EbImm3 (.mem (.based8 .bpIx 0xFE)) 0x9C)] = true := by decide

/-- Rows 287 to 312 of the opcode table, encoded by hand from R151 to R169. -/
theorem test_decode_12 : decodesAll [
    ([0x0F, 0x1B, 0x04, 0x9C], .clr1EwImm4 (.mem (.based0 .ix)) 0x9C),
    ([0x0F, 0x14, 0xC2], .set1EbCl (.reg .dl)),
    ([0x0F, 0x15, 0x06, 0x34, 0x12], .set1EwCl (.mem (.direct 0x1234))),
    ([0x0F, 0x1C, 0x46, 0xFE, 0x9C], .set1EbImm3 (.mem (.based8 .bp 0xFE)) 0x9C),
    ([0x0F, 0x1D, 0x85, 0xCD, 0xAB, 0x9C], .set1EwImm4 (.mem (.based16 .iy 0xABCD)) 0x9C),
    ([0x0F, 0x16, 0x07], .not1EbCl (.mem (.based0 .bw))),
    ([0x0F, 0x17, 0xC7], .not1EwCl (.reg .iy)),
    ([0x0F, 0x1E, 0x40, 0xFE, 0x9C], .not1EbImm3 (.mem (.based8 .bwIx 0xFE)) 0x9C),
    ([0x0F, 0x1F, 0x83, 0xCD, 0xAB, 0x9C], .not1EwImm4 (.mem (.based16 .bpIy 0xABCD)) 0x9C),
    ([0x0F, 0x20], .add4s),
    ([0x0F, 0x22], .sub4s),
    ([0x0F, 0x25], .movspa),
    ([0x0F, 0x26], .cmp4s),
    ([0x0F, 0x28, 0xC2], .rol4Eb (.reg .dl)),
    ([0x0F, 0x2A, 0x06, 0x34, 0x12], .ror4Eb (.mem (.direct 0x1234))),
    ([0x0F, 0x2D, 0xC6], .brkcsReg16 .ix),
    ([0x0F, 0x31, 0xD1], .insReg8Reg8 .cl .dl),
    ([0x0F, 0x33, 0xD1], .extReg8Reg8 .cl .dl),
    ([0x0F, 0x39, 0xC6, 0x07], .insReg8Imm4 .dh 0x07),
    ([0x0F, 0x3B, 0xC6, 0x07], .extReg8Imm4 .dh 0x07),
    ([0x0F, 0x91], .retrbi),
    ([0x0F, 0x92], .fint),
    ([0x0F, 0x94, 0xFD], .tskswReg16 .bp),
    ([0x0F, 0x95, 0xFE], .movspbReg16 .ix),
    ([0x0F, 0x9C, 0xEA, 0x05, 0x10], .btclr 0xEA 0x05 0x10),
    ([0x0F, 0x9E], .stop)] = true := by decide

/-! ### One step: the vectors of `spec/95_test_vectors.md` -/

/-! Data transfer -/

theorem test_T01 : ends [0xB8, 0x34, 0x12] start
    (fun t => t.reg16 .aw == 0x1234 && t.reg8 .al == 0x34 && t.reg8 .ah == 0x12 && t.pc == 0x0103) = true := by decide

theorem test_T02 : ends [0x8B, 0xC3] (start.setReg16 .bw 0x1234)
    (fun t => t.reg16 .aw == 0x1234 && t.psw == 0xF002) = true := by decide

theorem test_T03 : ends [0x88, 0xE0] (start.setReg16 .aw 0x12FF)
    (fun t => t.reg16 .aw == 0x1212) = true := by decide

theorem test_T04 : ends [0xC6, 0x06, 0x34, 0x12, 0x56] (start.setSreg .ds0 0x0100)
    (fun t => t.ext.read 0x02234 == 0x56) = true := by decide

theorem test_T05 : ends [0xA1, 0x00, 0x20] (start.poke 0x02000 [0x78, 0x56])
    (fun t => t.reg16 .aw == 0x5678) = true := by decide

theorem test_T07 : ends [0x8E, 0xD8] (start.setReg16 .aw 0x2000)
    (fun t => t.sreg .ds0 == 0x2000 && t.hold) = true := by decide

theorem test_T08 : ends [0x8C, 0xC8] (start.setSreg .ps 0x0000)
    (fun t => t.reg16 .aw == 0x0000) = true := by decide

theorem test_T09 : ends [0xC5, 0x36, 0x00, 0x10] (start.poke 0x01000 [0x78, 0x56, 0x34, 0x12])
    (fun t => t.reg16 .ix == 0x5678 && t.sreg .ds0 == 0x1234) = true := by decide

theorem test_T09_ds1 : ends [0xC4, 0x36, 0x00, 0x10] (start.poke 0x01000 [0x78, 0x56, 0x34, 0x12])
    (fun t => t.reg16 .ix == 0x5678 && t.sreg .ds1 == 0x1234 && t.sreg .ds0 == 0x0000) = true := by decide

theorem test_T10 : ends [0x8D, 0x40, 0x02] ((start.setReg16 .bw 0x1000).setReg16 .ix 0x0020)
    (fun t => t.reg16 .aw == 0x1022) = true := by decide

theorem test_T11 : ends [0x8D, 0x40, 0x02] ((start.setReg16 .bw 0xFFFF).setReg16 .ix 0x0001)
    (fun t => t.reg16 .aw == 0x0002) = true := by decide

theorem test_T12 : ends [0x93] ((start.setReg16 .aw 0x0001).setReg16 .bw 0x0002)
    (fun t => t.reg16 .aw == 0x0002 && t.reg16 .bw == 0x0001) = true := by decide

theorem test_T12_xch_mem : ends [0x86, 0x06, 0x00, 0x20] ((start.setReg8 .al 0x12).poke 0x02000 [0x34])
    (fun t => t.reg8 .al == 0x34 && t.ext.read 0x02000 == 0x12) = true := by decide

theorem test_T12_xch_word : ends [0x87, 0x1E, 0x00, 0x20] ((start.setReg16 .bw 0x1234).poke 0x02000 [0x78, 0x56])
    (fun t => t.reg16 .bw == 0x5678 && t.ext.read 0x02000 == 0x34 && t.ext.read 0x02001 == 0x12) = true := by decide

theorem test_T13 : ends [0xD7] (((start.setReg16 .bw 0x2000).setReg8 .al 0x03).poke 0x02003 [0x7A])
    (fun t => t.reg8 .al == 0x7A) = true := by decide

theorem test_T14 : ends [0x9E] (start.setReg8 .ah 0xD7)
    (fun t => t.psw == 0xF0D7) = true := by decide

theorem test_T15 : ends [0x9E] (start.setReg8 .ah 0x28)
    (fun t => t.psw == 0xF028) = true := by decide

theorem test_S6 : ends [0x9F] start
    (fun t => t.reg8 .ah == 0x02) = true := by decide

theorem test_mov_al_mem : ends [0xA0, 0x00, 0x20] (start.poke 0x02000 [0x7A])
    (fun t => t.reg8 .al == 0x7A) = true := by decide

theorem test_mov_mem_al : ends [0xA2, 0x00, 0x20] (start.setReg8 .al 0x7A)
    (fun t => t.ext.read 0x02000 == 0x7A) = true := by decide

theorem test_mov_mem_aw : ends [0xA3, 0x00, 0x20] (start.setReg16 .aw 0x1234)
    (fun t => t.ext.read 0x02000 == 0x34 && t.ext.read 0x02001 == 0x12) = true := by decide

theorem test_mov_word_imm : ends [0xC7, 0x06, 0x00, 0x20, 0x34, 0x12] start
    (fun t => t.ext.read 0x02000 == 0x34 && t.ext.read 0x02001 == 0x12) = true := by decide

theorem test_mov_reg8_imm : ends [0xB4, 0x7F] start
    (fun t => t.reg8 .ah == 0x7F && t.reg8 .al == 0x00) = true := by decide

/-! Block instructions and I/O -/

theorem test_T20 : ends [0xA4] (((start.setReg16 .ix 0x0200).setReg16 .iy 0x0300).poke 0x00200 [0x5A])
    (fun t => t.ext.read 0x00300 == 0x5A && t.reg16 .ix == 0x0201 && t.reg16 .iy == 0x0301) = true := by decide

theorem test_T21 : ends [0xA5] ((((start.setFlag .dir true).setReg16 .ix 0x0200).setReg16 .iy 0x0300).poke 0x00200 [0x34, 0x12])
    (fun t => t.ext.read 0x00300 == 0x34 && t.ext.read 0x00301 == 0x12 && t.reg16 .ix == 0x01FE && t.reg16 .iy == 0x02FE) = true := by decide

theorem test_cmpbkb : ends [0xA6] ((((start.setReg16 .ix 0x0200).setReg16 .iy 0x0300).poke 0x00200 [0x03]).poke 0x00300 [0x04])
    (fun t => t.psw &&& 0x08D5 == 0x0095 && t.reg16 .ix == 0x0201 && t.reg16 .iy == 0x0301) = true := by decide

theorem test_cmpbkw : ends [0xA7] ((((start.setReg16 .ix 0x0200).setReg16 .iy 0x0300).poke 0x00200 [0x00, 0x80]).poke 0x00300 [0x01, 0x00])
    (fun t => t.psw &&& 0x08D5 == 0x0814 && t.reg16 .ix == 0x0202) = true := by decide

theorem test_cmpmb : ends [0xAE] (((start.setReg8 .al 0x00).setReg16 .iy 0x0300).poke 0x00300 [0x41])
    (fun t => t.psw &&& 0x08D5 == 0x0091 && t.reg16 .iy == 0x0301) = true := by decide

theorem test_cmpmw : ends [0xAF] (((start.setReg16 .aw 0x1234).setReg16 .iy 0x0300).poke 0x00300 [0x34, 0x12])
    (fun t => t.psw &&& 0x08D5 == 0x0044 && t.reg16 .iy == 0x0302) = true := by decide

theorem test_ldmb : ends [0xAC] ((start.setReg16 .ix 0x0200).poke 0x00200 [0x5A])
    (fun t => t.reg8 .al == 0x5A && t.reg16 .ix == 0x0201) = true := by decide

theorem test_T26 : ends [0xAA] ((start.setReg8 .al 0x5A).setReg16 .iy 0x0300)
    (fun t => t.ext.read 0x00300 == 0x5A && t.reg16 .iy == 0x0301) = true := by decide

theorem test_T27 : ends [0xAD] ((start.setReg16 .ix 0x0200).poke 0x00200 [0x34, 0x12])
    (fun t => t.reg16 .aw == 0x1234 && t.reg16 .ix == 0x0202) = true := by decide

theorem test_stmw : ends [0xAB] ((start.setReg16 .aw 0x1234).setReg16 .iy 0x0300)
    (fun t => t.ext.read 0x00300 == 0x34 && t.ext.read 0x00301 == 0x12 && t.reg16 .iy == 0x0302) = true := by decide

theorem test_T29 : ends [0xE4, 0x60] ((start.withPsw 0xF200).setReg16 .sp 0x0100)
    (fun t => t.psw == 0xF000) = true := by decide

theorem test_T30 : ends [0xEF] ((start.setReg16 .dw 0x1234).setReg16 .aw 0xBEEF)
    (fun t => t.events == [.ioWrite 0x1235 0xBE, .ioWrite 0x1234 0xEF] && t.pc == 0x0101) = true := by decide

theorem test_out_imm : ends [0xE6, 0x60] (start.setReg8 .al 0x5A)
    (fun t => t.events == [.ioWrite 0x0060 0x5A]) = true := by decide

theorem test_outmb : ends [0x6E] (((start.setReg16 .dw 0x1234).setReg16 .ix 0x0200).poke 0x00200 [0x5A])
    (fun t => t.events == [.ioWrite 0x1234 0x5A] && t.reg16 .ix == 0x0201) = true := by decide

theorem test_inmb : ends [0x6C] ((start.setReg16 .dw 0x1234).setReg16 .iy 0x0300)
    (fun t => t.reg16 .iy == 0x0301 && t.reg16 .dw == 0x1234) = true := by decide

theorem test_in_aw_dw : ends [0xED] (start.setReg16 .dw 0x1234)
    (fun t => t.pc == 0x0101 && t.psw == 0xF002) = true := by decide

/-! Arithmetic -/

theorem test_T40 : ends [0x04, 0x01] (start.setReg8 .al 0x7F)
    (fun t => t.reg8 .al == 0x80 && t.psw &&& 0x08D5 == 0x0890) = true := by decide

theorem test_T41 : ends [0x04, 0x01] (start.setReg8 .al 0xFF)
    (fun t => t.reg8 .al == 0x00 && t.psw &&& 0x08D5 == 0x0055) = true := by decide

theorem test_T42 : ends [0x04, 0x80] (start.setReg8 .al 0x80)
    (fun t => t.reg8 .al == 0x00 && t.psw &&& 0x08D5 == 0x0845) = true := by decide

theorem test_T44 : ends [0x05, 0x01, 0x00] (start.setReg16 .aw 0x7FFF)
    (fun t => t.reg16 .aw == 0x8000 && t.psw &&& 0x08D5 == 0x0894) = true := by decide

theorem test_T46 : ends [0x05, 0x01, 0x00] (start.setReg16 .aw 0x00FF)
    (fun t => t.reg16 .aw == 0x0100 && t.psw &&& 0x08D5 == 0x0014) = true := by decide

theorem test_T47 : ends [0x03, 0xC3] ((start.setReg16 .aw 0x1234).setReg16 .bw 0xEDCC)
    (fun t => t.reg16 .aw == 0x0000 && t.psw &&& 0x08D5 == 0x0055) = true := by decide

theorem test_T48 : ends [0x83, 0xC0, 0xFF] (start.setReg16 .aw 0x0001)
    (fun t => t.reg16 .aw == 0x0000 && t.psw &&& 0x08D5 == 0x0055) = true := by decide

theorem test_T49 : ends [0x14, 0xFF] ((start.setReg8 .al 0xFF).setFlag .cy true)
    (fun t => t.reg8 .al == 0xFF && t.psw &&& 0x08D5 == 0x0095) = true := by decide

theorem test_T50 : ends [0x14, 0x00] ((start.setReg8 .al 0xFF).setFlag .cy true)
    (fun t => t.reg8 .al == 0x00 && t.psw &&& 0x08D5 == 0x0055) = true := by decide

theorem test_T51 : ends [0x2C, 0x01] (start.setReg8 .al 0x00)
    (fun t => t.reg8 .al == 0xFF && t.psw &&& 0x08D5 == 0x0095) = true := by decide

theorem test_T52 : ends [0x2C, 0x01] (start.setReg8 .al 0x80)
    (fun t => t.reg8 .al == 0x7F && t.psw &&& 0x08D5 == 0x0810) = true := by decide

theorem test_T54 : ends [0x2C, 0xFF] (start.setReg8 .al 0x7F)
    (fun t => t.reg8 .al == 0x80 && t.psw &&& 0x08D5 == 0x0881) = true := by decide

theorem test_T55 : ends [0x2D, 0x01, 0x00] (start.setReg16 .aw 0x8000)
    (fun t => t.reg16 .aw == 0x7FFF && t.psw &&& 0x08D5 == 0x0814) = true := by decide

theorem test_T56 : ends [0x1C, 0xFF] ((start.setReg8 .al 0x00).setFlag .cy true)
    (fun t => t.reg8 .al == 0x00 && t.psw &&& 0x08D5 == 0x0055) = true := by decide

theorem test_T57 : ends [0x1C, 0x00] ((start.setReg8 .al 0x00).setFlag .cy true)
    (fun t => t.reg8 .al == 0xFF && t.psw &&& 0x08D5 == 0x0095) = true := by decide

theorem test_T58 : ends [0x3D, 0x00, 0x80] (start.setReg16 .aw 0x7FFF)
    (fun t => t.reg16 .aw == 0x7FFF && t.psw &&& 0x08D5 == 0x0885) = true := by decide

theorem test_T59 : ends [0x3C, 0x01] (start.setReg8 .al 0x80)
    (fun t => t.reg8 .al == 0x80 && t.psw &&& 0x08D5 == 0x0810) = true := by decide

theorem test_add_mem : ends [0x00, 0x26, 0x00, 0x20] ((start.setReg8 .ah 0x01).poke 0x02000 [0x7F])
    (fun t => t.ext.read 0x02000 == 0x80 && t.reg8 .ah == 0x01 && t.psw &&& 0x08D5 == 0x0890) = true := by decide

theorem test_sub_reg_mem : ends [0x2B, 0x06, 0x00, 0x20] ((start.setReg16 .aw 0x0000).poke 0x02000 [0x01, 0x00])
    (fun t => t.reg16 .aw == 0xFFFF && t.ext.read 0x02000 == 0x01 && t.ext.read 0x02001 == 0x00 && t.psw &&& 0x08D5 == 0x0095) = true := by decide

theorem test_T60 : ends [0x40] (start.setReg16 .aw 0xFFFF)
    (fun t => t.reg16 .aw == 0x0000 && t.psw &&& 0x08D5 == 0x0054) = true := by decide

theorem test_T61 : ends [0x40] ((start.setReg16 .aw 0x7FFF).setFlag .cy true)
    (fun t => t.reg16 .aw == 0x8000 && t.psw &&& 0x08D5 == 0x0895) = true := by decide

theorem test_T62 : ends [0xFE, 0xC0] (start.setReg8 .al 0x7F)
    (fun t => t.reg8 .al == 0x80 && t.psw &&& 0x08D5 == 0x0890) = true := by decide

theorem test_T63 : ends [0x48] (start.setReg16 .aw 0x0000)
    (fun t => t.reg16 .aw == 0xFFFF && t.psw &&& 0x08D5 == 0x0094) = true := by decide

theorem test_T64 : ends [0x48] (start.setReg16 .aw 0x8000)
    (fun t => t.reg16 .aw == 0x7FFF && t.psw &&& 0x08D5 == 0x0814) = true := by decide

theorem test_dec_mem : ends [0xFE, 0x0E, 0x00, 0x20] ((start.poke 0x02000 [0x01]).setFlag .cy true)
    (fun t => t.ext.read 0x02000 == 0x00 && t.psw &&& 0x08D5 == 0x0045) = true := by decide

theorem test_T66 : ends [0xF6, 0xD8] (start.setReg8 .al 0x01)
    (fun t => t.reg8 .al == 0xFF && t.psw &&& 0x08D5 == 0x0095) = true := by decide

theorem test_T67 : ends [0xF6, 0xD8] (start.setReg8 .al 0x80)
    (fun t => t.reg8 .al == 0x80 && t.psw &&& 0x08D5 == 0x0881) = true := by decide

theorem test_T68 : ends [0xF7, 0xD8] (start.setReg16 .aw 0x0000)
    (fun t => t.reg16 .aw == 0x0000 && t.psw &&& 0x08D5 == 0x0044) = true := by decide

theorem test_T69 : ends [0xF6, 0xE3] ((start.setReg8 .al 0x10).setReg8 .bl 0x10)
    (fun t => t.bankWord 7 (offReg16 .aw) == 0x0100) = true := by decide

theorem test_T71 : ends [0xF7, 0xE3] ((start.setReg16 .aw 0xFFFF).setReg16 .bw 0xFFFF)
    (fun t => t.bankWord 7 (offReg16 .dw) == 0xFFFE && t.bankWord 7 (offReg16 .aw) == 0x0001) = true := by decide

theorem test_T73 : ends [0xF6, 0xEB] ((start.setReg8 .al 0xFF).setReg8 .bl 0x02)
    (fun t => t.bankWord 7 (offReg16 .aw) == 0xFFFE) = true := by decide

theorem test_T74 : ends [0xF6, 0xEB] ((start.setReg8 .al 0x80).setReg8 .bl 0x80)
    (fun t => t.bankWord 7 (offReg16 .aw) == 0x4000) = true := by decide

theorem test_T76 : ends [0xF7, 0xEB] ((start.setReg16 .aw 0x8000).setReg16 .bw 0x0002)
    (fun t => t.bankWord 7 (offReg16 .dw) == 0xFFFF && t.bankWord 7 (offReg16 .aw) == 0x0000) = true := by decide

theorem test_T78 : ends [0x6B, 0xC3, 0x0A] (start.setReg16 .bw 0x0064)
    (fun t => t.bankWord 7 (offReg16 .aw) == 0x03E8) = true := by decide

theorem test_T80 : ends [0x6B, 0xC3, 0x7F] (start.setReg16 .bw 0xFFFF)
    (fun t => t.bankWord 7 (offReg16 .aw) == 0xFF81) = true := by decide

theorem test_T80_word : ends [0x69, 0xC3, 0x7F, 0x00] (start.setReg16 .bw 0xFFFF)
    (fun t => t.bankWord 7 (offReg16 .aw) == 0xFF81) = true := by decide

theorem test_T81 : ends [0xF6, 0xF3] ((start.setReg16 .aw 0x0064).setReg8 .bl 0x07)
    (fun t => t.bankByte 7 (offReg8 .al) == 0x0E && t.bankByte 7 (offReg8 .ah) == 0x02) = true := by decide

theorem test_T82 : ends [0xF6, 0xF3] ((start.setReg16 .aw 0x0FFF).setReg8 .bl 0x10)
    (fun t => t.bankByte 7 (offReg8 .al) == 0xFF && t.bankByte 7 (offReg8 .ah) == 0x0F) = true := by decide

theorem test_T85 : ends [0xF7, 0xF3] (((start.setReg16 .dw 0x0001).setReg16 .aw 0xFFFE).setReg16 .bw 0xFFFF)
    (fun t => t.bankWord 7 (offReg16 .aw) == 0x0002 && t.bankWord 7 (offReg16 .dw) == 0x0000) = true := by decide

theorem test_T87 : ends [0xF6, 0xFB] ((start.setReg16 .aw 0xFFF9).setReg8 .bl 0x02)
    (fun t => t.bankByte 7 (offReg8 .al) == 0xFD && t.bankByte 7 (offReg8 .ah) == 0xFF) = true := by decide

theorem test_T88 : ends [0xF6, 0xFB] ((start.setReg16 .aw 0x0007).setReg8 .bl 0xFE)
    (fun t => t.bankByte 7 (offReg8 .al) == 0xFD && t.bankByte 7 (offReg8 .ah) == 0x01) = true := by decide

theorem test_T91 : ends [0xF7, 0xFB] (((start.setReg16 .dw 0xFFFF).setReg16 .aw 0xFFF9).setReg16 .bw 0x0002)
    (fun t => t.bankWord 7 (offReg16 .aw) == 0xFFFD && t.bankWord 7 (offReg16 .dw) == 0xFFFF) = true := by decide

theorem test_T92 : ends [0x98] (start.setReg8 .al 0x80)
    (fun t => t.reg16 .aw == 0xFF80 && t.psw == 0xF002) = true := by decide

theorem test_T93 : ends [0x99] (start.setReg16 .aw 0x8000)
    (fun t => t.reg16 .dw == 0xFFFF && t.reg16 .aw == 0x8000 && t.psw == 0xF002) = true := by decide

/-! Decimal instructions -/

theorem test_T109 : isRefused [0xD4, 0x10] start .undefinedEncoding = true := by decide

theorem test_T110 : ends [0x0F, 0x20] (((((start.setReg8 .cl 0x04).setReg16 .ix 0x0200).setReg16 .iy 0x0300).poke 0x00200 [0x56, 0x34]).poke 0x00300 [0x78, 0x12])
    (fun t => t.ext.read 0x00300 == 0x34 && t.ext.read 0x00301 == 0x47) = true := by decide

theorem test_T111 : ends [0x0F, 0x20] (((((start.setReg8 .cl 0x02).setReg16 .ix 0x0200).setReg16 .iy 0x0300).poke 0x00200 [0x01]).poke 0x00300 [0x99])
    (fun t => t.ext.read 0x00300 == 0x00) = true := by decide

theorem test_T112 : ends [0x0F, 0x22] (((((start.setReg8 .cl 0x02).setReg16 .ix 0x0200).setReg16 .iy 0x0300).poke 0x00200 [0x01]).poke 0x00300 [0x00])
    (fun t => t.ext.read 0x00300 == 0x99) = true := by decide

theorem test_T113 : ends [0x0F, 0x26] (((((start.setReg8 .cl 0x04).setReg16 .ix 0x0200).setReg16 .iy 0x0300).poke 0x00200 [0x34, 0x12]).poke 0x00300 [0x34, 0x12])
    (fun t => t.ext.read 0x00300 == 0x34 && t.ext.read 0x00301 == 0x12) = true := by decide

theorem test_T115 : ends [0x0F, 0x28, 0x06, 0x00, 0x20] ((start.setReg8 .al 0x0A).poke 0x02000 [0x12])
    (fun t => t.ext.read 0x02000 == 0x2A) = true := by decide

theorem test_T116 : ends [0x0F, 0x2A, 0x06, 0x00, 0x20] ((start.setReg8 .al 0x0A).poke 0x02000 [0x12])
    (fun t => t.ext.read 0x02000 == 0xA1) = true := by decide

/-! Logic, bits, shifts and rotates (results in memory: the flags left undefined are free) -/

theorem test_T120 : ends [0x80, 0x26, 0x00, 0x20, 0x0F] (start.poke 0x02000 [0xA5])
    (fun t => t.ext.read 0x02000 == 0x05) = true := by decide

theorem test_T121 : ends [0x80, 0x0E, 0x00, 0x20, 0x80] (start.poke 0x02000 [0x01])
    (fun t => t.ext.read 0x02000 == 0x81) = true := by decide

theorem test_T122 : ends [0x31, 0x06, 0x00, 0x20] ((start.setReg16 .aw 0x1234).poke 0x02000 [0x34, 0x12])
    (fun t => t.ext.read 0x02000 == 0x00 && t.ext.read 0x02001 == 0x00) = true := by decide

theorem test_T124 : ends [0x83, 0x26, 0x00, 0x20, 0xF0] (start.poke 0x02000 [0x34, 0x12])
    (fun t => t.ext.read 0x02000 == 0x30 && t.ext.read 0x02001 == 0x12) = true := by decide

theorem test_T126 : ends [0xF6, 0xD0] (start.setReg8 .al 0x55)
    (fun t => t.reg8 .al == 0xAA && t.psw == 0xF002) = true := by decide

theorem test_T129 : ends [0x0F, 0x1A, 0xC0, 0x00] (start.setReg8 .al 0xFF)
    (fun t => t.reg8 .al == 0xFE && t.psw == 0xF002) = true := by decide

theorem test_T130 : ends [0x0F, 0x1D, 0xC3, 0x0F] (start.setReg16 .bw 0x0000)
    (fun t => t.reg16 .bw == 0x8000 && t.psw == 0xF002) = true := by decide

theorem test_T131 : ends [0x0F, 0x16, 0xC0] ((start.setReg8 .cl 0x0B).setReg8 .al 0x00)
    (fun t => t.reg8 .al == 0x08 && t.psw == 0xF002) = true := by decide

theorem test_T132 : ends [0xD0, 0x26, 0x00, 0x20] (start.poke 0x02000 [0xC0])
    (fun t => t.ext.read 0x02000 == 0x80) = true := by decide

theorem test_T134 : ends [0xC0, 0x26, 0x00, 0x20, 0x04] (start.poke 0x02000 [0x81])
    (fun t => t.ext.read 0x02000 == 0x10) = true := by decide

theorem test_T137 : ends [0xD2, 0xE0] ((start.setReg8 .cl 0x00).setReg8 .al 0xFF)
    (fun t => t.reg8 .al == 0xFF && t.psw == 0xF002) = true := by decide

theorem test_T140 : ends [0xC1, 0x26, 0x00, 0x20, 0x04] (start.poke 0x02000 [0x34, 0x12])
    (fun t => t.ext.read 0x02000 == 0x40 && t.ext.read 0x02001 == 0x23) = true := by decide

theorem test_T143 : ends [0xC1, 0x2E, 0x00, 0x20, 0x0F] (start.poke 0x02000 [0x00, 0x80])
    (fun t => t.ext.read 0x02000 == 0x01 && t.ext.read 0x02001 == 0x00) = true := by decide

theorem test_T145 : ends [0xC0, 0x3E, 0x00, 0x20, 0x07] (start.poke 0x02000 [0x80])
    (fun t => t.ext.read 0x02000 == 0xFF) = true := by decide

theorem test_T149 : ends [0xC0, 0x06, 0x00, 0x20, 0x04] (start.poke 0x02000 [0x81])
    (fun t => t.ext.read 0x02000 == 0x18) = true := by decide

theorem test_T150 : ends [0xD0, 0x0E, 0x00, 0x20] (start.poke 0x02000 [0x01])
    (fun t => t.ext.read 0x02000 == 0x80) = true := by decide

theorem test_T155 : ends [0xC0, 0x16, 0x00, 0x20, 0x09] ((start.poke 0x02000 [0x55]).setFlag .cy true)
    (fun t => t.ext.read 0x02000 == 0x55) = true := by decide

theorem test_T157 : ends [0xD0, 0x1E, 0x00, 0x20] ((start.poke 0x02000 [0x00]).setFlag .cy true)
    (fun t => t.ext.read 0x02000 == 0x80) = true := by decide

theorem test_T147 : isRefused [0xD0, 0xF0] start .undefinedEncoding = true := by decide

/-! Control transfer -/

theorem test_T160 : ends [0xE9, 0xFD, 0xFF] start
    (fun t => t.pc == 0x0100) = true := by decide

theorem test_T161 : ends [0xEB, 0x05] ((start).loadPc 0x0007)
    (fun t => t.pc == 0x000E) = true := by decide

theorem test_T164 : ends [0xEA, 0x00, 0x01, 0x00, 0xF0] start
    (fun t => t.sreg .ps == 0xF000 && t.pc == 0x0100) = true := by decide

theorem test_T165 : ends [0xFF, 0xE3] (start.setReg16 .bw 0x1234)
    (fun t => t.pc == 0x1234) = true := by decide

theorem test_br_mem32 : ends [0xFF, 0x2E, 0x00, 0x20] (start.poke 0x02000 [0x00, 0x01, 0x00, 0x10])
    (fun t => t.pc == 0x0100 && t.sreg .ps == 0x1000) = true := by decide

theorem test_T166 : ends [0xE8, 0x04, 0x00] (((start).loadPc 0x0003).setReg16 .sp 0x0100)
    (fun t => t.ext.read 0x000FE == 0x06 && t.ext.read 0x000FF == 0x00 && t.reg16 .sp == 0x00FE && t.pc == 0x000A) = true := by decide

theorem test_T167 : ends [0x9A, 0x00, 0x00, 0x00, 0x10] (((start).loadPc 0x0200).setReg16 .sp 0x0100)
    (fun t => t.ext.read 0x000FC == 0x05 && t.ext.read 0x000FD == 0x02 && t.ext.read 0x000FE == 0x00 && t.ext.read 0x000FF == 0x00 && t.reg16 .sp == 0x00FC && t.sreg .ps == 0x1000 && t.pc == 0x0000) = true := by decide

theorem test_call_ew : ends [0xFF, 0xD3] ((start.setReg16 .bw 0x1234).setReg16 .sp 0x0400)
    (fun t => t.ext.read 0x003FE == 0x02 && t.ext.read 0x003FF == 0x01 && t.reg16 .sp == 0x03FE && t.pc == 0x1234) = true := by decide

theorem test_call_mem32 : ends [0xFF, 0x1E, 0x00, 0x20] ((start.poke 0x02000 [0x00, 0x01, 0x00, 0x10]).setReg16 .sp 0x0400)
    (fun t => t.ext.read 0x003FC == 0x04 && t.ext.read 0x003FD == 0x01 && t.ext.read 0x003FE == 0x00 && t.ext.read 0x003FF == 0x00 && t.reg16 .sp == 0x03FC && t.pc == 0x0100 && t.sreg .ps == 0x1000) = true := by decide

theorem test_T168 : ends [0xC3] ((start.setReg16 .sp 0x00FE).poke 0x000FE [0x06, 0x00])
    (fun t => t.pc == 0x0006 && t.reg16 .sp == 0x0100) = true := by decide

theorem test_T169 : ends [0xC2, 0x04, 0x00] ((start.setReg16 .sp 0x00FE).poke 0x000FE [0x06, 0x00])
    (fun t => t.pc == 0x0006 && t.reg16 .sp == 0x0104) = true := by decide

theorem test_T170 : ends [0xCB] ((start.setReg16 .sp 0x00FC).poke 0x000FC [0x05, 0x02, 0x00, 0x00])
    (fun t => t.pc == 0x0205 && t.sreg .ps == 0x0000 && t.reg16 .sp == 0x0100) = true := by decide

theorem test_ret_far_pop : ends [0xCA, 0x04, 0x00] ((start.setReg16 .sp 0x00FC).poke 0x000FC [0x05, 0x02, 0x00, 0x20])
    (fun t => t.pc == 0x0205 && t.sreg .ps == 0x2000 && t.reg16 .sp == 0x0104) = true := by decide

theorem test_T171 : ends [0xE2, 0xFC] (((start).loadPc 0x0007).setReg16 .cw 0x0005)
    (fun t => t.reg16 .cw == 0x0004 && t.pc == 0x0005) = true := by decide

theorem test_T172 : ends [0xE2, 0xFC] (((start).loadPc 0x0007).setReg16 .cw 0x0001)
    (fun t => t.reg16 .cw == 0x0000 && t.pc == 0x0009) = true := by decide

theorem test_T173 : ends [0xE2, 0xFC] (((start).loadPc 0x0007).setReg16 .cw 0x0000)
    (fun t => t.reg16 .cw == 0xFFFF && t.pc == 0x0005) = true := by decide

theorem test_T174 : ends [0xE0, 0xFE] ((((start).loadPc 0x0010).setReg16 .cw 0x0002).setFlag .z true)
    (fun t => t.reg16 .cw == 0x0001 && t.pc == 0x0012) = true := by decide

theorem test_T175 : ends [0xE1, 0xFE] ((((start).loadPc 0x0010).setReg16 .cw 0x0002).setFlag .z true)
    (fun t => t.reg16 .cw == 0x0001 && t.pc == 0x0010) = true := by decide

theorem test_T176 : ends [0xE3, 0x02] (((start).loadPc 0x0010).setReg16 .cw 0x0000)
    (fun t => t.pc == 0x0014 && t.reg16 .cw == 0x0000) = true := by decide

theorem test_T177 : ends [0x74, 0x02] (((start).loadPc 0x0010).setFlag .z true)
    (fun t => t.pc == 0x0014) = true := by decide

theorem test_T177_not : ends [0x74, 0x02] (((start).loadPc 0x0010).setFlag .z false)
    (fun t => t.pc == 0x0012) = true := by decide

theorem test_T178 : ends [0x7C, 0x02] (((start).loadPc 0x0010).setFlag .v true)
    (fun t => t.pc == 0x0014) = true := by decide

theorem test_T179 : ends [0x7F, 0x02] ((((start).loadPc 0x0010).setFlag .s true).setFlag .v true)
    (fun t => t.pc == 0x0014) = true := by decide

theorem test_T179_not : ends [0x7F, 0x02] (((((start).loadPc 0x0010).setFlag .s true).setFlag .v true).setFlag .z true)
    (fun t => t.pc == 0x0012) = true := by decide

theorem test_T180 : ends [0x76, 0x02] (((start).loadPc 0x0010).setFlag .z true)
    (fun t => t.pc == 0x0014) = true := by decide

theorem test_bv : ends [0x70, 0x02] (((start).loadPc 0x0010).setFlag .v true)
    (fun t => t.pc == 0x0014) = true := by decide

theorem test_bnv : ends [0x71, 0x02] (((start).loadPc 0x0010).setFlag .v true)
    (fun t => t.pc == 0x0012) = true := by decide

theorem test_bc : ends [0x72, 0x02] (((start).loadPc 0x0010).setFlag .cy true)
    (fun t => t.pc == 0x0014) = true := by decide

theorem test_bnc : ends [0x73, 0x02] (((start).loadPc 0x0010).setFlag .cy true)
    (fun t => t.pc == 0x0012) = true := by decide

theorem test_bne : ends [0x75, 0x02] (((start).loadPc 0x0010).setFlag .z true)
    (fun t => t.pc == 0x0012) = true := by decide

theorem test_bh : ends [0x77, 0x02] (((start).loadPc 0x0010).setFlag .z true)
    (fun t => t.pc == 0x0012) = true := by decide

theorem test_bn : ends [0x78, 0x02] (((start).loadPc 0x0010).setFlag .s true)
    (fun t => t.pc == 0x0014) = true := by decide

theorem test_bp : ends [0x79, 0x02] (((start).loadPc 0x0010).setFlag .s true)
    (fun t => t.pc == 0x0012) = true := by decide

theorem test_bpe : ends [0x7A, 0x02] (((start).loadPc 0x0010).setFlag .p true)
    (fun t => t.pc == 0x0014) = true := by decide

theorem test_bpo : ends [0x7B, 0x02] (((start).loadPc 0x0010).setFlag .p true)
    (fun t => t.pc == 0x0012) = true := by decide

theorem test_bge : ends [0x7D, 0x02] (((start).loadPc 0x0010).setFlag .s true)
    (fun t => t.pc == 0x0012) = true := by decide

theorem test_ble : ends [0x7E, 0x02] (((start).loadPc 0x0010).setFlag .z true)
    (fun t => t.pc == 0x0014) = true := by decide

/-! The stack -/

theorem test_T190 : ends [0x50] ((start.setReg16 .aw 0x8003).setReg16 .sp 0x0100)
    (fun t => t.ext.read 0x000FE == 0x03 && t.ext.read 0x000FF == 0x80 && t.reg16 .sp == 0x00FE) = true := by decide

theorem test_T191 : ends [0x50] ((start.setReg16 .aw 0x1234).setReg16 .sp 0x0000)
    (fun t => t.ext.read 0x0FFFE == 0x34 && t.ext.read 0x0FFFF == 0x12 && t.reg16 .sp == 0xFFFE) = true := by decide

theorem test_T192 : ends [0x50] (((start.setSreg .ss 0x1000).setReg16 .sp 0x0001).setReg16 .aw 0x1234)
    (fun t => t.reg16 .sp == 0xFFFF && t.ext.read 0x1FFFF == 0x34 && t.ext.read 0x20000 == 0x12) = true := by decide

theorem test_push_mem : ends [0xFF, 0x36, 0x00, 0x20] ((start.poke 0x02000 [0x34, 0x12]).setReg16 .sp 0x0100)
    (fun t => t.ext.read 0x000FE == 0x34 && t.ext.read 0x000FF == 0x12 && t.reg16 .sp == 0x00FE) = true := by decide

theorem test_T194 : ends [0x5B] ((start.setReg16 .sp 0x0400).poke 0x00400 [0x34, 0x12])
    (fun t => t.reg16 .bw == 0x1234 && t.reg16 .sp == 0x0402) = true := by decide

theorem test_pop_mem : ends [0x8F, 0x06, 0x00, 0x20] ((start.setReg16 .sp 0x0400).poke 0x00400 [0x34, 0x12])
    (fun t => t.ext.read 0x02000 == 0x34 && t.ext.read 0x02001 == 0x12 && t.reg16 .sp == 0x0402) = true := by decide

theorem test_T195 : ends [0x0E] ((start.setSreg .ps 0x0001).setReg16 .sp 0x0400)
    (fun t => t.ext.read 0x003FE == 0x01 && t.ext.read 0x003FF == 0x00) = true := by decide

theorem test_T196 : ends [0x17] ((start.setReg16 .sp 0x0400).poke 0x00400 [0x00, 0x20])
    (fun t => t.sreg .ss == 0x2000 && t.reg16 .sp == 0x0402 && t.hold) = true := by decide

theorem test_T197 : ends [0x9C] (start.setReg16 .sp 0x0100)
    (fun t => t.ext.read 0x000FE == 0x02 && t.ext.read 0x000FF == 0xF0) = true := by decide

theorem test_T198 : ends [0x9D] ((start.setReg16 .sp 0x0400).poke 0x00400 [0x03, 0x8F])
    (fun t => t.psw == 0xFF03 && t.reg16 .sp == 0x0402) = true := by decide

theorem test_T199 : isRefused [0x9D] ((start.setReg16 .sp 0x0400).poke 0x00400 [0x03, 0x0F]) .psw15Zero = true := by decide

theorem test_T200 : ends [0x68, 0x34, 0x12] (start.setReg16 .sp 0x0100)
    (fun t => t.ext.read 0x000FE == 0x34 && t.ext.read 0x000FF == 0x12) = true := by decide

theorem test_T201 : ends [0x6A, 0xFF] (start.setReg16 .sp 0x0100)
    (fun t => t.ext.read 0x000FE == 0xFF && t.ext.read 0x000FF == 0xFF) = true := by decide

theorem test_T202 : ends [0x60] ((((((((start.setReg16 .aw 0x0001).setReg16 .cw 0x0002).setReg16 .dw 0x0003).setReg16 .bw 0x0004).setReg16 .bp 0x0005).setReg16 .ix 0x0006).setReg16 .iy 0x0007).setReg16 .sp 0x0100)
    (fun t => t.reg16 .sp == 0x00F0 && t.ext.read 0x000F0 == 0x07 && t.ext.read 0x000F1 == 0x00 && t.ext.read 0x000F2 == 0x06 && t.ext.read 0x000F3 == 0x00 && t.ext.read 0x000F4 == 0x05 && t.ext.read 0x000F5 == 0x00 && t.ext.read 0x000F6 == 0x00 && t.ext.read 0x000F7 == 0x01 && t.ext.read 0x000F8 == 0x04 && t.ext.read 0x000F9 == 0x00 && t.ext.read 0x000FA == 0x03 && t.ext.read 0x000FB == 0x00 && t.ext.read 0x000FC == 0x02 && t.ext.read 0x000FD == 0x00 && t.ext.read 0x000FE == 0x01 && t.ext.read 0x000FF == 0x00) = true := by decide

theorem test_T203 : ends [0x61] ((start.setReg16 .sp 0x00F0).poke 0x000F0 [0x07, 0x00, 0x06, 0x00, 0x05, 0x00, 0x00, 0x02, 0x04, 0x00, 0x03, 0x00, 0x02, 0x00, 0x01, 0x00])
    (fun t => t.reg16 .aw == 0x0001 && t.reg16 .cw == 0x0002 && t.reg16 .dw == 0x0003 && t.reg16 .bw == 0x0004 && t.reg16 .bp == 0x0005 && t.reg16 .ix == 0x0006 && t.reg16 .iy == 0x0007 && t.reg16 .sp == 0x0100) = true := by decide

theorem test_T204 : ends [0xC8, 0x08, 0x00, 0x00] (start.setReg16 .sp 0x0100)
    (fun t => t.ext.read 0x000FE == 0x00 && t.ext.read 0x000FF == 0x00 && t.reg16 .bp == 0x00FE && t.reg16 .sp == 0x00F6) = true := by decide

theorem test_T205 : ends [0xC8, 0x04, 0x00, 0x01] ((start.setReg16 .sp 0x0100).setReg16 .bp 0x0200)
    (fun t => t.ext.read 0x000FC == 0xFE && t.ext.read 0x000FD == 0x00 && t.ext.read 0x000FE == 0x00 && t.ext.read 0x000FF == 0x02 && t.reg16 .bp == 0x00FE && t.reg16 .sp == 0x00F8) = true := by decide

theorem test_T206 : ends [0xC9] (((start.setReg16 .sp 0x00F6).setReg16 .bp 0x0400).poke 0x00400 [0x34, 0x12])
    (fun t => t.reg16 .sp == 0x0402 && t.reg16 .bp == 0x1234) = true := by decide

/-! Interrupts, CPU control, register banks -/

theorem test_T210 : ends [0xCC] (((start.withPsw 0xF202).setReg16 .sp 0x0400).poke 0x0000C [0x00, 0x03, 0x00, 0x10])
    (fun t => t.ext.read 0x003FA == 0x01 && t.ext.read 0x003FB == 0x01 && t.ext.read 0x003FC == 0x00 && t.ext.read 0x003FD == 0x00 && t.ext.read 0x003FE == 0x02 && t.ext.read 0x003FF == 0xF2 && t.reg16 .sp == 0x03FA && t.psw == 0xF002 && t.sreg .ps == 0x1000 && t.pc == 0x0300) = true := by decide

theorem test_P4 : ends [0xCD, 0x20] (((start.withPsw 0xF202).setReg16 .sp 0x0400).poke 0x00080 [0x00, 0x02, 0x00, 0x00])
    (fun t => t.ext.read 0x003FA == 0x02 && t.ext.read 0x003FB == 0x01 && t.ext.read 0x003FC == 0x00 && t.ext.read 0x003FD == 0x00 && t.ext.read 0x003FE == 0x02 && t.ext.read 0x003FF == 0xF2 && t.reg16 .sp == 0x03FA && t.psw == 0xF002 && t.pc == 0x0200) = true := by decide

theorem test_T211 : ends [0xCE] start
    (fun t => t.pc == 0x0101) = true := by decide

theorem test_T212 : ends [0xCE] (((start.setFlag .v true).setReg16 .sp 0x0400).poke 0x00010 [0x00, 0x03, 0x00, 0x10])
    (fun t => t.pc == 0x0300 && t.sreg .ps == 0x1000 && t.ext.read 0x003FA == 0x01 && t.ext.read 0x003FB == 0x01) = true := by decide

theorem test_T213 : ends [0xCF] ((start.setReg16 .sp 0x03FA).poke 0x003FA [0x02, 0x01, 0x00, 0x00, 0x02, 0xF2])
    (fun t => t.pc == 0x0102 && t.sreg .ps == 0x0000 && t.psw == 0xF202 && t.reg16 .sp == 0x0400) = true := by decide

theorem test_T214 : ends [0x62, 0x06, 0x00, 0x20] ((((start.setReg16 .aw 0x000A).poke 0x02000 [0x00, 0x00, 0x09, 0x00]).withPsw 0xF202).setReg16 .sp 0x0400)
    (fun t => t.psw == 0xF002) = true := by decide

theorem test_T215 : ends [0x62, 0x06, 0x00, 0x20] ((((start.setReg16 .aw 0x0009).poke 0x02000 [0x00, 0x00, 0x09, 0x00]).withPsw 0xF202).setReg16 .sp 0x0400)
    (fun t => t.psw == 0xF202 && t.pc == 0x0104) = true := by decide

theorem test_T216 : ends [0xD9, 0x06, 0x00, 0x20] ((start.withPsw 0xF202).setReg16 .sp 0x0400)
    (fun t => t.psw == 0xF002) = true := by decide

theorem test_T216_fpo2 : ends [0x66, 0xC1] ((start.withPsw 0xF202).setReg16 .sp 0x0400)
    (fun t => t.psw == 0xF002) = true := by decide

theorem test_T217_di : ends [0xFA] (start.withPsw 0xF202)
    (fun t => t.psw == 0xF002) = true := by decide

theorem test_T217_ei : ends [0xFB] start
    (fun t => t.psw == 0xF202 && t.hold) = true := by decide

theorem test_T218_set : ends [0xF9] start
    (fun t => t.psw == 0xF003) = true := by decide

theorem test_T218_clr : ends [0xF8] (start.setFlag .cy true)
    (fun t => t.psw == 0xF002) = true := by decide

theorem test_T218_not : ends [0xF5] start
    (fun t => t.psw == 0xF003) = true := by decide

theorem test_T219_set : ends [0xFD] start
    (fun t => t.psw == 0xF402) = true := by decide

theorem test_T219_clr : ends [0xFC] (start.setFlag .dir true)
    (fun t => t.psw == 0xF002) = true := by decide

theorem test_T220 : ends [0xF4] start
    (fun t => t.run == .halted && t.pc == 0x0101) = true := by decide

theorem test_stop : ends [0x0F, 0x9E] start
    (fun t => t.run == .stopped && t.pc == 0x0102) = true := by decide

theorem test_nop : ends [0x90] (start.setReg16 .aw 0x1234)
    (fun t => t.reg16 .aw == 0x1234 && t.pc == 0x0101) = true := by decide

theorem test_T222 : ends [0x0F, 0x91] (((start.withPsw 0xA002).setBankWord 2 0x04 0xF202).setBankWord 2 0x06 0x0150)
    (fun t => t.psw == 0xF202 && t.pc == 0x0150) = true := by decide

theorem test_T223 : ends [0x0F, 0x92] start
    (fun t => t.events == [.finishInterrupt] && t.psw == 0xF002) = true := by decide

theorem test_T224 : ends [0x0F, 0x2D, 0xC0] (((start.setReg16 .aw 0x0003).withPsw 0xF202).setBankWord 3 0x02 0x0800)
    (fun t => t.bankWord 3 0x04 == 0xF202 && t.bankWord 3 0x06 == 0x0103 && t.psw == 0xB002 && t.pc == 0x0800) = true := by decide

theorem test_brkcs_current : isRefused [0x0F, 0x2D, 0xC0] (start.setReg16 .aw 0x0007) .switchToCurrentBank = true := by decide

theorem test_tsksw : ends [0x0F, 0x94, 0xF8] (((start.setReg16 .aw 0x0003).withPsw 0xF202).setBankWord 3 0x02 0x0800)
    (fun t => t.bankWord 3 0x04 == 0xF202 && t.bankWord 3 0x06 == 0x0103 && t.psw == 0xB202 && t.pc == 0x0800) = true := by decide

theorem test_movspa : ends [0x0F, 0x25] ((((start.withPsw 0xA002).setBankWord 2 0x04 0xF202).setBankWord 7 0x0A 0x2000).setBankWord 7 0x16 0x0100)
    (fun t => t.sreg .ss == 0x2000 && t.reg16 .sp == 0x0100) = true := by decide

theorem test_movspb : ends [0x0F, 0x95, 0xF8] (((start.setReg16 .aw 0x0003).setSreg .ss 0x2000).setReg16 .sp 0x0100)
    (fun t => t.bankWord 3 0x0A == 0x2000 && t.bankWord 3 0x16 == 0x0100 && t.psw == 0xF002) = true := by decide

/-! Memory, aliases, decoding -/

theorem test_btclr_prc : ends [0x0F, 0x9C, 0xEB, 0x06, 0x10] start
    (fun t => t.prc == 0x0E && t.pc == 0x0115) = true := by decide

theorem test_btclr_prc_not : ends [0x0F, 0x9C, 0xEB, 0x04, 0x10] start
    (fun t => t.prc == 0x4E && t.pc == 0x0105) = true := by decide

theorem test_T230 : ends [0xA0, 0xFE, 0x0E] ((start.setSreg .ds0 0xFF00).setReg16 .aw 0x1234)
    (fun t => t.reg8 .al == 0x34) = true := by decide

theorem test_T231 : ends [0xA0, 0xFE, 0x0E] ((((start.setSreg .ds0 0xFF00).setReg16 .aw 0x1234).withPrc 0x0E).poke 0xFFEFE [0x5A])
    (fun t => t.reg8 .al == 0x5A) = true := by decide

theorem test_T232 : ends [0xC6, 0x06, 0xFF, 0x0F, 0x12] (start.setSreg .ds0 0xFF00)
    (fun t => t.idb == 0x12) = true := by decide

theorem test_T233 : ends [0xA2, 0x03, 0x0F] ((start.setSreg .ds0 0xFF00).setReg8 .al 0x12)
    (fun t => t.pc == 0x0103) = true := by decide

theorem test_T234 : isFault [0xA0, 0x80, 0x0F] (start.setSreg .ds0 0xFF00) .sfrAccessUnit = true := by decide

theorem test_T236 : ends [0xF3] start
    (fun t => t.pc == 0x0101) = true := by decide

theorem test_T237_0fff : isRefused [0x0F, 0xFF] start .undefinedEncoding = true := by decide

theorem test_T237_8ec8 : isRefused [0x8E, 0xC8] start .undefinedEncoding = true := by decide

theorem test_T237_c6c8 : isRefused [0xC6, 0xC8, 0x00] start .undefinedEncoding = true := by decide

theorem test_T238 : ends [0x8A, 0x46, 0x02] (((start.setReg16 .bp 0x0100).setSreg .ss 0x2000).poke 0x20102 [0x5A])
    (fun t => t.reg8 .al == 0x5A) = true := by decide

theorem test_T239 : ends [0x8A, 0x00] ((((start.setReg16 .bw 0xFFF0).setReg16 .ix 0x0020).setSreg .ds0 0x0100).poke 0x01010 [0x5A])
    (fun t => t.reg8 .al == 0x5A) = true := by decide

/-! ### Flags of the instructions that leave some undefined, for every free value -/

/-- T120 to T125: CY, V, S, Z, P of the logical instructions. -/
theorem test_logical_flags : ∀ free : Word,
    AluOp.and.status (0xA5 : Byte) 0x0F true free &&& 0x08C5 = 0x0004 ∧
    AluOp.or.status (0x01 : Byte) 0x80 true free &&& 0x08C5 = 0x0084 ∧
    AluOp.xor.status (0x1234 : Word) 0x1234 true free &&& 0x08C5 = 0x0044 ∧
    AluOp.or.status (0x8000 : Word) 0x0001 true free &&& 0x08C5 = 0x0080 ∧
    AluOp.test.status (0xFE : Byte) 0x01 true free &&& 0x08C5 = 0x0044 := by
  intro free
  simp only [AluOp.status, logicStatus]
  generalize flagOf free .ac = ac
  revert ac
  decide

/-- T127: TEST1 of a set bit. -/
theorem test_T127_flags : ∀ free : Word, testBitStatus (!(0x80 : Byte).getLsbD 7) free &&& 0x0841 = 0x0000 := by
  intro free
  simp only [testBitStatus]
  generalize flagOf free .ac = ac
  generalize flagOf free .p = p
  generalize flagOf free .s = sg
  revert ac p sg
  decide

/-- T132, T133, T139, T141, T144: result, CY and V of shifts by one. -/
theorem test_shifts_by_one :
    ShiftOp.shl.steps 1 ((0xC0 : Byte), false) = (0x80, true) ∧ leftV (0x80 : Byte) true = false ∧
    ShiftOp.shl.steps 1 ((0x40 : Byte), false) = (0x80, false) ∧ leftV (0x80 : Byte) false = true ∧
    ShiftOp.shl.steps 1 ((0x8000 : Word), false) = (0x0000, true) ∧ leftV (0x0000 : Word) true = true ∧
    ShiftOp.shr.steps 1 ((0x81 : Byte), false) = (0x40, true) ∧ rightV (0x40 : Byte) = true ∧
    ShiftOp.shra.steps 1 ((0x81 : Byte), false) = (0xC0, true) ∧ rightV (0xC0 : Byte) = false := by decide

/-- T135, T136, T146: shifts by the width and more. -/
theorem test_shifts_by_many :
    ShiftOp.shl.steps 8 ((0xFF : Byte), false) = (0x00, true) ∧ ShiftOp.shl.steps 9 ((0xFF : Byte), false) = (0x00, false) ∧
    ShiftOp.shra.steps 8 ((0x80 : Byte), false) = (0xFF, true) := by decide

/-- T148 to T158: result, CY and V of rotates. -/
theorem test_rotates :
    ShiftOp.rol.steps 1 ((0x81 : Byte), false) = (0x03, true) ∧ leftV (0x03 : Byte) true = true ∧
    ShiftOp.rol.steps 4 ((0x81 : Byte), true) = (0x18, false) ∧
    ShiftOp.ror.steps 1 ((0x01 : Byte), false) = (0x80, true) ∧ rightV (0x80 : Byte) = true ∧
    ShiftOp.ror.steps 1 ((0x02 : Byte), true) = (0x01, false) ∧ rightV (0x01 : Byte) = false ∧
    ShiftOp.ror.steps 1 ((0x0001 : Word), false) = (0x8000, true) ∧
    ShiftOp.rolc.steps 1 ((0x80 : Byte), false) = (0x00, true) ∧ leftV (0x00 : Byte) true = true ∧
    ShiftOp.rolc.steps 9 ((0x55 : Byte), true) = (0x55, true) ∧
    ShiftOp.rorc.steps 1 ((0x01 : Byte), true) = (0x80, true) ∧
    ShiftOp.rorc.steps 1 ((0x0001 : Word), false) = (0x0000, true) := by decide

/-- T100 to T103: ADJ4A and ADJ4S. -/
theorem test_adjust_packed : packedAdd 0x7D false false = (0x83, false, true) ∧ packedAdd 0x9A false false = (0x00, true, true) ∧
    packedSub 0x3E false true = (0x38, false, true) ∧ packedSub 0xFF true true = (0x99, true, true) := by decide

/-- T83, T84, T86, T89: no quotient. -/
theorem test_divide_errors : divUnsigned8 0x1000 0x10 = none ∧ divUnsigned8 0x0005 0x00 = none ∧
    divUnsigned16 0x00020000 0x0002 = none ∧ divSigned8 0x0080 0x01 = none := by decide

/-- S9, S10, S1: physical addresses. -/
theorem test_physical_addresses : phys 0xFFFF 0x0000 = 0xFFFF0 ∧ phys 0xFFFF 0x0010 = 0x00000 ∧ phys 0xFFFF 0xFFFF = 0x0FFEF ∧
    phys 0x1000 0xFFFF + 1 = 0x20000 := by decide

/-- Every cell of the register list holds, after reset, what the list says, but those with homes of their own (R75). -/
theorem test_reset_cells : (sfrTable.all fun r => [0xE0, 0xEA, 0xEB, 0xFF].contains r.offset ||
    State.reset.sfr.read r.offset == r.reset) = true := by decide

/-- The program's first instruction is fetched at FFFF0H after reset, and the table's word is placed there. -/
theorem test_first_fetch : ((State.reset.withFetchWord 8 0x90).ext == [(0xFFFF0, 0x90)]) = true := by decide

/-! ### Witnesses: states and operands that meet the hypotheses of the obligations -/

/-- The instruction completes. -/
def completes (i : Instr) (s : State) : Bool :=
  match exec i s with
  | .next _ => true
  | _ => false

theorem next_of_completes {i : Instr} {s : State} (h : completes i s = true) : ∃ t, exec i s = .next t := by
  unfold completes at h
  split at h
  · exact ⟨_, by assumption⟩
  · exact absurd h (by decide)

/-- A step gives a next state. -/
def advances (s : State) : Bool :=
  match step s with
  | .next _ => true
  | _ => false

theorem next_of_advances {s : State} (h : advances s = true) : ∃ t, step s = .next t := by
  unfold advances at h
  split at h
  · exact ⟨_, by assumption⟩
  · exact absurd h (by decide)

/-- A byte and a word operand at DS0:2000H. -/
def m8 : RM Reg8 := .mem (.direct 0x2000)
def m16 : RM Reg16 := .mem (.direct 0x2000)

/-- A stack with room: SS = 0000H, SP = 0400H, three words of 8000H above. -/
def stacked : State := (start.setReg16 .sp 0x0400).poke 0x0400 [0x00, 0x80, 0x00, 0x80, 0x00, 0x80]

/-- DS0 = FF00H, so that DS0:0F80H is TM0, a 16-bit register, and DS0:0FEBH is PRC. -/
def atTimer : State := start.setSreg .ds0 0xFF00

/-- Register and memory places; PRC as a byte; TM0 as a word; a word from on-chip RAM into the registers' area. -/
theorem test_witness_operands :
    byteSize.placeOk start (start.place (.reg .al)) = true ∧ byteSize.placeOk start (start.place m8) = true ∧
    byteSize.placeOk atTimer (atTimer.place (.mem (.direct 0x0FEB))) = true ∧
    wordSize.placeOk start (start.place (.reg .aw)) = true ∧ wordSize.placeOk start (start.place m16) = true ∧
    wordSize.placeOk atTimer (atTimer.place (.mem (.direct 0x0F80))) = true ∧
    wordSize.placeOk atTimer (atTimer.place (.mem (.direct 0x0EFF))) = true := by decide

theorem test_witness_AluOperands :
    ((AluOp.add, Instr.addEbRb) ∈ aluByteRmReg ∧ byteSize.placeOk start (start.place m8) = true) ∧
    ((AluOp.add, Instr.addEwRw) ∈ aluWordRmReg ∧ wordSize.placeOk start (start.place m16) = true) ∧
    ((AluOp.add, Instr.addRbEb) ∈ aluByteRegRm ∧ byteSize.placeOk start (start.place m8) = true) ∧
    ((AluOp.add, Instr.addRwEw) ∈ aluWordRegRm ∧ wordSize.placeOk start (start.place m16) = true) :=
  ⟨⟨.head _, by decide⟩, ⟨.head _, by decide⟩, ⟨.head _, by decide⟩, ⟨.head _, by decide⟩⟩

theorem test_witness_AluImmediate :
    ((AluOp.add, Instr.addEbImm8) ∈ aluByteRmImm ∧ byteSize.placeOk start (start.place m8) = true) ∧
    ((AluOp.add, Instr.addEwImm16) ∈ aluWordRmImm ∧ wordSize.placeOk start (start.place m16) = true) ∧
    ((AluOp.add, Instr.addEwSextImm8) ∈ aluWordRmSext ∧ wordSize.placeOk start (start.place m16) = true) ∧
    (AluOp.add, Instr.addAlImm8) ∈ aluByteAccImm ∧ (AluOp.add, Instr.addAwImm16) ∈ aluWordAccImm :=
  ⟨⟨.head _, by decide⟩, ⟨.head _, by decide⟩, ⟨.head _, by decide⟩, .head _, .head _⟩

theorem test_witness_AluFrame :
    (∃ t, exec (.addEbRb m8 .al) start = .next t) ∧ (∃ t, exec (.addEwRw m16 .aw) start = .next t) ∧
    (∃ t, exec (.addRbEb .al m8) start = .next t) ∧ (∃ t, exec (.addRwEw .aw m16) start = .next t) ∧
    (∃ t, exec (.addEbImm8 m8 0x01) start = .next t) ∧ (∃ t, exec (.addEwImm16 m16 0x0001) start = .next t) ∧
    (∃ t, exec (.addEwSextImm8 m16 0xFF) start = .next t) ∧ (∃ t, exec (.addAlImm8 0x01) start = .next t) ∧
    (∃ t, exec (.cmpAwImm16 0x0001) start = .next t) := by
  refine ⟨?_, ?_, ?_, ?_, ?_, ?_, ?_, ?_, ?_⟩ <;> exact next_of_completes (by decide)

theorem test_witness_IncDecNegNot :
    byteSize.placeOk start (start.place m8) = true ∧ wordSize.placeOk start (start.place m16) = true := by decide

theorem test_witness_ShiftsAndRotates :
    (byteSize.placeOk start (start.place m8) = true ∧ (ShiftOp.rol, Instr.rolEb1) ∈ shiftByteOnce ∧
      (ShiftOp.rol, Instr.rolEbCl) ∈ shiftByteCl ∧ (ShiftOp.rol, Instr.rolEbImm8) ∈ shiftByteImm) ∧
    (wordSize.placeOk start (start.place m16) = true ∧ (ShiftOp.rol, Instr.rolEw1) ∈ shiftWordOnce ∧
      (ShiftOp.rol, Instr.rolEwCl) ∈ shiftWordCl ∧ (ShiftOp.rol, Instr.rolEwImm8) ∈ shiftWordImm) ∧
    shiftCount 0x00 = 0 ∧ shiftCount 0x1F = 31 :=
  ⟨⟨by decide, .head _, .head _, .head _⟩, ⟨by decide, .head _, .head _, .head _⟩, by decide, by decide⟩

theorem test_witness_BitInstructions :
    (byteSize.placeOk start (start.place m8) = true ∧ (BitOp.clear, Instr.clr1EbCl) ∈ bitByteCl ∧
      (BitOp.clear, Instr.clr1EbImm3) ∈ bitByteImm) ∧
    (wordSize.placeOk start (start.place m16) = true ∧ (BitOp.clear, Instr.clr1EwCl) ∈ bitWordCl ∧
      (BitOp.clear, Instr.clr1EwImm4) ∈ bitWordImm) :=
  ⟨⟨by decide, .head _, .head _⟩, ⟨by decide, .head _, .head _⟩⟩

theorem test_witness_TestBit :
    byteSize.placeOk start (start.place m8) = true ∧ wordSize.placeOk start (start.place m16) = true := by decide

theorem test_witness_ModifyFrame :
    (∃ t, exec (.incReg16 .aw) start = .next t) ∧ (∃ t, exec (.incEb m8) start = .next t) ∧
    (∃ t, exec (.decEw m16) start = .next t) ∧ (∃ t, exec (.negEb m8) start = .next t) ∧
    (∃ t, exec (.rolEb1 m8) start = .next t) ∧ (∃ t, exec (.rolEbImm8 m8 0x03) start = .next t) ∧
    (∃ t, exec (.negEw m16) start = .next t) ∧ (∃ t, exec (.shlEwCl m16) start = .next t) ∧
    (∃ t, exec (.shrEwImm8 m16 0x03) start = .next t) ∧ (∃ t, exec (.notEb m8) start = .next t) ∧
    (∃ t, exec (.set1EwImm4 m16 0x0F) start = .next t) ∧ (∃ t, exec (.test1EbCl m8) start = .next t) ∧
    (∃ t, exec (.test1EwImm4 m16 0x0F) start = .next t) := by
  refine ⟨?_, ?_, ?_, ?_, ?_, ?_, ?_, ?_, ?_, ?_, ?_, ?_, ?_⟩ <;> exact next_of_completes (by decide)

theorem test_witness_Moves :
    byteSize.placeOk start (start.place m8) = true ∧ wordSize.placeOk start (start.place m16) = true ∧
    start.byteOk (phys (start.segValue .ds0) 0x2000) = true ∧ start.wordOk (phys (start.segValue .ds0) 0xFFFF) = true := by decide

/-- A pair at DS0:2000H, and one at the last offset that has a word. -/
theorem test_witness_OtherTransfers :
    wordSize.placeOk start (start.place m16) = true ∧ byteSize.placeOk start (start.place m8) = true ∧
    start.pairOk (start.memSeg (.direct 0x2000)) (start.ea (.direct 0x2000)) = true ∧
    start.pairOk (start.memSeg (.direct 0xFFFD)) (start.ea (.direct 0xFFFD)) = true ∧
    0xFFFE ≤ (start.ea (.direct 0xFFFE)).toNat ∧ 0xFFFE ≤ (start.ea (.direct 0xFFFF)).toNat ∧
    start.byteOk (phys (start.segValue .ds0) (start.reg16 .bw + (start.reg8 .al).setWidth 16)) = true := by decide

theorem test_witness_TransferFrame :
    (∃ t, exec (.movEbRb m8 .al) start = .next t) ∧ (∃ t, exec (.movEwSreg m16 .ss) start = .next t) ∧
    (∃ t, exec (.movRbEb .al m8) start = .next t) ∧ (∃ t, exec (.movRwEw .aw m16) start = .next t) ∧
    (∃ t, exec (.movReg8Imm8 .al 0x01) start = .next t) ∧ (∃ t, exec (.ldea .aw (.direct 0x2000)) start = .next t) ∧
    (∃ t, exec (.movAlMem 0x2000) start = .next t) ∧ (∃ t, exec (.movAwMem 0x2000) start = .next t) ∧
    (∃ t, exec (.movMemAl 0x2000) start = .next t) ∧ (∃ t, exec (.movMemAw 0x2000) start = .next t) ∧
    (∃ t, exec (.movSregEw .ds0 m16) start = .next t) ∧ (∃ t, exec (.movDs0Mem32 .aw (.direct 0x2000)) start = .next t) ∧
    (∃ t, exec (.movDs1Mem32 .aw (.direct 0x2000)) start = .next t) ∧ (∃ t, exec (.xchEbRb m8 .al) start = .next t) ∧
    (∃ t, exec (.xchEwRw m16 .aw) start = .next t) ∧ (∃ t, exec (.xchAwReg16 .bw) start = .next t) ∧
    (∃ t, exec .trans start = .next t) := by
  refine ⟨?_, ?_, ?_, ?_, ?_, ?_, ?_, ?_, ?_, ?_, ?_, ?_, ?_, ?_, ?_, ?_, ?_⟩ <;> exact next_of_completes (by decide)

theorem test_witness_Multiply :
    byteSize.placeOk start (start.place m8) = true ∧ wordSize.placeOk start (start.place m16) = true := by decide

/-- Quotients at the ends of their ranges: FFH, FFFFH, 127, -127, 32767, -32767. -/
theorem test_witness_Divide :
    (byteSize.placeOk start (start.place m8) = true ∧ wordSize.placeOk start (start.place m16) = true) ∧
    ((0x10 : Byte) ≠ 0 ∧ (0x0FFF : Word).toNat / (0x10 : Byte).toNat = 0xFF) ∧
    ((0x01 : Byte) ≠ 0 ∧ (0x007F : Word).toInt.tdiv (0x01 : Byte).toInt = 127) ∧
    ((0x01 : Byte) ≠ 0 ∧ (0xFF81 : Word).toInt.tdiv (0x01 : Byte).toInt = -127) ∧
    ((0x0002 : Word) ≠ 0 ∧ (0x0001FFFF : BitVec 32).toNat / (0x0002 : Word).toNat = 0xFFFF) ∧
    ((0x0001 : Word) ≠ 0 ∧ (0x00007FFF : BitVec 32).toInt.tdiv (0x0001 : Word).toInt = 32767) ∧
    ((0x0001 : Word) ≠ 0 ∧ (0xFFFF8001 : BitVec 32).toInt.tdiv (0x0001 : Word).toInt = -32767) := by decide

/-- The first quotients that do not fit: 100H, 10000H, 128, -129, 32768, -32769. -/
theorem test_witness_DivideError :
    (byteSize.placeOk stacked (stacked.place m8) = true ∧ wordSize.placeOk stacked (stacked.place m16) = true ∧
      stacked.entryOk 0 = true) ∧
    (0xFF < (0x1000 : Word).toNat / (0x10 : Byte).toNat) ∧ (127 < (0x0080 : Word).toInt.tdiv (0x01 : Byte).toInt) ∧
    ((0xFF7F : Word).toInt.tdiv (0x01 : Byte).toInt < -128) ∧
    (0xFFFF < (0x00020000 : BitVec 32).toNat / (0x0002 : Word).toNat) ∧
    (32767 < (0x00008000 : BitVec 32).toInt.tdiv (0x0001 : Word).toInt) ∧
    ((0xFFFF7FFF : BitVec 32).toInt.tdiv (0x0001 : Word).toInt < -32768) := by decide

theorem test_witness_AdjustedSumsAreDecimal : (0 < 100 ∧ 99 < 100) ∧ packedByte 99 = 0x99 ∧ packedByte 0 = 0x00 := by decide

theorem test_witness_RotateDigits :
    m8 ≠ .reg .al ∧ byteSize.placeOk start (start.place m8) = true ∧
    (RM.reg .ah : RM Reg8) ≠ .reg .al ∧ byteSize.placeOk start (start.place (.reg .ah)) = true := by decide

/-- A divisor of 1 in memory. -/
def divisor : State := start.poke 0x2000 [0x01, 0x00]

theorem test_witness_MultiplyDivideFrame :
    (∃ t, exec (.muluEb m8) start = .next t) ∧ (∃ t, exec (.mulEw m16) start = .next t) ∧
    (∃ t, exec (.mulReg16EwImm8 .aw m16 0x02) start = .next t) ∧
    ((∃ t, exec (.divuEb m8) divisor = .next t) ∧ readPlace byteOp (divisor.place m8) divisor = .ok (0x01, divisor) ∧
      divUnsigned8 (divisor.reg16 .aw) 0x01 ≠ none) ∧
    ((∃ t, exec (.divEw m16) divisor = .next t) ∧ readPlace wordOp (divisor.place m16) divisor = .ok (0x0001, divisor) ∧
      divSigned16 (divisor.reg16 .dw ++ divisor.reg16 .aw) 0x0001 ≠ none) ∧
    (∃ t, exec (.rol4Eb m8) start = .next t) := by
  refine ⟨?_, ?_, ?_, ⟨?_, by decide, by decide⟩, ⟨?_, by decide, by decide⟩, ?_⟩ <;> exact next_of_completes (by decide)

/-- RESET asserted during a run. -/
def resetting : State := { stacked with resetPin := true, stbc := 0x01 }

theorem test_witness_ResetStart : State.reset = State.reset ∧ resetting.resetPin = true ∧ ∃ t, step resetting = .next t :=
  ⟨rfl, rfl, next_of_advances (by decide)⟩

theorem test_witness_ResetState : resetting.resetPin = true := by decide

/-- After reset, with NOP where the first instruction is fetched. -/
def firstNop : State := State.reset.withFetchWord 8 0x90

theorem test_witness_StepKeepsInvariant :
    (firstNop.ext.wf 0x100000 = true ∧ firstNop.iram.wf 0x100 = true ∧ firstNop.sfr.wf 0x100 = true ∧
      bit15 firstNop.psw = true) ∧ ∃ t, step firstNop = .next t :=
  ⟨by decide, next_of_advances (by decide)⟩

theorem test_witness_StepKeepsPlatform : ∃ t, step firstNop = .next t := next_of_advances (by decide)

/-- RETRBI changes the bank, EI sets IE, POP PSW sets BRK and changes IBRK and DIR. -/
theorem test_witness_ControlBitWriters :
    (ends [0x0F, 0x91] ((start.withPsw 0xA002).setBankWord 2 0x04 0xF202) (fun t => t.bank != 2)) = true ∧
    (start.flag .ie = false ∧ ends [0xFB] start (fun t => t.flag .ie)) = true ∧
    (ends [0x9D] ((start.setReg16 .sp 0x0400).poke 0x0400 [0x00, 0x85]) (fun t => t.flag .brk && !t.flag .ibrk && t.flag .dir)) =
      true := by decide

/-- The shortest, the longest, an operand of every kind. -/
theorem test_witness_DecodeOfEncode :
    (Instr.nop).wellFormed = true ∧ (Instr.movEwImm16 (.mem (.based16 .bwIx 0xABCD)) 0x1234).wellFormed = true ∧
    (Instr.fpo1 7 7 (.reg .iy)).wellFormed = true ∧ (encode (.movEwImm16 (.mem (.based16 .bwIx 0xABCD)) 0x1234)).length = 6 := by
  decide

theorem test_witness_EncodeOfDecode :
    decode [0x8B, 0xC3, 0x90] = .ok ⟨.movRwEw .aw (.reg .bw), 2, [0x90]⟩ := rfl

/-- One encoding for each clause, at the boundary of its range: the last and first of the fields refused, two bytes after. -/
theorem test_witness_UndefinedEncodingsRejected :
    (0x0F : Byte) ∉ ([0x10, 0x11, 0x12] : List Byte) ∧ 2 ≤ ([0x00, 0x00] : List Byte).length ∧
    (0x0B : Byte) ≠ 0x0A ∧ ((0x08 : Byte).extractLsb' 3 3).toNat = 1 ∧ ((0xF8 : Byte).extractLsb' 3 3).toNat = 7 ∧
    ((0x30 : Byte).extractLsb' 3 3).toNat = 6 ∧ ((0x10 : Byte).extractLsb' 3 3).toNat = 2 ∧
    ((0x20 : Byte).extractLsb' 3 3).toNat = 4 ∧ (0xC0 : Byte).extractLsb' 6 2 = 3 ∧ (0x80 : Byte).extractLsb' 6 2 ≠ 3 ∧
    ((0xD8 : Byte).extractLsb' 3 3).toNat = 3 ∧ (0xD8 : Byte).extractLsb' 6 2 = 3 ∧
    (∀ rest, ([0x90] : List Byte) ≠ 0x0F :: 0x9E :: rest ∧ ([0x90] : List Byte) ≠ 0x0F :: 0xBE :: rest) :=
  ⟨by decide, by decide, by decide, by decide, by decide, by decide, by decide, by decide, by decide, by decide, by decide,
    by decide, fun _ => by simp⟩

/-- R431: 0FH BEH is STOP when `STOP_OPCODE` is BEH, undefined when it is 9EH, refused while it is not fixed. -/
theorem test_stop_opcode :
    ends [0x0F, 0xBE] { start with stopOpcode := .byteBE } (fun t => t.run == .stopped) = true ∧
    isRefused [0x0F, 0xBE] start .undefinedEncoding = true ∧
    isRefused [0x0F, 0x9E] { start with stopOpcode := .unset } .stopEncodingUnknown = true := by decide

/-- R430, R515: in HALT a macro service request is due with IE = 1 and waits with IE = 0; another with IE = 1 ends HALT. -/
theorem test_halt_requests :
    { (start.setFlag .ie true).withRun .halted with irq := some .macroService }.boundary = .request .macroService ∧
    { start.withRun .halted with irq := some .macroService }.boundary = .asleep ∧
    { (start.setFlag .ie true).withRun .halted with irq := some (.vectored 0x20) }.boundary = .wake := by decide

/-- A repeat prefix pending in front of NOP, a block instruction to resume, a truncated fetch at the end of `MEMMAP`. -/
def repNop : State := (start.placeBytes [0x90] 0).withPre ⟨none, some .rep, false⟩
def resuming : State := (start.withPre ⟨none, some .rep, false⟩).withResume (some (.block .stmb))
def atMapEnd : State := { start.placeBytes [0xB8] 0 with memmap := [⟨0x00000, 0x00100, .ram⟩] }

/-- STOP with its second byte not fixed. -/
def stopUnset : State := { start.placeBytes [0x0F, 0x9E] 0 with stopOpcode := .unset }

theorem test_witness_StepRunsDecodedInstruction :
    (firstNop.boundary = .execute ∧ firstNop.resume = none ∧ firstNop.pre.rep = none ∧
      (decodeWith firstNop.stopOpcode (firstNop.fetchBytes maxInstrBytes 0).1).toOption.isSome = true) ∧
    (repNop.boundary = .execute ∧ repNop.resume = none ∧ repNop.pre.rep ≠ none ∧
      decodeWith repNop.stopOpcode (repNop.fetchBytes maxInstrBytes 0).1 = .ok ⟨.nop, 1, [0, 0, 0, 0, 0]⟩) ∧
    (resuming.boundary = .execute ∧ resuming.resume = some (.block .stmb)) ∧
    ((start.placeBytes [0x63] 0).boundary = .execute ∧
      decodeWith start.stopOpcode ((start.placeBytes [0x63] 0).fetchBytes maxInstrBytes 0).1 = .error .undefinedEncoding) ∧
    (atMapEnd.boundary = .execute ∧ decodeWith atMapEnd.stopOpcode (atMapEnd.fetchBytes maxInstrBytes 0).1 = .error .truncated ∧
      (atMapEnd.fetchBytes maxInstrBytes 0).2 = some (.fault .unmappedFetch)) ∧
    (stopUnset.boundary = .execute ∧
      decodeWith stopUnset.stopOpcode (stopUnset.fetchBytes maxInstrBytes 0).1 = .error .stopUnset) ∧
    (∃ t, exec .nop start = .next t) :=
  ⟨⟨rfl, rfl, rfl, by decide⟩, ⟨rfl, rfl, by decide, rfl⟩, ⟨rfl, rfl⟩, ⟨rfl, rfl⟩, ⟨rfl, rfl, rfl⟩, ⟨rfl, rfl⟩, next_of_completes (by decide)⟩

/-- The addresses FFFF0H and FFFFBH, FFEFFH, FFF00H and FFFEFH, FFFFCH; a byte in the prefetch window. -/
theorem test_witness_FetchReadsExternalMemory :
    (State.reset.pcHigh = 0 ∧ State.reset.pc.toNat + 11 < 0x10000 ∧ State.reset.fetchAddr 11 = 0xFFFFB#20) ∧
    (State.reset.fetchAddr 12 = 0xFFFFC#20 ∧ State.reset.fetchByte 12 = .error (.fault .reservedFetch)) ∧
    (State.reset.fetchAddr 0 = 0xFFFF0#20 ∧ State.reset.kindAt 0xFFFF0#20 ≠ none ∧ State.reset.oldBytes 0xFFFF0#20 = []) ∧
    (atMapEnd.fetchAddr 1 = 0x00101#20 ∧ atMapEnd.kindAt 0x00101#20 = none) ∧
    ((start.withQueueOld [(0x100, 0x55)]).oldBytes 0x00100#20 = [0x55]) := by decide

/-- A state for each kind of boundary. -/
theorem test_witness_BoundaryOrder :
    resetting.resetPin = true ∧
    ((stacked.withRun .stopped).resetPin = false ∧ (stacked.withRun .stopped).run = .stopped) ∧
    ((stacked.withRun .halted).resetPin = false ∧ (stacked.withRun .halted).run = .halted) ∧
    ({ stacked.withRun .halted with nmi := true }.nmi = true ∧ (stacked.withRun .halted).irq = none) ∧
    ({ stacked.withRun .halted with irq := some .macroService }.irq = some .macroService ∧
      ((stacked.setFlag .ie true).withRun .halted).flag .ie = true ∧ (stacked.withRun .halted).flag .ie = false) ∧
    ({ stacked.withRun .halted with irq := some (.vectored 0x20) }.irq = some (.vectored 0x20) ∧
      IrqRequest.vectored 0x20 ≠ .macroService ∧ IrqRequest.bankSwitch 0 ≠ .macroService) ∧
    (stacked.resetPin = false ∧ stacked.run = .running ∧ stacked.pre = Prefixes.none ∧ stacked.resume = none ∧
      stacked.entryOk 1 = true ∧ stacked.entryOk 2 = true ∧ stacked.entryOk 0xFF = true) ∧
    ((stacked.withTrace true).trace = true ∧ (stacked.withTrace true).entryOk 1 = true) ∧
    (repNop.pre ≠ Prefixes.none ∧ repNop.resume = none) ∧
    (stacked.withHold true).hold = true ∧
    ({ stacked with nmi := true }.nmi = true ∧ { stacked with nmi := true }.hold = false) ∧
    ({ stacked.setFlag .ie true with irq := some (.vectored 0x20) }.flag .ie = true ∧
      { stacked.setFlag .ie true with irq := some (.vectored 0x20) }.entryOk 0x20 = true) ∧
    (2 : BitVec 3) ≠ { stacked.setFlag .ie true with irq := some (.bankSwitch 2) }.bank ∧
    { stacked.setFlag .ie true with irq := some (.bankSwitch 7) }.irq = some (.bankSwitch stacked.bank) ∧
    { stacked.setFlag .ie true with irq := some .macroService }.irq = some .macroService := by decide

/-- Addresses at the ends of the ranges: FFFFFH, SFR 00H and FEH, on-chip RAM 00H and FFH, FFF00H and FFFEFH with the area
elsewhere, FFFFCH and FFFFEH. -/
def areaAtZero : State := { start with idb := 0x00, area := 0x00 }

theorem test_witness_DataAccess :
    (start.sfrAddr 0x00 ≠ 0xFFFFF#20 ∧ start.sfrAddr 0xFE ≠ 0xFFFFF#20 ∧ areaAtZero.sfrAddr 0xFF ≠ 0xFFFFF#20) ∧
    start.prc.getLsbD 6 = true ∧
    ((0xFFF00#20 : PhysAddr) ≠ 0xFFFFF#20 ∧ (∀ o, (0xFFF00#20 : PhysAddr) ≠ areaAtZero.sfrAddr o) ∧
      (∀ k, (0xFFF00#20 : PhysAddr) = areaAtZero.iramAddr k → areaAtZero.prc.getLsbD 6 = false)) ∧
    (reservedData 0xFFEFF#20 = false ∧ reservedData 0xFFF00#20 = true ∧ reservedData 0xFFFEF#20 = true ∧
      reservedData 0xFFFF0#20 = false ∧ reservedData 0xFFFFB#20 = false ∧ reservedData 0xFFFFC#20 = true ∧
      reservedData 0xFFFFE#20 = true) ∧
    (atMapEnd.kindAt 0x00101#20 = none ∧ start.kindAt 0xFFFFB#20 = some .ram ∧
      { start with memmap := [⟨0x80000, 0x8FFFF, .rom⟩] }.kindAt 0x8FFFF#20 = some .rom) := by decide

/-- R261's example, off = 4 and len = 8, with digits above the offset: the whole register becomes 12. -/
theorem test_ext_offset_register : ends [0x0F, 0x3B, 0xC1, 0x07] (start.setReg8 .cl 0xA4)
    (fun t => t.bankByte 7 (offReg8 .cl) == 0x0C) = true := by decide

/-- R106, R207: a 32-bit operand at offset FFFEH. -/
theorem test_far_pointer_at_segment_end :
    isRefused [0xC5, 0x36, 0xFE, 0xFF] start .operandPastSegmentEnd = true := by decide

/-- R74, R75: CAH and DAH are in no row, so a byte write changes nothing. -/
theorem test_write_reserved_sfr : writeSfr 0xCA 0x55 start = .ok ((), start) ∧ writeSfr 0xDA 0x55 start = .ok ((), start) :=
  ⟨rfl, rfl⟩

/-- An offset of each kind: reserved, reached by words only (both its bytes), read-only, write-only, read and written. -/
theorem test_witness_SpecialRegisters :
    sfrByteKind 0x03 = .reserved ∧ sfrByteKind 0xCA = .reserved ∧ sfrByteKind 0xDA = .reserved ∧ sfrByteKind 0x80 = .wordOnly ∧ sfrByteKind 0x81 = .wordOnly ∧
    sfrByteKind 0xFC = .register .readOnly ∧ sfrByteKind 0x01 = .register .writeOnly ∧
    (0x01 : Byte) ∉ ([0xE0, 0xEA, 0xEB, 0xFF] : List Byte) ∧
    sfrByteKind 0x00 = .register .readWrite ∧ sfrByteKind 0xE9 = .register .readWrite ∧ sfr16 0x80 = true ∧ sfr16 0xE8 = true := by
  decide

theorem test_witness_ReadAfterWrite :
    start.storageAt 0x00000#20 = true ∧ start.storageAt 0xFFE00#20 = true ∧ start.storageAt 0xFFEFF#20 = true ∧
    start.storageWordAt 0x02000#20 = true ∧ start.storageWordAt 0xFFDFF#20 = true ∧
    (0x00001#20 : PhysAddr) ≠ 0x00000#20 := by decide

theorem test_witness_RegistersAreOnChipRam :
    start.prc.getLsbD 6 = true ∧ Reg8.al ≠ .ah ∧ Reg16.aw ≠ .bw ∧ SReg.ps ≠ .ss ∧ (0 : BitVec 3) ≠ start.bank ∧ 31 < 32 := by
  decide

theorem test_witness_IdbMovesInternalArea :
    (∃ t, exec .nop start = .next t) ∧ firstNop.boundary = .execute ∧ ends [0x90] start (fun t =>
      t.resume.isNone && t.pre == Prefixes.none) = true :=
  ⟨next_of_completes (by decide), rfl, by decide⟩

theorem test_witness_SumAndDifferenceFlags : AluOp.and.isLogical = true ∧ AluOp.or.isLogical = true ∧
    AluOp.xor.isLogical = true ∧ AluOp.test.isLogical = true := by decide

theorem test_witness_LogicalFlags : (AluOp.or, Instr.orEbRb) ∈ aluByteRmReg ∧ AluOp.or.isLogical = true ∧
    ∃ t, exec (.orEbRb m8 .al) start = .next t :=
  ⟨.tail _ (.head _), rfl, next_of_completes (by decide)⟩

theorem test_witness_ShiftClosedForms : 1 ≤ 1 ∧ 1 ≤ 8 ∧ 1 ≤ 9 ∧ 1 ≤ 255 := by decide

theorem test_witness_VectoredEntry : stacked.entryOk 0x00 = true ∧ stacked.entryOk 0xFF = true := by decide

theorem test_witness_ReturnUndoesEntry :
    (stacked.entryOk 0x20 = true ∧ bit15 stacked.psw = true) ∧
    (stacked.holdsWords 3 = true ∧ bit15 (stacked.extWord (stacked.above 4)) = true) ∧
    ((stacked.poke 0x0405 [0x00]).holdsWords 3 = true ∧
      bit15 ((stacked.poke 0x0405 [0x00]).extWord ((stacked.poke 0x0405 [0x00]).above 4)) = false) := by decide

/-- Bank 3 in AW; a save word with bit 15 set in the current bank; the state after a switch. -/
def inBank2 : State := (start.withPsw 0xA002).setBankWord 2 0x04 0xF202

theorem test_witness_BankSwitching :
    (3 : BitVec 3) ≠ start.bank ∧ ((start.setReg16 .aw 0x0003).reg16 .aw).extractLsb' 0 3 ≠ (start.setReg16 .aw 0x0003).bank ∧
    ((start.setReg16 .aw 0xFFFF).reg16 .aw).extractLsb' 0 3 = (start.setReg16 .aw 0xFFFF).bank ∧
    bit15 (inBank2.bankWord inBank2.bank offPswSave) = true ∧ bit15 (start.bankWord start.bank offPswSave) = false ∧
    bit15 start.psw = true := by decide

theorem test_witness_switch : ∃ t, (bankEntry 3 0x0150 start = .ok ((), t)) ∧ t.bank = 3 ∧ t.bankWord 3 offPcSave = 0x0150 :=
  ⟨_, rfl, by decide, by decide⟩

/-- V set and not; an index at and beyond the bound 0009H. -/
def bounded : State := stacked.poke 0x2000 [0x00, 0x00, 0x09, 0x00]

theorem test_witness_BreakInstructions :
    (stacked.entryOk 3 = true ∧ stacked.entryOk 4 = true ∧ stacked.entryOk 5 = true ∧ stacked.entryOk 7 = true) ∧
    (stacked.setFlag .v true).flag .v = true ∧ stacked.flag .v = false ∧
    readPair (bounded.memSeg (.direct 0x2000)) (bounded.ea (.direct 0x2000)) bounded = .ok ((0x0000, 0x0009), bounded) ∧
    ((0x0000 : Word).toInt ≤ (0x0009 : Word).toInt ∧ (0x0009 : Word).toInt ≤ (0x0009 : Word).toInt) ∧
    ((0x0009 : Word).toInt < (0x000A : Word).toInt ∧ (0xFFFF : Word).toInt < (0x0000 : Word).toInt) ∧
    bounded.pairOk (bounded.memSeg (.direct 0x2000)) (bounded.ea (.direct 0x2000)) = true ∧ bounded.entryOk 5 = true :=
  ⟨by decide, by decide, by decide, rfl, by decide, by decide, by decide, by decide⟩

theorem test_witness_BlockElements :
    start.pre.rep = none ∧ start.byteOk (phys (start.segValue .ds0) (start.reg16 .ix)) = true ∧
    start.byteOk (phys (start.sreg .ds1) (start.reg16 .iy)) = true ∧
    start.wordOk (phys (start.segValue .ds0) (start.reg16 .ix)) = true ∧
    start.wordOk (phys (start.sreg .ds1) (start.reg16 .iy)) = true ∧ start.flag .ibrk = true ∧
    start.portsOk 1 (start.reg16 .dw) = true ∧ start.portsOk 2 0xFFFF = true := by decide

/-- Under REP with CW = 2. -/
def repeating : State := resuming.setReg16 .cw 0x0002

theorem test_witness_BlockFrame :
    (∃ t, exec (BlockOp.movbkb).toInstr start = .next t) ∧ (∃ t, exec (BlockOp.outmw).toInstr start = .next t) ∧
    start.flag .ibrk = true ∧ (∃ t, exec (BlockOp.cmpbkw).toInstr repeating = .next t) :=
  ⟨next_of_completes (by decide), next_of_completes (by decide), rfl, next_of_completes (by decide)⟩

theorem test_witness_RepeatedBlock :
    repeating.pre.rep = some .rep ∧ Rep.rep.comparesOnly = false ∧ repeating.reg16 .cw ≠ 0 ∧ resuming.reg16 .cw = 0 ∧
    (∃ u, exec (BlockOp.stmb).toInstr (repeating.withPre { repeating.pre with rep := none }) = .next u) ∧
    (Rep.repc.comparesOnly = true ∧ BlockOp.stmb.compares = false ∧ BlockOp.cmpmb.compares = true) :=
  ⟨rfl, rfl, by decide, by decide, next_of_completes (by decide), by decide⟩

/-- CW = 1 and CW = 2; with CW = 2, the two bytes at DS1:IY. -/
theorem test_witness_RepeatedStoreFills :
    (1 ≤ 2 ∧ (repeating.reg16 .cw).toNat = 2 ∧ repeating.resume = some (.block .stmb) ∧ repeating.pre.rep = some .rep ∧
      repeating.resetPin = false ∧ repeating.run = .running ∧ repeating.nmi = false ∧ repeating.irq = none ∧
      repeating.trace = false ∧ repeating.flag .brk = false ∧ repeating.flag .dir = false) ∧
    (repeating.ramAt (phys (repeating.sreg .ds1) (repeating.reg16 .iy + BitVec.ofNat 16 0)) = true ∧
      repeating.ramAt (phys (repeating.sreg .ds1) (repeating.reg16 .iy + BitVec.ofNat 16 1)) = true) := by decide

theorem test_witness_InputOutput :
    (start.flag .ibrk = true ∧ start.portsOk 1 0x00FF = true ∧ start.portsOk 2 0xFFFF = true) ∧
    ((stacked.setFlag .ibrk false).flag .ibrk = false ∧ (stacked.setFlag .ibrk false).entryOk 19 = true) ∧
    (BlockOp.inmb.isIo = true ∧ (stacked.setFlag .ibrk false).pre.rep = none) ∧
    (repeating.pre.rep = some .rep ∧ repeating.reg16 .cw ≠ 0) := by decide

/-- A field inside one word (offset 0, length 16) and one that reaches into the next (offset 15, length 2). -/
theorem test_witness_BitFields :
    (start.wordOk (phys (start.segValue .ds0) (start.reg16 .ix)) = true ∧ ¬16 < 0 + 16) ∧
    (start.wordOk (phys (start.segValue .ds0) (start.reg16 .ix + 2)) = true ∧ 16 < 15 + 2) ∧
    (start.storageWordAt (phys (start.sreg .ds1) (start.reg16 .iy)) = true ∧
      start.storageWordAt (phys (start.sreg .ds1) (start.reg16 .iy + 2)) = true) ∧
    completes (.extReg8Imm4 .cl 0x0F) start = true ∧ completes (.insReg8Imm4 .cl 0x01) (start.setReg8 .cl 0x0F) = true ∧
    completes (.extReg8Reg8 .cl .dl) start = true ∧ completes (.insReg8Reg8 .cl .dl) start = true := by decide

/-- Two bytes of digits at DS0:0200H and DS1:0300H. -/
def digits : State :=
  ((((start.setReg8 .cl 0x04).setReg16 .ix 0x0200).setReg16 .iy 0x0300).poke 0x0200 [0x56, 0x34]).poke 0x0300 [0x78, 0x12]

theorem test_witness_DecimalStrings :
    ((digits.reg8 .cl).toNat = 2 * 2 ∧ 1 ≤ 2) ∧
    (∀ k, k < 2 → digits.memAt (phys (digits.segValue .ds0) (digits.reg16 .ix + BitVec.ofNat 16 k)) = true ∧
      digits.ramAt (phys (digits.sreg .ds1) (digits.reg16 .iy + BitVec.ofNat 16 k)) = true) ∧
    (digits.extBytes (digits.segValue .ds0) (digits.reg16 .ix) 2 ++ digits.extBytes (digits.sreg .ds1) (digits.reg16 .iy) 2).all
      (fun x => decide (x.toNat % 16 ≤ 9) && decide (x.toNat / 16 ≤ 9)) = true ∧
    phys (digits.sreg .ds1) (digits.reg16 .iy + BitVec.ofNat 16 0) ≠
      phys (digits.segValue .ds0) (digits.reg16 .ix + BitVec.ofNat 16 1) := by decide

/-- An even CL, and bytes that are no digits. -/
theorem test_witness_DecimalStringFrame :
    ∀ k, k < 2 → (digits.poke 0x0200 [0xFF]).memAt (phys (digits.segValue .ds0) (digits.reg16 .ix + BitVec.ofNat 16 k)) = true ∧
      (digits.poke 0x0200 [0xFF]).ramAt (phys (digits.sreg .ds1) (digits.reg16 .iy + BitVec.ofNat 16 k)) = true := by decide

theorem test_witness_Branches :
    wordSize.placeOk start (start.place m16) = true ∧
    start.pairOk (start.memSeg (.direct 0x2000)) (start.ea (.direct 0x2000)) = true ∧
    start.byteOk (start.sfrAddr 0xEA) = true ∧ start.byteOk (start.sfrAddr 0xFF) = true := by decide

theorem test_witness_CallsAndReturns :
    stacked.wordOk (stacked.below 2) = true ∧ wordSize.placeOk stacked (stacked.place m16) = true ∧
    stacked.roomFor 2 = true ∧ stacked.pairOk (stacked.memSeg (.direct 0x2000)) (stacked.ea (.direct 0x2000)) = true ∧
    stacked.wordOk (stacked.above 0) = true ∧ stacked.holdsWords 2 = true := by decide

/-- A PSW image with bit 15 = 1 and one with bit 15 = 0; the stack at the segment's end wraps. -/
theorem test_witness_PushAndPop :
    (stacked.wordOk (stacked.below 2) = true ∧ start.wordOk (start.below 2) = true ∧ Reg16.aw ≠ .sp) ∧
    stacked.wordOk (phys (stacked.memSeg (.direct 0x2000)) (stacked.ea (.direct 0x2000))) = true ∧
    (stacked.wordOk (stacked.above 0) = true ∧ wordSize.placeOk stacked (stacked.place m16) = true) ∧
    (stacked.memWordAt (stacked.above 0) = true ∧ bit15 (stacked.extWord (stacked.above 0)) = true) ∧
    bit15 ((stacked.poke 0x0401 [0x00]).extWord (stacked.above 0)) = false ∧
    stacked.wordOk (phys (stacked.sreg .ss) (stacked.reg16 .bp)) = true := by decide

/-- PREPARE with levels 0, 1 and 2. -/
theorem test_witness_RegisterFrames :
    stacked.roomFor 8 = true ∧ stacked.holdsWords 8 = true ∧ stacked.roomFor 1 = true ∧ stacked.roomFor 2 = true ∧
    stacked.roomFor 3 = true ∧ stacked.memWordAt (phys (stacked.sreg .ss) (stacked.reg16 .bp - BitVec.ofNat 16 2)) = true := by
  decide

theorem test_witness_ControlAndStackFrame :
    (∃ t, exec (.brEw m16) stacked = .next t) ∧ (∃ t, exec (.brMem32 (.direct 0x2000)) stacked = .next t) ∧
    (∃ t, exec (.btclr 0xEB 0x06 0x10) stacked = .next t) ∧ (∃ t, exec (.callNear 0x0010) stacked = .next t) ∧
    (∃ t, exec (.callEw m16) stacked = .next t) ∧ (∃ t, exec (.callFar 0x0010 0x1000) stacked = .next t) ∧
    (∃ t, exec (.callMem32 (.direct 0x2000)) stacked = .next t) ∧ (∃ t, exec .retNear stacked = .next t) ∧
    (∃ t, exec .retFar stacked = .next t) ∧ (∃ t, exec (.popReg16 .aw) stacked = .next t) ∧
    (∃ t, exec .popSs stacked = .next t) ∧ (∃ t, exec (.popEw m16) stacked = .next t) ∧
    (∃ t, exec .popPsw stacked = .next t) ∧ (∃ t, exec .dispose stacked = .next t) := by
  refine ⟨?_, ?_, ?_, ?_, ?_, ?_, ?_, ?_, ?_, ?_, ?_, ?_, ?_, ?_⟩ <;> exact next_of_completes (by decide)

theorem test_witness_CpuControl : (Flag.cy, true, Instr.set1Cy) ∈ flagSetters ∧ Flag.v.bit = 11 ∧ 11 < 16 :=
  ⟨.tail _ (.head _), by decide, by decide⟩

theorem test_witness_PrefixMarks :
    ((SReg.ds1, Instr.prefixDs1) ∈ segmentPrefixes ∧ (Rep.rep, Instr.prefixRep) ∈ repeatPrefixes) ∧
    (start.pre.seg = none ∧ start.pre.rep = none ∧ start.pre.lock = false) ∧
    ((start.withPre ⟨some .ss, some .rep, true⟩).pre.seg ≠ none ∧ (start.withPre ⟨some .ss, some .rep, true⟩).pre.rep ≠ none ∧
      (start.withPre ⟨some .ss, some .rep, true⟩).pre.lock = true) :=
  ⟨⟨.head _, .head _⟩, by decide, by decide⟩

/-! ### A repeated instruction, a prefix, an interrupt: one step each -/

/-- T22: the first iteration of REP MOVBKB. -/
theorem test_T22_iteration : ends [0xA4] ((((start.setReg16 .cw 0x0003).setReg16 .ix 0x0200).setReg16 .iy 0x0300).poke 0x0200
    [0x5A] |>.withPre ⟨none, some .rep, false⟩) (fun t => t.ext.read 0x300 == 0x5A && t.reg16 .cw == 0x0002 &&
      t.reg16 .ix == 0x0201 && t.resume == some (.block .movbkb)) = true := by decide

/-- T23: REP with CW = 0 does nothing. -/
theorem test_T23_zero_count : ends [0xA4] (start.withPre ⟨none, some .rep, false⟩)
    (fun t => t.reg16 .ix == 0x0000 && t.pc == 0x0101 && t.resume == none && t.pre == Prefixes.none) = true := by decide

/-- T25: REPNE CMPMB stops at the byte that is equal. -/
theorem test_T25_last_iteration : ends [0xAE] ((start.setReg16 .cw 0x0010).withPre ⟨none, some .repne, false⟩)
    (fun t => t.reg16 .cw == 0x000F && t.flag .z && t.resume == none) = true := by decide

/-- T236: a repeat prefix in front of NOP, a second segment override. -/
theorem test_T236_refused : isRefused [0x90] (start.withPre ⟨none, some .rep, false⟩) .repeatOnNonBlock = true ∧
    isRefused [0x2E] (start.withPre ⟨some .ds1, none, false⟩) .repeatedPrefix = true := by decide

/-- T6: a load with the DS1 override in force. -/
theorem test_T06_override : ends [0xA1, 0x00, 0x20] (((start.setSreg .ds1 0x1000).poke 0x12000 [0xCD, 0xAB]).withPre
    ⟨some .ds1, none, false⟩) (fun t => t.reg16 .aw == 0xABCD && t.pre == Prefixes.none) = true := by decide

/-- T221: a request answered by a switch to bank 2. -/
theorem test_T221_bank_request :
    (match step { ((start.withPsw 0xF202).setBankWord 2 0x02 0x0800).loadPc 0x0150 with irq := some (.bankSwitch 2) } with
      | .next t => t.bankWord 2 0x04 == 0xF202 && t.bankWord 2 0x06 == 0x0150 && t.psw == 0xA002 && t.pc == 0x0800 && t.irq == none
      | _ => false) = true := by decide

/-- T232: a store to IDB moves the internal data area for the next instruction. -/
theorem test_T232_area_moves : ends [0xC6, 0x06, 0xFF, 0x0F, 0x12] (start.setSreg .ds0 0xFF00)
    (fun t => t.area == 0x12 && t.sreg .ds0 == 0xFF00) = true := by decide

/-- ROM keeps its contents; the write is recorded. -/
theorem test_rom_write : ends [0xA2, 0x00, 0x20] { start with memmap := [⟨0x00000, 0x00FFF, .ram⟩, ⟨0x01000, 0x02FFF, .rom⟩] }
    (fun t => t.ext.read 0x2000 == 0x00 && t.events == [.romWrite 0x02000 0x00]) = true := by decide

end Sys2Proof.Tests
end

namespace Sys2Proof.Machine

/-! ### The flags of a state through its updates -/

theorem Flag.bit_lt (f : Flag) : f.bit < 16 := by cases f <;> decide

/-- FLAG holds two bits of the PSW, F0 and F1 (R72). -/
theorem Flag.bit_not_in_flagRegister {f : Flag} : f ≠ .f0 → f ≠ .f1 → ¬(f.bit = 3 ∨ f.bit = 5) := by
  cases f <;> decide

theorem flag_setStatus (s : State) (mask status : Word) (f : Flag) :
    (s.setStatus mask status).flag f = if mask.getLsbD f.bit then flagOf status f else s.flag f :=
  getLsbD_merge _ _ _ f.bit_lt

/-- A frame keeps every flag outside its mask, but for the two that are also bits of FLAG (R72). -/
theorem Frame.flag {s t : State} {regs : List Nat} {mask : Word} {loaded stored : List PhysAddr}
    (h : Frame s t regs mask loaded stored) {f : Flag} (hm : mask.getLsbD f.bit = false) (h0 : f ≠ .f0) (h1 : f ≠ .f1) :
    t.flag f = s.flag f :=
  h.psw f.bit f.bit_lt hm fun hb => absurd hb (Flag.bit_not_in_flagRegister h0 h1)

/-- Writing an operand, in a register or in memory, changes no flag but F0 and F1. -/
theorem writePlace_flag {w : Nat} {ρ : Type} {z : Size w ρ} (hz : z.Lawful) {d : Place ρ} {v : BitVec w} {s t : State}
    (h : writePlace z.ops d v s = .ok ((), t)) {f : Flag} (h0 : f ≠ .f0) (h1 : f ≠ .f1) : t.flag f = s.flag f :=
  (writePlace_frame hz h).2.flag BitVec.getLsbD_zero h0 h1

/-! ### AND, OR, XOR and TEST reset CY and V (R51, R60) -/

theorem flagOf_statusWord_cy (cy p ac z s v : Bool) : flagOf (statusWord cy p ac z s v) .cy = cy := by
  simp only [flagOf, Flag.bit, statusWord, getLsbD_putBit, Nat.reduceLT, reduceIte, reduceCtorEq]

theorem flagOf_statusWord_v (cy p ac z s v : Bool) : flagOf (statusWord cy p ac z s v) .v = v := by
  simp only [flagOf, Flag.bit, statusWord, getLsbD_putBit, Nat.reduceLT, reduceIte]

theorem AluOp.status_of_isLogical {w : Nat} {op : AluOp} (h : op.isLogical = true) (a b : BitVec w) (cy : Bool) (free : Word) :
    op.status a b cy free = logicStatus (op.result a b cy) free := by
  cases op with
  | or | and | xor | test => rfl
  | add | addc | sub | subc | cmp => cases h

theorem AluOp.status_resets_cy_v {w : Nat} {op : AluOp} (h : op.isLogical = true) (a b : BitVec w) (cy : Bool) (free : Word) :
    flagOf (op.status a b cy free) .cy = false ∧ flagOf (op.status a b cy free) .v = false := by
  rw [AluOp.status_of_isLogical h]
  exact ⟨flagOf_statusWord_cy .., flagOf_statusWord_v ..⟩

/-- What a two-operand instruction that completes has done: both operands read, the flags written, then the result. -/
theorem aluAt_ok {w : Nat} {ρ : Type} {k : Width w ρ} {op : AluOp} {d : Place ρ} {source : M (BitVec w)} {s t : State}
    (h : aluAt k op d source s = .ok ((), t)) : ∃ a b s1 s2 n free, readPlace k d s = .ok (a, s1) ∧ source s1 = .ok (b, s2) ∧
      (let u := (s2.withDraws n).setStatus maskStatus (op.status a b (s2.flag .cy) free)
       if op.stores then writePlace k d (op.result a b (s2.flag .cy)) u = .ok ((), t) else t = u) := by
  have hparts := h
  unfold aluAt at hparts
  obtain ⟨a, s1, h1, hrest⟩ := M.bind_ok.1 hparts
  obtain ⟨b, s2, h2, -⟩ := M.bind_ok.1 hrest
  obtain ⟨n, free, -, he⟩ := aluAt_apply k op d source h1 h2
  rw [h] at he
  refine ⟨a, b, s1, s2, n, free, h1, h2, ?_⟩
  cases hs : op.stores <;> rw [hs] at he
  · cases he; rfl
  · exact he.symm

/-- A logical two-operand instruction that completes leaves CY and V reset: its flags are, and the store of its result,
which may be to a special function register, does not touch them. -/
theorem aluAt_resets_cy_v {w : Nat} {ρ : Type} {z : Size w ρ} (hz : z.Lawful) {op : AluOp} (hl : op.isLogical = true)
    {d : Place ρ} {source : M (BitVec w)} {s t : State} (h : aluAt z.ops op d source s = .ok ((), t)) :
    t.flag .cy = false ∧ t.flag .v = false := by
  obtain ⟨a, b, s1, s2, n, free, -, -, hend⟩ := aluAt_ok h
  set u := (s2.withDraws n).setStatus maskStatus (op.status a b (s2.flag .cy) free) with hu
  have hflags : u.flag .cy = false ∧ u.flag .v = false := by
    rw [hu, flag_setStatus, flag_setStatus]
    exact AluOp.status_resets_cy_v hl a b (s2.flag .cy) free
  cases hs : op.stores
  · rw [hs, if_neg Bool.false_ne_true] at hend
    rwa [hend]
  · rw [hs, if_pos rfl] at hend
    rwa [writePlace_flag hz hend (by decide) (by decide), writePlace_flag hz hend (by decide) (by decide)]

theorem exec_resets_cy_v {w : Nat} {ρ : Type} {z : Size w ρ} (hz : z.Lawful) {op : AluOp} (hl : op.isLogical = true)
    {d : Place ρ} {source : M (BitVec w)} {i : Instr} {s t : State} (hi : exec i s = act (aluAt z.ops op d source) s)
    (h : exec i s = .next t) : t.flag .cy = false ∧ t.flag .v = false :=
  aluAt_resets_cy_v hz hl (act_eq_next.1 (hi.symm.trans h))

/-! ### The forms of the two-operand instructions -/

theorem act_aluRmReg {w : Nat} {ρ : Type} (k : Width w ρ) (op : AluOp) (e : RM ρ) (r : ρ) (s : State) :
    act (aluRmReg k op e r) s = act (aluAt k op (s.place e) (getReg k r)) s := act_bind_reads _ _ _

theorem act_aluRmImm {w : Nat} {ρ : Type} (k : Width w ρ) (op : AluOp) (e : RM ρ) (imm : BitVec w) (s : State) :
    act (aluRmImm k op e imm) s = act (aluAt k op (s.place e) (pure imm)) s := act_bind_reads _ _ _

theorem exec_aluByteRmReg {p} (hp : p ∈ aluByteRmReg) (e r s) :
    exec (p.2 e r) s = act (aluRmReg byteOp p.1 e r) s := by
  fin_cases hp <;> rfl

theorem exec_aluWordRmReg {p} (hp : p ∈ aluWordRmReg) (e r s) :
    exec (p.2 e r) s = act (aluRmReg wordOp p.1 e r) s := by
  fin_cases hp <;> rfl

theorem exec_aluByteRegRm {p} (hp : p ∈ aluByteRegRm) (r e s) :
    exec (p.2 r e) s = act (aluRegRm byteOp p.1 r e) s := by
  fin_cases hp <;> rfl

theorem exec_aluWordRegRm {p} (hp : p ∈ aluWordRegRm) (r e s) :
    exec (p.2 r e) s = act (aluRegRm wordOp p.1 r e) s := by
  fin_cases hp <;> rfl

theorem exec_aluByteRmImm {p} (hp : p ∈ aluByteRmImm) (e imm s) :
    exec (p.2 e imm) s = act (aluRmImm byteOp p.1 e imm) s := by
  fin_cases hp <;> rfl

theorem exec_aluWordRmImm {p} (hp : p ∈ aluWordRmImm) (e imm s) :
    exec (p.2 e imm) s = act (aluRmImm wordOp p.1 e imm) s := by
  fin_cases hp <;> rfl

theorem exec_aluWordRmSext {p} (hp : p ∈ aluWordRmSext) (e imm s) :
    exec (p.2 e imm) s = act (aluRmImm wordOp p.1 e (imm.signExtend 16)) s := by
  fin_cases hp <;> rfl

theorem exec_aluByteAccImm {p} (hp : p ∈ aluByteAccImm) (imm s) :
    exec (p.2 imm) s = act (aluAccImm byteOp p.1 imm) s := by
  fin_cases hp <;> rfl

theorem exec_aluWordAccImm {p} (hp : p ∈ aluWordAccImm) (imm s) :
    exec (p.2 imm) s = act (aluAccImm wordOp p.1 imm) s := by
  fin_cases hp <;> rfl

/-- Settles O40: each of the nine operand forms is `aluAt` at bytes or at words. -/
theorem logicalFlags : Obligations.LogicalFlags := by
  have hb := byteSize_lawful
  have hw := wordSize_lawful
  rintro s t (⟨p, hp, hl, e, r, h⟩ | ⟨p, hp, hl, e, r, h⟩ | ⟨p, hp, hl, r, e, h⟩ | ⟨p, hp, hl, r, e, h⟩ |
    ⟨p, hp, hl, e, imm, h⟩ | ⟨p, hp, hl, e, imm, h⟩ | ⟨p, hp, hl, e, imm, h⟩ | ⟨p, hp, hl, imm, h⟩ | ⟨p, hp, hl, imm, h⟩)
  · exact exec_resets_cy_v hb hl ((exec_aluByteRmReg hp e r s).trans (act_aluRmReg ..)) h
  · exact exec_resets_cy_v hw hl ((exec_aluWordRmReg hp e r s).trans (act_aluRmReg ..)) h
  · exact exec_resets_cy_v hb hl (exec_aluByteRegRm hp r e s) h
  · exact exec_resets_cy_v hw hl (exec_aluWordRegRm hp r e s) h
  · exact exec_resets_cy_v hb hl ((exec_aluByteRmImm hp e imm s).trans (act_aluRmImm ..)) h
  · exact exec_resets_cy_v hw hl ((exec_aluWordRmImm hp e imm s).trans (act_aluRmImm ..)) h
  · exact exec_resets_cy_v hw hl ((exec_aluWordRmSext hp e imm s).trans (act_aluRmImm ..)) h
  · exact exec_resets_cy_v hb hl (exec_aluByteAccImm hp imm s) h
  · exact exec_resets_cy_v hw hl (exec_aluWordAccImm hp imm s) h

/-! ### The start after reset (R43, R49) -/

/-- RESET asserted comes before all else that may be due (R516, R600). -/
theorem step_of_resetPin {s : State} (h : s.resetPin = true) : step s = .next s.warmReset := by
  have hb : s.boundary = .reset := by simp [State.boundary, h]
  simp [step, cycle, hb]

/-- While PC has not counted past FFFFH, the byte at PC is fetched from PS:PC, whatever the open constant of R44 is. -/
theorem fetchAddr_zero {s : State} (h : s.pcHigh = 0) : s.fetchAddr 0 = phys (s.sreg .ps) s.pc := by
  have hpc : s.pc.toNat < 0x10000 := s.pc.isLt
  simp [State.fetchAddr, h, hpc]

theorem sreg_congr {s t : State} (hram : t.iram = s.iram) (hpsw : t.psw = s.psw) (r : SReg) : t.sreg r = s.sreg r := by
  simp only [State.sreg, State.bankWord, State.bankByte, State.bank, hram, hpsw]

theorem flagOf_resetPsw {f : Flag} : f ≠ .ibrk → flagOf 0xF002 f = false := by
  cases f <;> decide

/-- A reset during a run starts with the PC, the PSW and the register banks of the power-on reset. -/
theorem start_of_reset {t : State} (h : t = State.reset ∨ ∃ s : State, s.resetPin = true ∧ step s = .next t) :
    t.pc = 0x0000 ∧ t.pcHigh = 0 ∧ t.psw = 0xF002 ∧ t.iram = State.reset.iram := by
  rcases h with rfl | ⟨s, hpin, hstep⟩
  · exact ⟨rfl, rfl, rfl, rfl⟩
  · rw [step_of_resetPin hpin] at hstep
    cases hstep
    exact ⟨rfl, rfl, rfl, rfl⟩

/-- Settles O21: the PSW, PC and PS of the reset state give the flags and the address FFFF0H of the first fetch. -/
theorem resetStart : Obligations.ResetStart := by
  intro t h
  obtain ⟨hpc, hhigh, hpsw, hram⟩ := start_of_reset h
  have hps : t.sreg .ps = 0xFFFF := (sreg_congr hram hpsw .ps).trans (by decide)
  have hfetch : t.fetchAddr 0 = 0xFFFF0#20 := by rw [fetchAddr_zero hhigh, hps, hpc]; decide
  refine ⟨hpsw, ?_, ?_, ?_, ?_, hpc, hps, hfetch⟩
  · rw [hpsw]; decide
  · rw [State.bank, hpsw]; decide
  · rw [State.flag, hpsw]; decide
  · intro f hf
    rw [State.flag, hpsw]
    exact flagOf_resetPsw hf

end Sys2Proof.Machine

/-! ## What every instruction keeps

One relation between the states before and after says all that no instruction breaks: the canonical form of the memories, the
parameters of the platform, the mapping in force, and the control bits of the PSW (R47, R65 to R68). The shared operations
keep it, so every instruction built from them does; the few that write the control bits keep the rest. -/

namespace Sys2Proof.Machine

-- Declarations are checked one after another, which keeps the memory of a compile bounded.
set_option Elab.async false

/-! ### The relations -/

/-- The memories stay canonical, PSW bit 15 stays 1, and the platform, the mapping in force and the set bits of STBC stay. -/
structure Evolves (s t : State) : Prop where
  ext : s.ext.wf 0x100000 = true → t.ext.wf 0x100000 = true
  iram : s.iram.wf 0x100 = true → t.iram.wf 0x100 = true
  sfr : s.sfr.wf 0x100 = true → t.sfr.wf 0x100 = true
  psw15 : bit15 s.psw = true → bit15 t.psw = true
  area : t.area = s.area
  memmap : t.memmap = s.memmap
  iomap : t.iomap = s.iomap
  stopOpcode : t.stopOpcode = s.stopOpcode
  stbc : s.stbc &&& t.stbc = s.stbc

/-- The control bits of the PSW: IBRK, BRK, IE, DIR, the bank field and bit 15 (R46). -/
def maskControl : Word := 0xF702

/-- The state evolves, and no control bit of the PSW changes but that IE and BRK may be reset, as an entry does (R45). -/
structure Keeps (s t : State) : Prop extends Evolves s t where
  control : ∀ i, maskControl.getLsbD i = true →
    t.psw.getLsbD i = s.psw.getLsbD i ∨ ((i = 8 ∨ i = 9) ∧ t.psw.getLsbD i = false)

theorem Evolves.refl (s : State) : Evolves s s := ⟨id, id, id, id, rfl, rfl, rfl, rfl, BitVec.and_self⟩

theorem Evolves.trans {s t u : State} (h : Evolves s t) (g : Evolves t u) : Evolves s u where
  ext := g.ext ∘ h.ext
  iram := g.iram ∘ h.iram
  sfr := g.sfr ∘ h.sfr
  psw15 := g.psw15 ∘ h.psw15
  area := g.area.trans h.area
  memmap := g.memmap.trans h.memmap
  iomap := g.iomap.trans h.iomap
  stopOpcode := g.stopOpcode.trans h.stopOpcode
  stbc := by rw [← h.stbc, BitVec.and_assoc, g.stbc]

/-- A change of state that leaves the PSW alone keeps the control bits. -/
theorem Evolves.keeps {s t : State} (h : Evolves s t) (hp : t.psw = s.psw) : Keeps s t :=
  ⟨h, fun i _ => .inl (by rw [hp])⟩

theorem Keeps.refl (s : State) : Keeps s s := (Evolves.refl s).keeps rfl

theorem Keeps.trans {s t u : State} (h : Keeps s t) (g : Keeps t u) : Keeps s u :=
  ⟨h.toEvolves.trans g.toEvolves, fun i hi => by
    rcases g.control i hi with hg | hg
    · rw [hg]; exact h.control i hi
    · exact .inr hg⟩

/-! ### Updates of the state -/

theorem keeps_withIram (s : State) {m : Memory} (h : s.iram.wf 0x100 = true → m.wf 0x100 = true) : Keeps s (s.withIram m) :=
  Evolves.keeps { Evolves.refl s with iram := h } rfl

theorem keeps_sfrWrite (s : State) {k : Nat} (hk : k < 0x100) (v : Byte) : Keeps s (s.withSfr (s.sfr.write k v)) :=
  Evolves.keeps { Evolves.refl s with sfr := fun h => Memory.wf_write h hk v } rfl

theorem keeps_storeExt (s : State) (a : PhysAddr) (v : Byte) : Keeps s (s.storeExt a v) :=
  Evolves.keeps { Evolves.refl s with ext := fun h => Memory.wf_write h a.isLt v } rfl

theorem keeps_withStbc (s : State) (v : Byte) : Keeps s (s.withStbc (s.stbc ||| v)) :=
  Evolves.keeps { Evolves.refl s with
    stbc := by show s.stbc &&& (s.stbc ||| v) = s.stbc; ext i; simp +contextual } rfl

/-- A change of fields that no invariant speaks of. -/
theorem keeps_of_eq {s t : State} (hext : t.ext = s.ext) (hiram : t.iram = s.iram) (hsfr : t.sfr = s.sfr) (hpsw : t.psw = s.psw)
    (harea : t.area = s.area) (hmem : t.memmap = s.memmap) (hio : t.iomap = s.iomap) (hstop : t.stopOpcode = s.stopOpcode)
    (hstbc : t.stbc = s.stbc) : Keeps s t :=
  Evolves.keeps ⟨by rw [hext]; exact id, by rw [hiram]; exact id, by rw [hsfr]; exact id, by rw [hpsw]; exact id, harea, hmem,
    hio, hstop, by rw [hstbc]; exact BitVec.and_self⟩ hpsw

/-- A new PSW keeps the control bits if each is as before, or is IE or BRK and reset. -/
theorem keeps_withPsw (s : State) {p : Word} (h : ∀ i, maskControl.getLsbD i = true →
    p.getLsbD i = s.psw.getLsbD i ∨ ((i = 8 ∨ i = 9) ∧ p.getLsbD i = false)) : Keeps s (s.withPsw p) :=
  ⟨{ Evolves.refl s with
    psw15 := fun h15 => by
      rcases h 15 (by decide) with hp | ⟨hp, -⟩
      · exact hp.trans h15
      · omega }, h⟩

theorem keeps_setStatus (s : State) {mask : Word} (hm : mask &&& maskControl = 0) (status : Word) :
    Keeps s (s.setStatus mask status) := by
  refine keeps_withPsw s fun i hi => .inl ?_
  have hlt : i < 16 := BitVec.lt_of_getLsbD hi
  have hmi : mask.getLsbD i = false := by
    have := congrArg (fun x => x.getLsbD i) hm
    simpa [hi] using this
  rw [getLsbD_merge _ _ _ hlt, hmi]; rfl

theorem keeps_setFlag (s : State) {f : Flag} (b : Bool) (hf : maskControl.getLsbD f.bit = false ∨ (f = .ie ∨ f = .brk) ∧ b = false) :
    Keeps s (s.setFlag f b) := by
  refine keeps_withPsw s fun i hi => ?_
  rw [withFlag, getLsbD_putBit _ _ _ _ (BitVec.lt_of_getLsbD hi)]
  split
  · next h =>
    subst h
    rcases hf with hf | ⟨rfl | rfl, rfl⟩
    · rw [hf] at hi; cases hi
    · exact .inr ⟨.inr rfl, rfl⟩
    · exact .inr ⟨.inl rfl, rfl⟩
  · exact .inl rfl

theorem keeps_clearIeBrk (s : State) : Keeps s s.clearIeBrk :=
  (keeps_setFlag s false (.inr ⟨.inl rfl, rfl⟩)).trans (keeps_setFlag _ false (.inr ⟨.inr rfl, rfl⟩))

theorem keeps_setBankByte (s : State) (b : BitVec 3) {o : Nat} (ho : o < 32) (v : Byte) : Keeps s (s.setBankByte b o v) :=
  keeps_withIram s fun h => Memory.wf_write h (bankKey_lt b ho) v

theorem keeps_setBankWord (s : State) (b : BitVec 3) {o : Nat} (ho : o + 1 < 32) (v : Word) : Keeps s (s.setBankWord b o v) :=
  (keeps_setBankByte s b (by omega) _).trans (keeps_setBankByte _ b ho _)

theorem keeps_setReg16 (s : State) (r : Reg16) (v : Word) : Keeps s (s.setReg16 r v) :=
  keeps_setBankWord s _ (offReg16_range r).2 v

theorem keeps_setReg8 (s : State) (r : Reg8) (v : Byte) : Keeps s (s.setReg8 r v) :=
  keeps_setBankByte s _ (offReg8_range r).2 v

theorem keeps_setSreg (s : State) (r : SReg) (v : Word) : Keeps s (s.setSreg r v) :=
  keeps_setBankWord s _ (by have := offSReg_range r; omega) v

theorem keeps_loadPc (s : State) (v : Word) : Keeps s (s.loadPc v) := keeps_of_eq rfl rfl rfl rfl rfl rfl rfl rfl rfl
theorem keeps_withDraws (s : State) (n : Nat) : Keeps s (s.withDraws n) := keeps_of_eq rfl rfl rfl rfl rfl rfl rfl rfl rfl
theorem keeps_withResume (s : State) (r : Option Resume) : Keeps s (s.withResume r) := keeps_of_eq rfl rfl rfl rfl rfl rfl rfl rfl rfl
theorem keeps_withTrace (s : State) (b : Bool) : Keeps s (s.withTrace b) := keeps_of_eq rfl rfl rfl rfl rfl rfl rfl rfl rfl
theorem keeps_record (s : State) (e : Event) : Keeps s (s.record e) := keeps_of_eq rfl rfl rfl rfl rfl rfl rfl rfl rfl
theorem keeps_protectBoundary (s : State) : Keeps s s.protectBoundary := keeps_of_eq rfl rfl rfl rfl rfl rfl rfl rfl rfl
theorem keeps_entered (s : State) : Keeps s s.entered := keeps_of_eq rfl rfl rfl rfl rfl rfl rfl rfl rfl

/-! ### Computations -/

/-- Whatever a computation ends in, `R` relates the state before to it. -/
def Ensures {α : Type} (R : State → State → Prop) (x : M α) : Prop := ∀ s a t, x s = .ok (a, t) → R s t

/-- A computation that keeps what every instruction keeps. -/
abbrev Keeping {α : Type} (x : M α) : Prop := Ensures Keeps x

section
variable {α β : Type}

theorem Ensures.act {R : State → State → Prop} {x : M Unit} (hx : Ensures R x) {s t : State} (h : act x s = .next t) : R s t :=
  hx s () t (act_eq_next.1 h)

theorem keeps_act {x : M Unit} (hx : Keeping x) {s t : State} (h : act x s = .next t) : Keeps s t := hx.act h

theorem keeping_pure (a : α) : Keeping (pure a) := by rintro s _ _ ⟨⟩; exact .refl s
theorem keeping_reads (f : State → α) : Keeping (reads f) := by rintro s _ _ ⟨⟩; exact .refl s
theorem keeping_faults (f : Fault) : Keeping (faults f : M α) := by rintro s _ _ ⟨⟩
theorem keeping_refuses (r : Refusal) : Keeping (refuses r : M α) := by rintro s _ _ ⟨⟩
theorem keeping_update {f : State → State} (h : ∀ s, Keeps s (f s)) : Keeping (update f) := by rintro s _ _ ⟨⟩; exact h s
theorem keeping_draw : Keeping draw := by rintro s _ _ ⟨⟩; exact keeps_withDraws s _
theorem keeping_drawByte : Keeping drawByte := by rintro s _ _ ⟨⟩; exact keeps_withDraws s _

theorem Ensures.bind {x : M α} {f : α → M β} (hx : Keeping x) (hf : ∀ a, Keeping (f a)) : Keeping (x >>= f) := by
  intro s b u h
  obtain ⟨a, t, h1, h2⟩ := M.bind_ok.1 h
  exact (hx s a t h1).trans (hf a t b u h2)

theorem keeping_bind_reads {g : State → α} {f : α → M β} (hf : ∀ a, Keeping (f a)) : Keeping (reads g >>= f) :=
  (keeping_reads g).bind hf

theorem keeping_bind_draw {f : Word → M β} (hf : ∀ a, Keeping (f a)) : Keeping (draw >>= f) := keeping_draw.bind hf

theorem keeping_ite {c : Prop} [Decidable c] {x y : M α} (hx : Keeping x) (hy : Keeping y) : Keeping (if c then x else y) := by
  split
  · exact hx
  · exact hy

end

/-! ### Data access and ports -/

theorem keeping_readPeripheral (o : Byte) : Keeping (readPeripheral o) :=
  keeping_drawByte.bind fun v => (keeping_update fun s => (keeps_sfrWrite s o.isLt v).trans (keeps_record _ _)).bind fun _ =>
    keeping_pure v

theorem keeping_readSfr (o : Byte) : Keeping (readSfr o) := by
  unfold readSfr
  refine keeping_ite (keeping_reads _) (keeping_ite (keeping_reads _) (keeping_ite (keeping_drawByte.bind fun _ => keeping_reads _)
    (keeping_ite (keeping_drawByte.bind fun v => (keeping_update fun s => keeps_record s _).bind fun _ => keeping_pure v) ?_)))
  split
  · exact keeping_faults _
  · exact keeping_drawByte
  · exact keeping_drawByte
  · exact keeping_readPeripheral o

theorem keeps_sfrWriteWord (s : State) (o : Byte) (x y : Byte) :
    Keeps s (s.withSfr ((s.sfr.write o.toNat x).write (o + 1).toNat y)) :=
  (keeps_sfrWrite s o.isLt x).trans (keeps_sfrWrite _ (o + 1).isLt y)

theorem keeping_readSfrWord (o : Byte) : Keeping (readSfrWord o) :=
  keeping_bind_draw fun v => (keeping_update fun s => (keeps_sfrWriteWord s o _ _).trans (keeps_record _ _)).bind fun _ =>
    keeping_pure v

theorem keeping_writePeripheral (o v : Byte) : Keeping (writePeripheral o v) :=
  keeping_update fun s => (keeps_sfrWrite s o.isLt v).trans (keeps_record _ _)

theorem keeping_writeSfr (o v : Byte) : Keeping (writeSfr o v) := by
  unfold writeSfr
  refine keeping_ite (keeping_update fun _ => keeps_of_eq rfl rfl rfl rfl rfl rfl rfl rfl rfl)
    (keeping_ite (keeping_update fun _ => keeps_of_eq rfl rfl rfl rfl rfl rfl rfl rfl rfl)
    (keeping_ite (keeping_update fun s => keeps_setStatus s (by decide) _)
    (keeping_ite (keeping_update fun s => (keeps_withStbc s v).trans (keeps_record _ _)) ?_)))
  split
  · exact keeping_faults _
  · exact keeping_pure _
  · exact keeping_pure _
  · exact keeping_writePeripheral o v

theorem keeping_writeSfrWord (o : Byte) (v : Word) : Keeping (writeSfrWord o v) :=
  keeping_update fun s => (keeps_sfrWriteWord s o _ _).trans (keeps_record _ _)

theorem keeping_readExt (a : PhysAddr) : Keeping (readExt a) := by
  intro s b t h
  unfold readExt at h
  split at h
  · cases h
  · split at h
    · cases h
    · cases h; exact .refl s

theorem keeping_writeExt (a : PhysAddr) (v : Byte) : Keeping (writeExt a v) := by
  intro s b t h
  unfold writeExt at h
  split at h
  · cases h
  · split at h
    · cases h
    · cases h; exact keeps_record s _
    · cases h; exact keeps_storeExt s a v

theorem keeping_readByte (a : PhysAddr) : Keeping (readByte a) :=
  keeping_bind_reads fun target => by
    cases target with
    | idbReg => exact keeping_reads _
    | sfr o => exact keeping_readSfr o
    | iram o => exact keeping_reads _
    | ext => exact keeping_readExt a

theorem keeping_writeByte (a : PhysAddr) (v : Byte) : Keeping (writeByte a v) :=
  keeping_bind_reads fun target => by
    cases target with
    | idbReg => exact keeping_update fun _ => keeps_of_eq rfl rfl rfl rfl rfl rfl rfl rfl rfl
    | sfr o => exact keeping_writeSfr o v
    | iram o => exact keeping_update fun s => keeps_withIram s fun h => Memory.wf_write h o.isLt v
    | ext => exact keeping_writeExt a v

theorem keeping_readWord (a : PhysAddr) : Keeping (readWord a) :=
  keeping_bind_reads fun _ => keeping_ite (keeping_readSfrWord _)
    ((keeping_readByte a).bind fun _ => (keeping_readByte (a + 1)).bind fun _ => keeping_pure _)

theorem keeping_writeWord (a : PhysAddr) (v : Word) : Keeping (writeWord a v) :=
  keeping_bind_reads fun _ => keeping_ite (keeping_writeSfrWord _ _)
    ((keeping_writeByte a _).bind fun _ => keeping_writeByte (a + 1) _)

theorem keeping_readW (seg off : Word) : Keeping (readW seg off) := keeping_readWord _
theorem keeping_writeW (seg off v : Word) : Keeping (writeW seg off v) := keeping_writeWord _ v

theorem keeping_readPair (seg off : Word) : Keeping (readPair seg off) :=
  keeping_ite ((keeping_readW _ _).bind fun _ => (keeping_readW _ _).bind fun _ => keeping_pure _) (keeping_refuses _)

theorem keeping_ioReadByte (port : Word) : Keeping (ioReadByte port) :=
  keeping_bind_reads fun _ => keeping_ite
    (keeping_drawByte.bind fun v => (keeping_update fun s => keeps_record s _).bind fun _ => keeping_pure v) (keeping_faults _)

theorem keeping_ioWriteByte (port : Word) (v : Byte) : Keeping (ioWriteByte port v) :=
  keeping_bind_reads fun _ => keeping_ite (keeping_update fun s => keeps_record s _) (keeping_faults _)

theorem keeping_ioReadWord (port : Word) : Keeping (ioReadWord port) :=
  (keeping_ioReadByte port).bind fun _ => (keeping_ioReadByte (port + 1)).bind fun _ => keeping_pure _

theorem keeping_ioWriteWord (port v : Word) : Keeping (ioWriteWord port v) :=
  (keeping_ioWriteByte port _).bind fun _ => keeping_ioWriteByte (port + 1) _

/-! ### Entries and the stack -/

theorem keeping_push16 (v : Word) : Keeping (push16 v) :=
  (keeping_update fun s => keeps_setReg16 s _ _).bind fun _ => keeping_bind_reads fun _ => keeping_bind_reads fun _ =>
    keeping_writeW _ _ v

theorem keeping_pop16 : Keeping pop16 :=
  keeping_bind_reads fun _ => keeping_bind_reads fun _ => (keeping_readW _ _).bind fun _ =>
    (keeping_update fun s => keeps_setReg16 s _ _).bind fun _ => keeping_pure _

theorem keeping_raise (v : Byte) (ret : Word) : Keeping (raise v ret) :=
  keeping_bind_reads fun _ => (keeping_push16 _).bind fun _ => (keeping_update keeps_clearIeBrk).bind fun _ =>
    keeping_bind_reads fun _ => (keeping_push16 _).bind fun _ => (keeping_push16 _).bind fun _ =>
      (keeping_readWord _).bind fun o => (keeping_readWord _).bind fun p =>
        keeping_update fun s => ((keeps_setSreg s .ps p).trans (keeps_loadPc _ o)).trans (keeps_entered _)

/-- A break of the instruction under way (R501). -/
theorem keeping_trap (savesNext : Bool) (v : Byte) : Keeping (trapPc savesNext >>= raise v) :=
  keeping_bind_reads fun _ => keeping_raise v _

/-! ### Operands of either width -/

/-- The operations of a width keep what every instruction keeps. -/
structure Width.Keeping {w : Nat} {ρ : Type} (k : Width w ρ) : Prop where
  readMem : ∀ seg off, Machine.Keeping (k.readMem seg off)
  writeMem : ∀ seg off v, Machine.Keeping (k.writeMem seg off v)
  setReg : ∀ s r v, Keeps s (k.setReg s r v)
  ioRead : ∀ port, Machine.Keeping (k.ioRead port)
  ioWrite : ∀ port v, Machine.Keeping (k.ioWrite port v)

theorem byteOp_keeping : byteOp.Keeping :=
  ⟨fun _ _ => keeping_readByte _, fun _ _ _ => keeping_writeByte _ _, keeps_setReg8, keeping_ioReadByte, keeping_ioWriteByte⟩

theorem wordOp_keeping : wordOp.Keeping :=
  ⟨fun _ _ => keeping_readWord _, fun _ _ _ => keeping_writeWord _ _, keeps_setReg16, keeping_ioReadWord, keeping_ioWriteWord⟩

section
variable {w : Nat} {ρ : Type} {k : Width w ρ} (hk : k.Keeping)
include hk

theorem keeping_setReg (r : ρ) (v : BitVec w) : Keeping (setReg k r v) := keeping_update fun s => hk.setReg s r v

theorem keeping_readPlace (p : Place ρ) : Keeping (readPlace k p) := by
  cases p with
  | reg r => exact keeping_reads _
  | mem seg off => exact hk.readMem seg off

theorem keeping_writePlace (p : Place ρ) (v : BitVec w) : Keeping (writePlace k p v) := by
  cases p with
  | reg r => exact keeping_setReg hk r v
  | mem seg off => exact hk.writeMem seg off v

theorem keeping_readRM (e : RM ρ) : Keeping (readRM k e) := keeping_bind_reads fun p => keeping_readPlace hk p

theorem keeping_writeRM (e : RM ρ) (v : BitVec w) : Keeping (writeRM k e v) := keeping_bind_reads fun p => keeping_writePlace hk p v

theorem keeping_aluAt (op : AluOp) (d : Place ρ) {source : M (BitVec w)} (hs : Keeping source) : Keeping (aluAt k op d source) := by
  refine (keeping_readPlace hk d).bind fun a => hs.bind fun b => keeping_bind_reads fun cy => ?_
  exact keeping_ite (keeping_bind_draw fun _ => (keeping_update fun s => keeps_setStatus s (by decide) _).bind fun _ =>
      keeping_ite (keeping_writePlace hk d _) (keeping_pure _))
    ((keeping_pure _).bind fun _ => (keeping_update fun s => keeps_setStatus s (by decide) _).bind fun _ =>
      keeping_ite (keeping_writePlace hk d _) (keeping_pure _))

theorem keeping_aluRmReg (op : AluOp) (e : RM ρ) (r : ρ) : Keeping (aluRmReg k op e r) :=
  keeping_bind_reads fun d => keeping_aluAt hk op d (keeping_reads _)

theorem keeping_aluRegRm (op : AluOp) (r : ρ) (e : RM ρ) : Keeping (aluRegRm k op r e) :=
  keeping_aluAt hk op (.reg r) (keeping_readRM hk e)

theorem keeping_aluRmImm (op : AluOp) (e : RM ρ) (imm : BitVec w) : Keeping (aluRmImm k op e imm) :=
  keeping_bind_reads fun d => keeping_aluAt hk op d (keeping_pure imm)

theorem keeping_aluAccImm (op : AluOp) (imm : BitVec w) : Keeping (aluAccImm k op imm) :=
  keeping_aluAt hk op _ (keeping_pure imm)

theorem keeping_modifyRM (e : RM ρ) (f : BitVec w → BitVec w) : Keeping (modifyRM k e f) :=
  keeping_bind_reads fun d => (keeping_readPlace hk d).bind fun _ => keeping_writePlace hk d _

theorem keeping_incPlace (d : Place ρ) : Keeping (incPlace k d) :=
  (keeping_readPlace hk d).bind fun _ => (keeping_writePlace hk d _).bind fun _ =>
    keeping_update fun s => keeps_setStatus s (by decide) _

theorem keeping_decPlace (d : Place ρ) : Keeping (decPlace k d) :=
  (keeping_readPlace hk d).bind fun _ => (keeping_writePlace hk d _).bind fun _ =>
    keeping_update fun s => keeps_setStatus s (by decide) _

theorem keeping_negPlace (d : Place ρ) : Keeping (negPlace k d) :=
  (keeping_readPlace hk d).bind fun _ => (keeping_writePlace hk d _).bind fun _ =>
    keeping_update fun s => keeps_setStatus s (by decide) _

omit hk in
/-- An operation on the place of a mod-r/m operand. -/
theorem keeping_atPlace {f : Place ρ → M Unit} (hf : ∀ d, Keeping (f d)) (e : RM ρ) :
    Keeping (do let d ← reads fun s => s.place e; f d) := keeping_bind_reads hf

theorem keeping_shiftPlace (op : ShiftOp) (d : Place ρ) (c : Nat) : Keeping (shiftPlace k op d c) := by
  refine (keeping_readPlace hk d).bind fun t => keeping_bind_reads fun cy => ?_
  refine keeping_ite (keeping_writePlace hk d t) (keeping_bind_draw fun free => ?_)
  exact (keeping_update fun s => keeps_setStatus s (by cases op <;> decide) _).bind fun _ => keeping_writePlace hk d _

theorem keeping_shiftOnce (op : ShiftOp) (e : RM ρ) : Keeping (shiftOnce k op e) :=
  keeping_bind_reads fun d => keeping_shiftPlace hk op d 1

theorem keeping_shiftByCl (op : ShiftOp) (e : RM ρ) : Keeping (shiftByCl k op e) :=
  keeping_bind_reads fun d => keeping_bind_reads fun c => keeping_shiftPlace hk op d c

theorem keeping_shiftByImm (op : ShiftOp) (e : RM ρ) (imm : Byte) : Keeping (shiftByImm k op e imm) :=
  keeping_bind_reads fun d => keeping_shiftPlace hk op d _

theorem keeping_testBit (e : RM ρ) (n : Nat) : Keeping (testBit k e n) :=
  (keeping_readRM hk e).bind fun _ => keeping_bind_draw fun _ => keeping_update fun s => keeps_setStatus s (by decide) _

theorem keeping_test1Cl (e : RM ρ) : Keeping (test1Cl k e) := keeping_bind_reads fun n => keeping_testBit hk e n
theorem keeping_clr1Cl (e : RM ρ) : Keeping (clr1Cl k e) := keeping_bind_reads fun _ => keeping_modifyRM hk e _
theorem keeping_set1Cl (e : RM ρ) : Keeping (set1Cl k e) := keeping_bind_reads fun _ => keeping_modifyRM hk e _
theorem keeping_not1Cl (e : RM ρ) : Keeping (not1Cl k e) := keeping_bind_reads fun _ => keeping_modifyRM hk e _

/-! ### Data transfer, blocks, ports -/

theorem keeping_movRmReg (e : RM ρ) (r : ρ) : Keeping (movRmReg k e r) := keeping_bind_reads fun v => keeping_writeRM hk e v

theorem keeping_movRegRm (r : ρ) (e : RM ρ) : Keeping (movRegRm k r e) := (keeping_readRM hk e).bind fun v => keeping_setReg hk r v

theorem keeping_loadDirect (addr : Word) : Keeping (loadDirect k addr) :=
  keeping_bind_reads fun _ => (hk.readMem _ addr).bind fun v => keeping_setReg hk _ v

theorem keeping_storeDirect (addr : Word) : Keeping (storeDirect k addr) :=
  keeping_bind_reads fun _ => keeping_bind_reads fun v => hk.writeMem _ addr v

theorem keeping_xchRm (e : RM ρ) (r : ρ) : Keeping (xchRm k e r) :=
  keeping_bind_reads fun d => (keeping_readPlace hk d).bind fun t => keeping_bind_reads fun v =>
    (keeping_writePlace hk d v).bind fun _ => keeping_setReg hk r t

omit hk in
theorem keeping_advance (r : Reg16) (n : Word) : Keeping (advance r n) := keeping_update fun s => keeps_setReg16 s r _

theorem keeping_moveElement : Keeping (moveElement k) :=
  keeping_bind_reads fun _ => keeping_bind_reads fun _ => (hk.readMem _ _).bind fun _ => keeping_bind_reads fun _ =>
    keeping_bind_reads fun _ => (hk.writeMem _ _ _).bind fun _ => (keeping_advance _ _).bind fun _ => keeping_advance _ _

theorem keeping_compareElements : Keeping (compareElements k) :=
  keeping_bind_reads fun _ => keeping_bind_reads fun _ => (hk.readMem _ _).bind fun _ => keeping_bind_reads fun _ =>
    keeping_bind_reads fun _ => (hk.readMem _ _).bind fun _ =>
      (keeping_update fun s => keeps_setStatus s (by decide) _).bind fun _ =>
        (keeping_advance _ _).bind fun _ => keeping_advance _ _

theorem keeping_compareAcc : Keeping (compareAcc k) :=
  keeping_bind_reads fun _ => keeping_bind_reads fun _ => (hk.readMem _ _).bind fun _ => keeping_bind_reads fun _ =>
    (keeping_update fun s => keeps_setStatus s (by decide) _).bind fun _ => keeping_advance _ _

theorem keeping_loadElement : Keeping (loadElement k) :=
  keeping_bind_reads fun _ => keeping_bind_reads fun _ => (hk.readMem _ _).bind fun v =>
    (keeping_setReg hk _ v).bind fun _ => keeping_advance _ _

theorem keeping_storeElement : Keeping (storeElement k) :=
  keeping_bind_reads fun _ => keeping_bind_reads fun _ => keeping_bind_reads fun _ =>
    (hk.writeMem _ _ _).bind fun _ => keeping_advance _ _

theorem keeping_inputElement : Keeping (inputElement k) :=
  keeping_bind_reads fun _ => (hk.ioRead _).bind fun _ => keeping_bind_reads fun _ => keeping_bind_reads fun _ =>
    (hk.writeMem _ _ _).bind fun _ => keeping_advance _ _

theorem keeping_outputElement : Keeping (outputElement k) :=
  keeping_bind_reads fun _ => keeping_bind_reads fun _ => (hk.readMem _ _).bind fun _ => keeping_bind_reads fun _ =>
    (hk.ioWrite _ _).bind fun _ => keeping_advance _ _

theorem keeping_input (port : Word) : Keeping (input k port) := (hk.ioRead port).bind fun v => keeping_setReg hk _ v
theorem keeping_output (port : Word) : Keeping (output k port) := keeping_bind_reads fun v => hk.ioWrite port v
theorem keeping_inputDw : Keeping (inputDw k) := keeping_bind_reads fun port => keeping_input hk port
theorem keeping_outputDw : Keeping (outputDw k) := keeping_bind_reads fun port => keeping_output hk port

end

theorem keeping_ifIoAllowed {x : M Unit} (hx : Keeping x) : Keeping (ifIoAllowed x) :=
  keeping_bind_reads fun _ => keeping_ite hx (keeping_trap _ _)

theorem keeping_repeated (b : BlockOp) {x : M Unit} (hx : Keeping x) : Keeping (repeated b x) := by
  refine keeping_bind_reads fun p => ?_
  cases p with
  | none => exact keeping_ite (keeping_ifIoAllowed hx) hx
  | some p =>
    refine keeping_ite (keeping_refuses _) (keeping_bind_reads fun _ => keeping_ite (keeping_trap _ _)
      (keeping_bind_reads fun _ => keeping_ite (keeping_update fun s => keeps_withResume s _) (hx.bind fun _ => ?_)))
    exact (keeping_update fun s => keeps_setReg16 s _ _).bind fun _ => keeping_update fun s => keeps_withResume s _

/-! ### The other shapes -/

theorem keeping_mulByte (f : Byte → Byte → Word × Bool) (e : RM Reg8) : Keeping (mulByte f e) :=
  (keeping_readRM byteOp_keeping e).bind fun _ => keeping_bind_reads fun _ => keeping_bind_draw fun _ =>
    keeping_update fun s => (keeps_setReg16 s _ _).trans (keeps_setStatus _ (by decide) _)

theorem keeping_mulWord (f : Word → Word → BitVec 32 × Bool) (e : RM Reg16) : Keeping (mulWord f e) :=
  (keeping_readRM wordOp_keeping e).bind fun _ => keeping_bind_reads fun _ => keeping_bind_draw fun _ =>
    keeping_update fun s => ((keeps_setReg16 s _ _).trans (keeps_setReg16 _ _ _)).trans (keeps_setStatus _ (by decide) _)

theorem keeping_mulImm (r : Reg16) (e : RM Reg16) (imm : Word) : Keeping (mulImm r e imm) :=
  (keeping_readRM wordOp_keeping e).bind fun _ => keeping_bind_draw fun _ =>
    keeping_update fun s => (keeps_setReg16 s _ _).trans (keeps_setStatus _ (by decide) _)

theorem keeping_divideError : Keeping divideError :=
  keeping_bind_draw fun _ => (keeping_update fun s => keeps_setStatus s (by decide) _).bind fun _ => keeping_trap _ _

theorem keeping_divByte (f : Word → Byte → Option (Byte × Byte)) (e : RM Reg8) : Keeping (divByte f e) := by
  refine (keeping_readRM byteOp_keeping e).bind fun d => keeping_bind_reads fun n => ?_
  split
  · exact keeping_divideError
  · exact keeping_bind_draw fun _ => keeping_update fun s =>
      ((keeps_setReg8 s _ _).trans (keeps_setReg8 _ _ _)).trans (keeps_setStatus _ (by decide) _)

theorem keeping_divWord (f : BitVec 32 → Word → Option (Word × Word)) (e : RM Reg16) : Keeping (divWord f e) := by
  refine (keeping_readRM wordOp_keeping e).bind fun d => keeping_bind_reads fun n => ?_
  split
  · exact keeping_divideError
  · exact keeping_bind_draw fun _ => keeping_update fun s =>
      ((keeps_setReg16 s _ _).trans (keeps_setReg16 _ _ _)).trans (keeps_setStatus _ (by decide) _)

theorem keeping_adjustPacked (f : Byte → Bool → Bool → Byte × Bool × Bool) : Keeping (adjustPacked f) :=
  keeping_bind_reads fun _ => keeping_bind_draw fun _ =>
    keeping_update fun s => (keeps_setReg8 s _ _).trans (keeps_setStatus _ (by decide) _)

theorem keeping_adjustUnpacked (add : Bool) : Keeping (adjustUnpacked add) :=
  keeping_bind_reads fun _ => keeping_bind_reads fun _ => keeping_bind_reads fun _ => keeping_bind_draw fun _ =>
    keeping_update fun s => ((keeps_setReg8 s _ _).trans (keeps_setReg8 _ _ _)).trans (keeps_setStatus _ (by decide) _)

theorem keeping_bcdByte (f : Byte → Byte → Bool → Byte × Bool) (isOpen : Bool) (d s : Byte) (c : Bool) :
    Keeping (bcdByte f isOpen d s c) := keeping_ite (keeping_bind_draw fun _ => keeping_pure _) (keeping_pure _)

theorem keeping_bcdLoop (f : Byte → Byte → Bool → Byte × Bool) (store isOpen : Bool) (src dst : Word) (n : Nat) (ix iy : Word)
    (c z : Bool) : Keeping (bcdLoop f store isOpen src dst n ix iy c z) := by
  induction n generalizing ix iy c z with
  | zero => exact keeping_pure _
  | succ n ih =>
    refine (keeping_readByte _).bind fun s => (keeping_readByte _).bind fun d => (keeping_bcdByte f isOpen d s c).bind fun out => ?_
    exact keeping_ite ((keeping_writeByte _ _).bind fun _ => ih _ _ _ _) (ih _ _ _ _)

theorem keeping_bcdString (f : Byte → Byte → Bool → Byte × Bool) (store : Bool) : Keeping (bcdString f store) :=
  keeping_bind_reads fun _ => keeping_bind_reads fun _ => keeping_bind_reads fun _ => keeping_bind_reads fun _ =>
    keeping_bind_reads fun _ => (keeping_bcdLoop _ _ _ _ _ _ _ _ _ _).bind fun _ => keeping_bind_draw fun _ =>
      keeping_update fun s => keeps_setStatus s (by decide) _

theorem keeping_rotateDigit (e : RM Reg8) (f : Byte → Byte → Byte × BitVec 4) : Keeping (rotateDigit e f) :=
  keeping_ite (keeping_drawByte.bind fun _ => keeping_update fun s => keeps_setReg8 s _ _)
    (keeping_bind_reads fun d => (keeping_readPlace byteOp_keeping d).bind fun _ => keeping_bind_reads fun _ =>
      (keeping_writePlace byteOp_keeping d _).bind fun _ => keeping_bind_draw fun _ => keeping_update fun s => keeps_setReg8 s _ _)

theorem keeping_finishField (index : Reg16) (offReg : Reg8) (next : Nat) (high : BitVec 4) :
    Keeping (finishField index offReg next high) := by
  refine (keeping_update fun s => keeps_setReg8 s _ _).bind fun _ => (keeping_update fun s => ?_).bind fun _ =>
    keeping_bind_draw fun _ => keeping_update fun s => keeps_setStatus s (by decide) _
  split
  · exact keeps_setReg16 s _ _
  · exact .refl s

theorem keeping_insertField (offReg : Reg8) (lenByte : Byte) : Keeping (insertField offReg lenByte) := by
  refine keeping_bind_reads fun _ => keeping_bind_reads fun _ => keeping_bind_reads fun _ => (keeping_readW _ _).bind fun lo => ?_
  have stores (x y : Word) (n : Nat) (seg iy : Word) (c : Prop) [Decidable c] : Keeping (do
      writeW seg iy x
      if c then writeW seg (iy + 2) y else pure ()
      let free ← draw
      finishField .iy offReg n (free.extractLsb' 0 4)) :=
    (keeping_writeW _ _ _).bind fun _ => keeping_ite
      ((keeping_writeW _ _ _).bind fun _ => keeping_bind_draw fun _ => keeping_finishField _ _ _ _)
      (keeping_bind_draw fun _ => keeping_finishField _ _ _ _)
  exact keeping_ite ((keeping_readW _ _).bind fun hi => keeping_bind_reads fun aw => stores _ _ _ _ _ _)
    ((keeping_pure _).bind fun hi => keeping_bind_reads fun aw => stores _ _ _ _ _ _)

theorem keeping_extractField (offReg : Reg8) (lenByte : Byte) : Keeping (extractField offReg lenByte) := by
  refine keeping_bind_reads fun _ => keeping_bind_reads fun _ => keeping_bind_reads fun _ => (keeping_readW _ _).bind fun lo => ?_
  exact keeping_ite ((keeping_readW _ _).bind fun _ => (keeping_update fun s => keeps_setReg16 s _ _).bind fun _ =>
      keeping_finishField _ _ _ _)
    ((keeping_pure _).bind fun _ => (keeping_update fun s => keeps_setReg16 s _ _).bind fun _ => keeping_finishField _ _ _ _)

/-! ### Control transfer and the stack -/

theorem keeping_loadPc (f : State → Word) : Keeping (update fun s => s.loadPc (f s)) := keeping_update fun s => keeps_loadPc s _

theorem keeping_branchIf (c : Bool) (disp : Byte) : Keeping (branchIf c disp) := keeping_ite (keeping_loadPc _) (keeping_pure _)

theorem keeping_branch (cond : State → Bool) (disp : Byte) : Keeping (reads cond >>= fun taken => branchIf taken disp) :=
  keeping_bind_reads fun c => keeping_branchIf c disp

theorem keeping_loopIf (cond : State → Bool) (disp : Byte) : Keeping (loopIf cond disp) :=
  (keeping_update fun s => keeps_setReg16 s _ _).bind fun _ => keeping_bind_reads fun c => keeping_branchIf c disp

theorem keeping_jumpFar (seg off : Word) : Keeping (jumpFar seg off) :=
  keeping_update fun s => (keeps_setSreg s _ _).trans (keeps_loadPc _ _)

theorem keeping_readFarPointer (m : MemOp) : Keeping (readFarPointer m) :=
  keeping_bind_reads fun _ => keeping_bind_reads fun _ => keeping_readPair _ _

theorem keeping_callFarTo (seg off : Word) : Keeping (callFarTo seg off) :=
  keeping_bind_reads fun _ => (keeping_push16 _).bind fun _ => keeping_bind_reads fun _ => (keeping_push16 _).bind fun _ =>
    keeping_jumpFar seg off

theorem keeping_discard (n : Word) : Keeping (discard n) := keeping_update fun s => keeps_setReg16 s _ _

theorem keeping_loadFar (sr : SReg) (r : Reg16) (m : MemOp) : Keeping (loadFar sr r m) :=
  keeping_bind_reads fun _ => keeping_bind_reads fun _ => (keeping_readPair _ _).bind fun _ =>
    keeping_update fun s => (keeps_setReg16 s _ _).trans (keeps_setSreg _ _ _)

theorem keeping_pushRm (e : RM Reg16) : Keeping (pushRm e) :=
  keeping_ite (keeping_bind_reads fun _ => keeping_push16 _) ((keeping_readRM wordOp_keeping e).bind fun _ => keeping_push16 _)

theorem keeping_pushSreg (sr : SReg) : Keeping (pushSreg sr) := keeping_bind_reads fun v => keeping_push16 v
theorem keeping_pushReg (r : Reg16) : Keeping (pushReg r) := keeping_bind_reads fun v => keeping_push16 v

theorem keeping_popSreg (sr : SReg) : Keeping (popSreg sr) :=
  keeping_pop16.bind fun _ => keeping_update fun s => (keeps_setSreg s _ _).trans (keeps_protectBoundary _)

theorem keeping_popReg (r : Reg16) : Keeping (popReg r) := keeping_pop16.bind fun _ => keeping_update fun s => keeps_setReg16 s _ _

theorem keeping_pushAll : Keeping pushAll :=
  keeping_bind_reads fun old => (keeping_pushReg _).bind fun _ => (keeping_pushReg _).bind fun _ =>
    (keeping_pushReg _).bind fun _ => (keeping_pushReg _).bind fun _ => (keeping_push16 old).bind fun _ =>
      (keeping_pushReg _).bind fun _ => (keeping_pushReg _).bind fun _ => keeping_pushReg _

theorem keeping_popAll : Keeping popAll :=
  (keeping_popReg _).bind fun _ => (keeping_popReg _).bind fun _ => (keeping_popReg _).bind fun _ => keeping_pop16.bind fun _ =>
    (keeping_popReg _).bind fun _ => (keeping_popReg _).bind fun _ => (keeping_popReg _).bind fun _ => keeping_popReg _

theorem keeping_copyFramePointers (n : Nat) : Keeping (copyFramePointers n) := by
  induction n with
  | zero => exact keeping_pure _
  | succ n ih =>
    exact (keeping_update fun s => keeps_setReg16 s _ _).bind fun _ => keeping_bind_reads fun _ => keeping_bind_reads fun _ =>
      (keeping_readW _ _).bind fun _ => (keeping_push16 _).bind fun _ => ih

theorem keeping_prepareFrame (size : Word) (level : Byte) : Keeping (prepareFrame size level) := by
  refine (keeping_pushReg _).bind fun _ => keeping_bind_reads fun frame => ?_
  have rest : Keeping (do
      update fun s => s.setReg16 .bp frame
      update fun s => s.setReg16 .sp (s.reg16 .sp - size)) :=
    (keeping_update fun s => keeps_setReg16 s _ _).bind fun _ => keeping_update fun s => keeps_setReg16 s _ _
  exact keeping_ite rest ((keeping_copyFramePointers _).bind fun _ => (keeping_push16 _).bind fun _ => rest)

theorem keeping_checkIndex (r : Reg16) (m : MemOp) : Keeping (checkIndex r m) :=
  keeping_bind_reads fun _ => keeping_bind_reads fun _ => (keeping_readPair _ _).bind fun _ => keeping_bind_reads fun _ =>
    keeping_ite (keeping_trap _ _) (keeping_pure _)

theorem keeping_pollPin : Keeping pollPin :=
  keeping_bind_draw fun _ => keeping_ite (keeping_update fun s => keeps_withResume s _)
    (keeping_update fun _ => keeps_of_eq rfl rfl rfl rfl rfl rfl rfl rfl rfl)

theorem keeping_segmentPrefix (sr : SReg) : Keeping (segmentPrefix sr) :=
  keeping_bind_reads fun _ => keeping_ite (keeping_refuses _) (keeping_update fun _ => keeps_of_eq rfl rfl rfl rfl rfl rfl rfl rfl rfl)

theorem keeping_repeatPrefix (p : Rep) : Keeping (repeatPrefix p) :=
  keeping_bind_reads fun _ => keeping_ite (keeping_refuses _) (keeping_update fun _ => keeps_of_eq rfl rfl rfl rfl rfl rfl rfl rfl rfl)

theorem keeping_lockPrefix : Keeping lockPrefix :=
  keeping_bind_reads fun _ => keeping_ite (keeping_refuses _) (keeping_update fun _ => keeps_of_eq rfl rfl rfl rfl rfl rfl rfl rfl rfl)

end Sys2Proof.Machine


namespace Sys2Proof.Machine

-- Declarations are checked one after another, which keeps the memory of a compile bounded.
set_option Elab.async false

/-! ### Every instruction -/

/-- The instructions that write a control bit of the PSW other than by resetting IE and BRK (R65 to R68). -/
def writesControl : Instr → Bool
  | .reti | .retrbi | .popPsw | .movPswAh | .ei | .set1Dir | .clr1Dir => true
  | .brkcsReg16 _ | .tskswReg16 _ => true
  | _ => false

theorem eq_of_writesControl {i : Instr} (h : writesControl i = true) : i = .reti ∨ i = .retrbi ∨ i = .popPsw ∨ i = .movPswAh ∨
    i = .ei ∨ i = .set1Dir ∨ i = .clr1Dir ∨ (∃ r, i = .brkcsReg16 r) ∨ ∃ r, i = .tskswReg16 r := by
  unfold writesControl at h
  split at h
  all_goals simp at h ⊢

/-- Every instruction but those keeps the state's invariants and the control bits. -/
theorem exec_keeps {i : Instr} {s t : State} (hi : writesControl i = false) (h : exec i s = .next t) : Keeps s t := by
  cases i with
  | addEbRb | addcEbRb | subcEbRb | subEbRb | cmpEbRb | orEbRb | andEbRb | xorEbRb | testEbRb =>
    exact keeps_act (keeping_aluRmReg byteOp_keeping _ _ _) h
  | addEwRw | addcEwRw | subcEwRw | subEwRw | cmpEwRw | orEwRw | andEwRw | xorEwRw | testEwRw =>
    exact keeps_act (keeping_aluRmReg wordOp_keeping _ _ _) h
  | addRbEb | addcRbEb | subcRbEb | subRbEb | cmpRbEb | orRbEb | andRbEb | xorRbEb =>
    exact keeps_act (keeping_aluRegRm byteOp_keeping _ _ _) h
  | addRwEw | addcRwEw | subcRwEw | subRwEw | cmpRwEw | orRwEw | andRwEw | xorRwEw =>
    exact keeps_act (keeping_aluRegRm wordOp_keeping _ _ _) h
  | addAlImm8 imm => exact keeps_act (keeping_aluAccImm byteOp_keeping .add imm) h
  | addcAlImm8 imm => exact keeps_act (keeping_aluAccImm byteOp_keeping .addc imm) h
  | subcAlImm8 imm => exact keeps_act (keeping_aluAccImm byteOp_keeping .subc imm) h
  | subAlImm8 imm => exact keeps_act (keeping_aluAccImm byteOp_keeping .sub imm) h
  | cmpAlImm8 imm => exact keeps_act (keeping_aluAccImm byteOp_keeping .cmp imm) h
  | orAlImm8 imm => exact keeps_act (keeping_aluAccImm byteOp_keeping .or imm) h
  | andAlImm8 imm => exact keeps_act (keeping_aluAccImm byteOp_keeping .and imm) h
  | xorAlImm8 imm => exact keeps_act (keeping_aluAccImm byteOp_keeping .xor imm) h
  | testAlImm8 imm => exact keeps_act (keeping_aluAccImm byteOp_keeping .test imm) h
  | addAwImm16 imm => exact keeps_act (keeping_aluAccImm wordOp_keeping .add imm) h
  | addcAwImm16 imm => exact keeps_act (keeping_aluAccImm wordOp_keeping .addc imm) h
  | subcAwImm16 imm => exact keeps_act (keeping_aluAccImm wordOp_keeping .subc imm) h
  | subAwImm16 imm => exact keeps_act (keeping_aluAccImm wordOp_keeping .sub imm) h
  | cmpAwImm16 imm => exact keeps_act (keeping_aluAccImm wordOp_keeping .cmp imm) h
  | orAwImm16 imm => exact keeps_act (keeping_aluAccImm wordOp_keeping .or imm) h
  | andAwImm16 imm => exact keeps_act (keeping_aluAccImm wordOp_keeping .and imm) h
  | xorAwImm16 imm => exact keeps_act (keeping_aluAccImm wordOp_keeping .xor imm) h
  | testAwImm16 imm => exact keeps_act (keeping_aluAccImm wordOp_keeping .test imm) h
  | addEbImm8 | addEbImm8Dup | addcEbImm8 | addcEbImm8Dup | subcEbImm8 | subcEbImm8Dup | subEbImm8 | subEbImm8Dup
  | cmpEbImm8 | cmpEbImm8Dup | orEbImm8 | orEbImm8Dup | andEbImm8 | andEbImm8Dup | xorEbImm8 | xorEbImm8Dup
  | testEbImm8 =>
    exact keeps_act (keeping_aluRmImm byteOp_keeping _ _ _) h
  | addEwImm16 | addEwSextImm8 | addcEwImm16 | addcEwSextImm8 | subcEwImm16 | subcEwSextImm8 | subEwImm16
  | subEwSextImm8 | cmpEwImm16 | cmpEwSextImm8 | orEwImm16 | orEwSextImm8 | andEwImm16 | andEwSextImm8
  | xorEwImm16 | xorEwSextImm8 | testEwImm16 =>
    exact keeps_act (keeping_aluRmImm wordOp_keeping _ _ _) h
  | incReg16 r => exact keeps_act (keeping_incPlace wordOp_keeping (.reg r)) h
  | decReg16 r => exact keeps_act (keeping_decPlace wordOp_keeping (.reg r)) h
  | mulReg16EwImm16 | mulReg16EwImm8 => exact keeps_act (keeping_mulImm _ _ _) h
  | cvtbw | movAhPsw => cases h; exact keeps_setReg8 s _ _
  | cvtwl | ldea => cases h; exact keeps_setReg16 s _ _
  | negEb => exact keeps_act (keeping_bind_reads fun d => keeping_negPlace byteOp_keeping d) h
  | muluEb | mulEb => exact keeps_act (keeping_mulByte _ _) h
  | divuEb | divEb => exact keeps_act (keeping_divByte _ _) h
  | negEw => exact keeps_act (keeping_bind_reads fun d => keeping_negPlace wordOp_keeping d) h
  | muluEw | mulEw => exact keeps_act (keeping_mulWord _ _) h
  | divuEw | divEw => exact keeps_act (keeping_divWord _ _) h
  | incEb => exact keeps_act (keeping_bind_reads fun d => keeping_incPlace byteOp_keeping d) h
  | decEb => exact keeps_act (keeping_bind_reads fun d => keeping_decPlace byteOp_keeping d) h
  | incEw => exact keeps_act (keeping_bind_reads fun d => keeping_incPlace wordOp_keeping d) h
  | decEw => exact keeps_act (keeping_bind_reads fun d => keeping_decPlace wordOp_keeping d) h
  | movspa => cases h; exact (keeps_setSreg s _ _).trans (keeps_setReg16 _ _ _)
  | fint | halt | stop => cases h; exact keeps_of_eq rfl rfl rfl rfl rfl rfl rfl rfl rfl
  | movspbReg16 =>
    cases h
    exact (keeps_setBankWord s _ (by decide) _).trans (keeps_setBankWord _ _ (by decide) _)
  | adj4a | adj4s => exact keeps_act (keeping_adjustPacked _) h
  | adjba | adjbs => exact keeps_act (keeping_adjustUnpacked _) h
  | cvtbd | cvtdb =>
    cases h
    exact (((keeps_withDraws s _).trans (keeps_setReg8 _ _ _)).trans (keeps_setReg8 _ _ _)).trans
      (keeps_setStatus _ (by decide) _)
  | add4s | sub4s | cmp4s => exact keeps_act (keeping_bcdString _ _) h
  | rol4Eb | ror4Eb => exact keeps_act (keeping_rotateDigit _ _) h
  | inmb => exact keeps_act (keeping_repeated _ (keeping_inputElement byteOp_keeping)) h
  | inmw => exact keeps_act (keeping_repeated _ (keeping_inputElement wordOp_keeping)) h
  | outmb => exact keeps_act (keeping_repeated _ (keeping_outputElement byteOp_keeping)) h
  | outmw => exact keeps_act (keeping_repeated _ (keeping_outputElement wordOp_keeping)) h
  | movbkb => exact keeps_act (keeping_repeated _ (keeping_moveElement byteOp_keeping)) h
  | movbkw => exact keeps_act (keeping_repeated _ (keeping_moveElement wordOp_keeping)) h
  | cmpbkb => exact keeps_act (keeping_repeated _ (keeping_compareElements byteOp_keeping)) h
  | cmpbkw => exact keeps_act (keeping_repeated _ (keeping_compareElements wordOp_keeping)) h
  | stmb => exact keeps_act (keeping_repeated _ (keeping_storeElement byteOp_keeping)) h
  | stmw => exact keeps_act (keeping_repeated _ (keeping_storeElement wordOp_keeping)) h
  | ldmb => exact keeps_act (keeping_repeated _ (keeping_loadElement byteOp_keeping)) h
  | ldmw => exact keeps_act (keeping_repeated _ (keeping_loadElement wordOp_keeping)) h
  | cmpmb => exact keeps_act (keeping_repeated _ (keeping_compareAcc byteOp_keeping)) h
  | cmpmw => exact keeps_act (keeping_repeated _ (keeping_compareAcc wordOp_keeping)) h
  | inAlImm8 => exact keeps_act (keeping_ifIoAllowed (keeping_input byteOp_keeping _)) h
  | inAwImm8 => exact keeps_act (keeping_ifIoAllowed (keeping_input wordOp_keeping _)) h
  | outImm8Al => exact keeps_act (keeping_ifIoAllowed (keeping_output byteOp_keeping _)) h
  | outImm8Aw => exact keeps_act (keeping_ifIoAllowed (keeping_output wordOp_keeping _)) h
  | inAlDw => exact keeps_act (keeping_ifIoAllowed (keeping_inputDw byteOp_keeping)) h
  | inAwDw => exact keeps_act (keeping_ifIoAllowed (keeping_inputDw wordOp_keeping)) h
  | outDwAl => exact keeps_act (keeping_ifIoAllowed (keeping_outputDw byteOp_keeping)) h
  | outDwAw => exact keeps_act (keeping_ifIoAllowed (keeping_outputDw wordOp_keeping)) h
  | insReg8Reg8 => exact keeps_act (keeping_bind_reads fun _ => keeping_insertField _ _) h
  | extReg8Reg8 => exact keeps_act (keeping_bind_reads fun _ => keeping_extractField _ _) h
  | insReg8Imm4 => exact keeps_act (keeping_insertField _ _) h
  | extReg8Imm4 => exact keeps_act (keeping_extractField _ _) h
  | bv | bnv | bc | bnc | be | bne | bnh | bh | bn | bp | bpe | bpo | blt | bge | ble | bgt | bcwz =>
    exact keeps_act (keeping_branch _ _) h
  | callFar => exact keeps_act (keeping_callFarTo _ _) h
  | retNearPop => exact keeps_act (keeping_pop16.bind fun _ => (keeping_discard _).bind fun _ => keeping_loadPc _) h
  | retNear => exact keeps_act (keeping_pop16.bind fun _ => keeping_loadPc _) h
  | retFarPop =>
    exact keeps_act (keeping_pop16.bind fun _ => keeping_pop16.bind fun _ => (keeping_discard _).bind fun _ =>
        keeping_jumpFar _ _) h
  | retFar => exact keeps_act (keeping_pop16.bind fun _ => keeping_pop16.bind fun _ => keeping_jumpFar _ _) h
  | dbnzne | dbnze | dbnz => exact keeps_act (keeping_loopIf _ _) h
  | callNear => exact keeps_act (keeping_bind_reads fun _ => (keeping_push16 _).bind fun _ => keeping_loadPc _) h
  | brNear | brShort => cases h; exact keeps_loadPc s _
  | brFar => exact keeps_act (keeping_jumpFar _ _) h
  | callEw =>
    exact keeps_act ((keeping_readRM wordOp_keeping _).bind fun _ => keeping_bind_reads fun _ => (keeping_push16 _).bind fun _ =>
        keeping_loadPc _) h
  | callMem32 => exact keeps_act ((keeping_readFarPointer _).bind fun _ => keeping_callFarTo _ _) h
  | brEw => exact keeps_act ((keeping_readRM wordOp_keeping _).bind fun _ => keeping_loadPc _) h
  | brMem32 => exact keeps_act ((keeping_readFarPointer _).bind fun _ => keeping_jumpFar _ _) h
  | btclr =>
    exact keeps_act (keeping_bind_reads fun _ => (keeping_readByte _).bind fun _ =>
        keeping_ite ((keeping_writeByte _ _).bind fun _ => keeping_loadPc _) (keeping_pure _)) h
  | xchEbRb => exact keeps_act (keeping_xchRm byteOp_keeping _ _) h
  | xchEwRw => exact keeps_act (keeping_xchRm wordOp_keeping _ _) h
  | xchAwReg16 r => exact keeps_act (keeping_xchRm wordOp_keeping (.reg .aw) r) h
  | movEbRb => exact keeps_act (keeping_movRmReg byteOp_keeping _ _) h
  | movEwRw => exact keeps_act (keeping_movRmReg wordOp_keeping _ _) h
  | movRbEb => exact keeps_act (keeping_movRegRm byteOp_keeping _ _) h
  | movRwEw => exact keeps_act (keeping_movRegRm wordOp_keeping _ _) h
  | movEwSreg => exact keeps_act (keeping_bind_reads fun v => keeping_writeRM wordOp_keeping _ v) h
  | movSregEw =>
    exact keeps_act ((keeping_readRM wordOp_keeping _).bind fun _ =>
        keeping_update fun s => (keeps_setSreg s _ _).trans (keeps_protectBoundary _)) h
  | movAlMem => exact keeps_act (keeping_loadDirect byteOp_keeping _) h
  | movAwMem => exact keeps_act (keeping_loadDirect wordOp_keeping _) h
  | movMemAl => exact keeps_act (keeping_storeDirect byteOp_keeping _) h
  | movMemAw => exact keeps_act (keeping_storeDirect wordOp_keeping _) h
  | movReg8Imm8 => exact keeps_act (keeping_setReg byteOp_keeping _ _) h
  | movReg16Imm16 => exact keeps_act (keeping_setReg wordOp_keeping _ _) h
  | movDs1Mem32 | movDs0Mem32 => exact keeps_act (keeping_loadFar _ _ _) h
  | movEbImm8 => exact keeps_act (keeping_writeRM byteOp_keeping _ _) h
  | movEwImm16 => exact keeps_act (keeping_writeRM wordOp_keeping _ _) h
  | trans =>
    exact keeps_act (keeping_bind_reads fun _ => keeping_bind_reads fun _ => (keeping_readByte _).bind fun v =>
        keeping_setReg byteOp_keeping _ v) h
  | notEb | clr1EbImm3 | set1EbImm3 | not1EbImm3 => exact keeps_act (keeping_modifyRM byteOp_keeping _ _) h
  | notEw | clr1EwImm4 | set1EwImm4 | not1EwImm4 => exact keeps_act (keeping_modifyRM wordOp_keeping _ _) h
  | test1EbCl => exact keeps_act (keeping_test1Cl byteOp_keeping _) h
  | test1EwCl => exact keeps_act (keeping_test1Cl wordOp_keeping _) h
  | test1EbImm3 => exact keeps_act (keeping_testBit byteOp_keeping _ _) h
  | test1EwImm4 => exact keeps_act (keeping_testBit wordOp_keeping _ _) h
  | clr1EbCl => exact keeps_act (keeping_clr1Cl byteOp_keeping _) h
  | clr1EwCl => exact keeps_act (keeping_clr1Cl wordOp_keeping _) h
  | set1EbCl => exact keeps_act (keeping_set1Cl byteOp_keeping _) h
  | set1EwCl => exact keeps_act (keeping_set1Cl wordOp_keeping _) h
  | not1EbCl => exact keeps_act (keeping_not1Cl byteOp_keeping _) h
  | not1EwCl => exact keeps_act (keeping_not1Cl wordOp_keeping _) h
  | prefixDs1 | prefixPs | prefixSs | prefixDs0 => exact keeps_act (keeping_segmentPrefix _) h
  | prefixRepnc | prefixRepc | prefixRepne | prefixRep => exact keeps_act (keeping_repeatPrefix _) h
  | prefixBuslock => exact keeps_act keeping_lockPrefix h
  | rolEbImm8 | rorEbImm8 | rolcEbImm8 | rorcEbImm8 | shlEbImm8 | shrEbImm8 | shraEbImm8 =>
    exact keeps_act (keeping_shiftByImm byteOp_keeping _ _ _) h
  | rolEwImm8 | rorEwImm8 | rolcEwImm8 | rorcEwImm8 | shlEwImm8 | shrEwImm8 | shraEwImm8 =>
    exact keeps_act (keeping_shiftByImm wordOp_keeping _ _ _) h
  | rolEb1 | rorEb1 | rolcEb1 | rorcEb1 | shlEb1 | shrEb1 | shraEb1 => exact keeps_act (keeping_shiftOnce byteOp_keeping _ _) h
  | rolEw1 | rorEw1 | rolcEw1 | rorcEw1 | shlEw1 | shrEw1 | shraEw1 => exact keeps_act (keeping_shiftOnce wordOp_keeping _ _) h
  | rolEbCl | rorEbCl | rolcEbCl | rorcEbCl | shlEbCl | shrEbCl | shraEbCl =>
    exact keeps_act (keeping_shiftByCl byteOp_keeping _ _) h
  | rolEwCl | rorEwCl | rolcEwCl | rorcEwCl | shlEwCl | shrEwCl | shraEwCl =>
    exact keeps_act (keeping_shiftByCl wordOp_keeping _ _) h
  | pushDs1 | pushPs | pushSs | pushDs0 => exact keeps_act (keeping_pushSreg _) h
  | popDs1 | popSs | popDs0 => exact keeps_act (keeping_popSreg _) h
  | pushReg16 | pushEw => exact keeps_act (keeping_pushRm _) h
  | popReg16 => exact keeps_act (keeping_pop16.bind fun v => keeping_setReg wordOp_keeping _ v) h
  | pushR => exact keeps_act keeping_pushAll h
  | popR => exact keeps_act keeping_popAll h
  | pushImm16 | pushImm8 => exact keeps_act (keeping_push16 _) h
  | popEw => exact keeps_act (keeping_bind_reads fun d => keeping_pop16.bind fun v => keeping_writePlace wordOp_keeping d v) h
  | pushPsw => exact keeps_act (keeping_bind_reads fun _ => keeping_push16 _) h
  | prepare => exact keeps_act (keeping_prepareFrame _ _) h
  | dispose =>
    exact keeps_act ((keeping_update fun s => keeps_setReg16 s _ _).bind fun _ => keeping_pop16.bind fun v =>
        keeping_setReg wordOp_keeping _ v) h
  | chkind => exact keeps_act (keeping_checkIndex _ _) h
  | fpo2 | fpo1 => exact keeps_act (keeping_trap _ _) h
  | nop => cases h; exact .refl s
  | poll => exact keeps_act keeping_pollPin h
  | brk3 | brkImm8 => exact keeps_act (keeping_bind_reads fun _ => keeping_raise _ _) h
  | brkv =>
    exact keeps_act (keeping_bind_reads fun _ => keeping_ite (keeping_bind_reads fun _ => keeping_raise _ _) (keeping_pure _)) h
  | not1Cy | clr1Cy | set1Cy => exact keeps_act (keeping_update fun s => keeps_setFlag s _ (.inl (by decide))) h
  | di => exact keeps_act (keeping_update fun s => keeps_setFlag s _ (.inr ⟨.inl rfl, rfl⟩)) h
  | reti | retrbi | popPsw | movPswAh | ei | set1Dir | clr1Dir | brkcsReg16 | tskswReg16 => cases hi

/-! ### The writers of the control bits -/

/-- A new PSW whose bit 15 is 1. -/
theorem evolves_withPsw (s : State) {p : Word} (h : bit15 s.psw = true → bit15 p = true) : Evolves s (s.withPsw p) :=
  { Evolves.refl s with psw15 := h }

theorem bit15_popImage (psw image : Word) : bit15 (popImage psw image) = bit15 psw := by
  simp only [bit15, popImage, BitVec.getLsbD_append, BitVec.getLsbD_extractLsb']
  rfl

theorem bit15_withBank (psw : Word) (n : BitVec 3) : bit15 (withBank psw n) = bit15 psw := by
  simp only [bit15, withBank, BitVec.getLsbD_append, BitVec.getLsbD_extractLsb']
  rfl

theorem bit15_lowByte (psw : Word) (v : Byte) : bit15 (psw.extractLsb' 8 8 ++ v) = bit15 psw := by
  simp only [bit15, BitVec.getLsbD_append, BitVec.getLsbD_extractLsb']
  rfl

theorem bit15_withFlag (psw : Word) (f : Flag) (b : Bool) : bit15 (withFlag psw f b) = bit15 psw := by
  rw [bit15, withFlag, getLsbD_putBit _ _ _ _ (by decide), if_neg (by cases f <;> decide)]; rfl

theorem evolves_setFlag (s : State) (f : Flag) (b : Bool) : Evolves s (s.setFlag f b) :=
  evolves_withPsw s fun h => (bit15_withFlag _ _ _).trans h

theorem ensures_popPsw {s t : State} (h : exec .popPsw s = .next t) : Evolves s t := by
  obtain ⟨image, u, hpop, hend⟩ := M.bind_ok.1 (act_eq_next.1 h)
  split at hend
  · cases hend
    exact (keeping_pop16 _ _ _ hpop).toEvolves.trans (evolves_withPsw u fun h15 => (bit15_popImage _ _).trans h15)
  · cases hend

theorem ensures_returnFromInterrupt : Ensures Evolves returnFromInterrupt := by
  intro s a t h
  obtain ⟨o, s1, h1, h⟩ := M.bind_ok.1 h
  obtain ⟨p, s2, h2, h⟩ := M.bind_ok.1 h
  obtain ⟨f, s3, h3, h⟩ := M.bind_ok.1 h
  split at h
  · next hf =>
    cases h
    have hpops := ((keeping_pop16 _ _ _ h1).trans (keeping_pop16 _ _ _ h2)).trans (keeping_pop16 _ _ _ h3)
    exact ((hpops.trans (keeps_setSreg s3 .ps p)).toEvolves.trans (evolves_withPsw _ fun _ => hf)).trans
      (keeps_loadPc _ o).toEvolves
  · cases h

theorem ensures_returnFromBank : Ensures Evolves returnFromBank := by
  intro s a t h
  unfold returnFromBank at h
  rw [M.bind_reads, M.bind_reads] at h
  split at h
  · next hf => cases h; exact (evolves_withPsw s fun _ => hf).trans (keeps_loadPc _ _).toEvolves
  · cases h

theorem ensures_switchTo (n : BitVec 3) (ret : Word) : Ensures Evolves (switchTo n ret) := by
  intro s a t h
  unfold switchTo at h
  rw [M.bind_reads] at h
  split at h
  · cases h
  · cases h
    exact (((keeps_setBankWord s n (by decide) _).trans (keeps_setBankWord _ n (by decide) _)).toEvolves.trans
      (evolves_withPsw _ fun h15 => (bit15_withBank _ _).trans h15)).trans (keeps_loadPc _ _).toEvolves

theorem ensures_bankEntry (n : BitVec 3) (ret : Word) : Ensures Evolves (bankEntry n ret) := by
  intro s a t h
  obtain ⟨_, u, h1, h2⟩ := M.bind_ok.1 h
  cases h2
  exact (ensures_switchTo n ret _ _ _ h1).trans ((keeps_clearIeBrk u).trans (keeps_entered _)).toEvolves

/-- BRKCS (R461). -/
theorem ensures_breakToBank (n : BitVec 3) (ret : Word) :
    Ensures Evolves (switchTo n ret >>= fun _ => update fun s => s.clearIeBrk.withTrace false) := by
  intro s a t h
  obtain ⟨_, u, h1, h2⟩ := M.bind_ok.1 h
  cases h2
  exact (ensures_switchTo n ret _ _ _ h1).trans
    ((keeps_clearIeBrk u).trans (keeps_withTrace _ _)).toEvolves

theorem exec_brkcs (r : Reg16) (s : State) : exec (.brkcsReg16 r) s =
    act (switchTo ((s.reg16 r).extractLsb' 0 3) s.pc >>= fun _ => update fun s => s.clearIeBrk.withTrace false) s := by
  show act (bankNumber r >>= fun n => reads State.pc >>= fun ret => switchTo n ret >>= _) s = _
  rw [bankNumber, act_bind_reads, act_bind_reads]

theorem exec_tsksw (r : Reg16) (s : State) :
    exec (.tskswReg16 r) s = act (switchTo ((s.reg16 r).extractLsb' 0 3) s.pc) s := by
  show act (bankNumber r >>= fun n => reads State.pc >>= fun ret => switchTo n ret) s = _
  rw [bankNumber, act_bind_reads, act_bind_reads]

/-- Every instruction keeps the memories canonical, PSW bit 15, the platform and the mapping in force. -/
theorem exec_evolves {i : Instr} {s t : State} (h : exec i s = .next t) : Evolves s t := by
  cases hi : writesControl i
  · exact (exec_keeps hi h).toEvolves
  rcases eq_of_writesControl hi with rfl | rfl | rfl | rfl | rfl | rfl | rfl | ⟨r, rfl⟩ | ⟨r, rfl⟩
  · exact ensures_returnFromInterrupt.act h
  · exact ensures_returnFromBank.act h
  · exact ensures_popPsw h
  · cases h; exact evolves_withPsw s fun h15 => (bit15_lowByte _ _).trans h15
  · cases h; exact (evolves_setFlag s _ _).trans (keeps_protectBoundary _).toEvolves
  · cases h; exact evolves_setFlag s _ _
  · cases h; exact evolves_setFlag s _ _
  · rw [exec_brkcs] at h; exact (ensures_breakToBank _ _).act h
  · rw [exec_tsksw] at h; exact (ensures_switchTo _ _).act h

end Sys2Proof.Machine


namespace Sys2Proof.Machine

-- Declarations are checked one after another, which keeps the memory of a compile bounded.
set_option Elab.async false

/-! ## Invariants of a step (O22 to O26) -/

/-- What a step keeps: the invariant, the parameters of the platform, the set bits of STBC. -/
structure StepKeeps (s t : State) : Prop where
  inv : s.Inv → t.Inv
  memmap : t.memmap = s.memmap
  iomap : t.iomap = s.iomap
  stopOpcode : t.stopOpcode = s.stopOpcode
  stbc : s.stbc &&& t.stbc = s.stbc

theorem Evolves.stepKeeps {s t : State} (h : Evolves s t) : StepKeeps s t where
  inv i := ⟨h.ext i.ext, h.iram i.iram, h.sfr i.sfr, h.psw15 i.psw15⟩
  memmap := h.memmap
  iomap := h.iomap
  stopOpcode := h.stopOpcode
  stbc := h.stbc

theorem StepKeeps.trans {s t u : State} (h : StepKeeps s t) (g : StepKeeps t u) : StepKeeps s u where
  inv := g.inv ∘ h.inv
  memmap := g.memmap.trans h.memmap
  iomap := g.iomap.trans h.iomap
  stopOpcode := g.stopOpcode.trans h.stopOpcode
  stbc := by rw [← h.stbc, BitVec.and_assoc, g.stbc]

theorem StepKeeps.of_eq {s t : State} (hext : t.ext = s.ext) (hiram : t.iram = s.iram) (hsfr : t.sfr = s.sfr)
    (hpsw : t.psw = s.psw) (hmem : t.memmap = s.memmap) (hio : t.iomap = s.iomap) (hstop : t.stopOpcode = s.stopOpcode)
    (hstbc : t.stbc = s.stbc) : StepKeeps s t where
  inv i := ⟨hext ▸ i.ext, hiram ▸ i.iram, hsfr ▸ i.sfr, hpsw ▸ i.psw15⟩
  memmap := hmem
  iomap := hio
  stopOpcode := hstop
  stbc := by rw [hstbc]; exact BitVec.and_self

/-! ### Reset -/

theorem reset_inv : State.reset.Inv := ⟨by decide, by decide, by decide, by decide⟩

/-- Settles O23. -/
theorem resetHasInvariant : Obligations.ResetHasInvariant := reset_inv

theorem stepKeeps_warmReset (s : State) : StepKeeps s s.warmReset where
  inv i := ⟨i.ext, reset_inv.iram, Memory.wf_write (Memory.wf_write reset_inv.sfr (by decide) _) (by decide) _, reset_inv.psw15⟩
  memmap := rfl
  iomap := rfl
  stopOpcode := rfl
  stbc := BitVec.and_self

/-- A state with the registers, the cells and the boundary of the reset state holds every reset value. -/
theorem afterReset_of_eq {t : State} (hpc : t.pc = 0x0000) (hpsw : t.psw = 0xF002) (hram : t.iram = State.reset.iram)
    (hcells : ∀ c ∈ resetCells, t.sfr.read c.1.toNat = c.2) (hidb : t.idb = 0xFF) (harea : t.area = 0xFF) (hprc : t.prc = 0x4E)
    (hqueue : t.queueOld = []) (hpre : t.pre = Prefixes.none) (hresume : t.resume = none) (hrun : t.run = .running)
    (hhold : t.hold = false) (htrace : t.trace = false) (hnmi : t.nmi = false) (hirq : t.irq = none) : AfterReset t where
  pc := hpc
  psw := hpsw
  ps := (sreg_congr (s := State.reset) hram hpsw .ps).trans (by decide)
  ss := (sreg_congr (s := State.reset) hram hpsw .ss).trans (by decide)
  ds0 := (sreg_congr (s := State.reset) hram hpsw .ds0).trans (by decide)
  ds1 := (sreg_congr (s := State.reset) hram hpsw .ds1).trans (by decide)
  idb := hidb
  area := harea
  prc := hprc
  cells := hcells
  queue := hqueue
  pre := hpre
  resume := hresume
  run := hrun
  hold := hhold
  trace := htrace
  nmi := hnmi
  irq := hirq

theorem reset_cells : ∀ c ∈ resetCells, State.reset.sfr.read c.1.toNat = c.2 := by
  have h : (resetCells.all fun c => State.reset.sfr.read c.1.toNat == c.2) = true := rfl
  simpa using h

/-- None of the cells with a reset value is DMAC0 or DMAC1. -/
theorem resetCells_not_dma : ∀ c ∈ resetCells, 0xA0 ≠ c.1.toNat ∧ 0xA2 ≠ c.1.toNat := by
  have h : (resetCells.all fun c => 0xA0 != c.1.toNat && 0xA2 != c.1.toNat) = true := rfl
  simpa using h

theorem warmReset_cells (s : State) : ∀ c ∈ resetCells, s.warmReset.sfr.read c.1.toNat = c.2 := by
  intro c hc
  obtain ⟨h0, h2⟩ := resetCells_not_dma c hc
  show Memory.read (Memory.write (Memory.write _ _ _) _ _) _ = _
  rw [Memory.read_write_other _ _ h2, Memory.read_write_other _ _ h0, reset_cells c hc]

/-- Settles O22: the reset state by evaluation, a reset in a run from it but for the cells it keeps. -/
theorem resetState : Obligations.ResetState := by
  refine ⟨afterReset_of_eq rfl rfl rfl reset_cells rfl rfl rfl rfl rfl rfl rfl rfl rfl rfl rfl, rfl, fun s hs => ?_⟩
  refine ⟨s.warmReset, step_of_resetPin hs,
    afterReset_of_eq rfl rfl rfl (warmReset_cells s) rfl rfl rfl rfl rfl rfl rfl rfl rfl rfl rfl, rfl, rfl, ?_, ?_, rfl, rfl, rfl⟩
  · show Memory.read (Memory.write (Memory.write _ _ _) _ _) _ = _
    rw [Memory.read_write_other _ _ (by decide), Memory.read_write_same]
  · show Memory.read (Memory.write (Memory.write _ _ _) _ _) _ = _
    rw [Memory.read_write_same]

/-! ### One step -/

theorem stepKeeps_settle (s : State) : StepKeeps s s.settle := .of_eq rfl rfl rfl rfl rfl rfl rfl rfl

theorem stepKeeps_finish (s : State) (i : Instr) (t : State) : StepKeeps t (s.finish i t) := by
  unfold State.finish
  split
  · exact .of_eq rfl rfl rfl rfl rfl rfl rfl rfl
  · split
    · exact .of_eq rfl rfl rfl rfl rfl rfl rfl rfl
    · exact .of_eq rfl rfl rfl rfl rfl rfl rfl rfl
    · exact stepKeeps_settle t

theorem stepKeeps_begin (s : State) (i : Instr) (n : Nat) : StepKeeps s (s.begin i n) := by
  unfold State.begin
  dsimp only
  split <;> exact .of_eq rfl rfl rfl rfl rfl rfl rfl rfl

theorem stepKeeps_enter {x : M Unit} (hx : Ensures Evolves x) : Ensures StepKeeps (enter x) := by
  intro s a t h
  obtain ⟨_, u, h1, h2⟩ := M.bind_ok.1 h
  cases h2
  exact (hx _ _ _ h1).stepKeeps.trans (stepKeeps_settle u)

theorem ensures_raise (v : Byte) (ret : Word) : Ensures Evolves (raise v ret) :=
  fun s a t h => (keeping_raise v ret s a t h).toEvolves

theorem stepKeeps_serviced (s : State) : StepKeeps s s.serviced := by
  obtain ⟨h, hwf⟩ := s.serviced_spec
  exact ⟨fun i => have ⟨he, hi, hs⟩ := hwf i.ext i.iram i.sfr; ⟨he, hi, hs, h.psw ▸ i.psw15⟩, h.memmap, h.iomap, h.stopOpcode,
    h.stbc⟩

theorem stepKeeps_takeRequest (r : IrqRequest) : Ensures StepKeeps (takeRequest r) := by
  intro s a t h
  have cleared : StepKeeps s { s with irq := none } := .of_eq rfl rfl rfl rfl rfl rfl rfl rfl
  refine cleared.trans ?_
  cases r with
  | vectored v => exact stepKeeps_enter (ensures_raise v _) _ _ _ h
  | bankSwitch n => exact stepKeeps_enter (ensures_bankEntry n _) _ _ _ h
  | macroService => cases h; exact stepKeeps_serviced _

theorem stepKeeps_runInstr {s b t : State} {i : Instr} (h : runInstr s i b = .next t) : StepKeeps b t := by
  unfold runInstr at h
  split at h
  · next u hu => cases h; exact (exec_evolves hu).stepKeeps.trans (stepKeeps_finish s i u)
  · cases h
  · cases h

theorem stepKeeps_execute {s t : State} (h : execute s = .next t) : StepKeeps s t := by
  unfold execute at h
  split at h
  · have resumed : StepKeeps s s.beginAgain := .of_eq rfl rfl rfl rfl rfl rfl rfl rfl
    exact resumed.trans (stepKeeps_runInstr h)
  · split at h
    · cases h
    · cases h
    · split at h
      · cases h
      · exact (stepKeeps_begin s _ _).trans (stepKeeps_runInstr h)

theorem act_takeSingleStep (s : State) : act takeSingleStep s = act (enter (raise 1 s.nextOffset)) s := act_bind_reads _ _ _

theorem act_takeNmi (s : State) :
    act takeNmi s = act (enter (raise 2 { s with nmi := false }.nextOffset)) { s with nmi := false } :=
  (act_bind_update _ _ _).trans (act_bind_reads _ _ _)

/-- Whatever is due at the boundary, a step keeps the invariant and the platform. -/
theorem stepKeeps_step {s t : State} (h : step s = .next t) : StepKeeps s t := by
  unfold step cycle at h
  split at h
  · cases h; exact stepKeeps_warmReset s
  · cases h; exact (Evolves.refl s).stepKeeps
  · cases h; exact .of_eq rfl rfl rfl rfl rfl rfl rfl rfl
  · rw [act_takeSingleStep] at h
    exact (stepKeeps_enter (ensures_raise 1 _)).act h
  · rw [act_takeNmi] at h
    have cleared : StepKeeps s { s with nmi := false } := .of_eq rfl rfl rfl rfl rfl rfl rfl rfl
    exact cleared.trans ((stepKeeps_enter (ensures_raise 2 _)).act h)
  · exact (stepKeeps_takeRequest _).act h
  · exact stepKeeps_execute h

/-- Settles O24, by the relation every instruction and every entry keeps. -/
theorem stepKeepsInvariant : Obligations.StepKeepsInvariant := fun _ _ hs h => (stepKeeps_step h).inv hs

/-- Settles O25. -/
theorem stepKeepsPlatform : Obligations.StepKeepsPlatform := fun _ _ h =>
  have k := stepKeeps_step h
  ⟨k.memmap, k.iomap, k.stopOpcode, k.stbc⟩

/-! ### The writers of the control bits (R65 to R68) -/

/-- A control flag neither set nor, but for IE and BRK, reset. -/
theorem Keeps.flag_stays_false {s t : State} (h : Keeps s t) {f : Flag} (hf : maskControl.getLsbD f.bit = true)
    (h0 : s.flag f = false) : t.flag f = false := by
  rcases h.control f.bit hf with h1 | ⟨-, h1⟩
  · exact h1.trans h0
  · exact h1

theorem Keeps.flag_eq {s t : State} (h : Keeps s t) {f : Flag} (hf : maskControl.getLsbD f.bit = true)
    (h8 : f.bit ≠ 8) (h9 : f.bit ≠ 9) : t.flag f = s.flag f := by
  rcases h.control f.bit hf with h1 | ⟨h1, -⟩
  · exact h1
  · omega

theorem Keeps.bank_eq {s t : State} (h : Keeps s t) : t.bank = s.bank := by
  apply BitVec.eq_of_getLsbD_eq
  intro i hi
  have hm : ∀ j : Fin 3, maskControl.getLsbD (12 + j.val) = true := by decide
  simp only [State.bank, bankOf, BitVec.getLsbD_extractLsb', hi, decide_true, Bool.true_and]
  rcases h.control (12 + i) (hm ⟨i, hi⟩) with h1 | ⟨h1, -⟩
  · exact h1
  · omega

theorem flag_withPsw (s : State) (p : Word) (f : Flag) : (s.withPsw p).flag f = flagOf p f := rfl

theorem flag_setFlag (s : State) (f g : Flag) (b : Bool) : (s.setFlag f b).flag g = if f = g then b else s.flag g := by
  show (putBit s.psw f.bit b).getLsbD g.bit = _
  rw [getLsbD_putBit _ _ _ _ g.bit_lt]
  by_cases h : f = g
  · rw [if_pos (congrArg Flag.bit h), if_pos h]
  · rw [if_neg (fun e => h (by revert e; cases f <;> cases g <;> decide)), if_neg h]; rfl

theorem bank_setFlag (s : State) {f : Flag} (b : Bool) : (s.setFlag f b).bank = s.bank := by
  apply BitVec.eq_of_getLsbD_eq
  intro i hi
  have hne : f.bit ≠ 12 + i := by cases f <;> simp only [Flag.bit] <;> omega
  simp only [State.bank, bankOf, BitVec.getLsbD_extractLsb', hi, decide_true, Bool.true_and]
  show (putBit s.psw f.bit b).getLsbD (12 + i) = _
  rw [getLsbD_putBit _ _ _ _ (by omega), if_neg hne]

theorem bankOf_popImage (psw image : Word) : bankOf (popImage psw image) = bankOf psw := by
  apply BitVec.eq_of_getLsbD_eq
  intro i hi
  have h1 : ¬ 12 + i < 12 := by omega
  have h2 : 12 + i - 12 = i := by omega
  have h3 : i < 4 := by omega
  simp only [bankOf, popImage, BitVec.getLsbD_extractLsb', BitVec.getLsbD_append, hi, h1, h2, h3, decide_true, Bool.true_and,
    if_false]

/-- The high byte of the PSW kept, its low byte loaded. -/
theorem getLsbD_lowByte (psw : Word) (v : Byte) {i : Nat} (hi : i < 16) :
    (psw.extractLsb' 8 8 ++ v : Word).getLsbD i = if i < 8 then v.getLsbD i else psw.getLsbD i := by
  rw [BitVec.getLsbD_append]
  split
  · rfl
  · have h1 : i - 8 < 8 := by omega
    have h2 : 8 + (i - 8) = i := by omega
    rw [BitVec.getLsbD_extractLsb', h2]
    simp [h1]

theorem bankOf_lowByte (psw : Word) (v : Byte) : bankOf (psw.extractLsb' 8 8 ++ v) = bankOf psw := by
  apply BitVec.eq_of_getLsbD_eq
  intro i hi
  have h8 : ¬ 12 + i < 8 := by omega
  simp only [bankOf, BitVec.getLsbD_extractLsb', hi, decide_true, Bool.true_and]
  rw [getLsbD_lowByte _ _ (by omega), if_neg h8]

/-- POP PSW keeps the bank. -/
theorem bank_popPsw {s t : State} (h : exec .popPsw s = .next t) : t.bank = s.bank := by
  obtain ⟨image, u, hpop, hend⟩ := M.bind_ok.1 (act_eq_next.1 h)
  split at hend
  · cases hend
    rw [State.bank_withPsw, bankOf_popImage]
    exact (keeping_pop16 _ _ _ hpop).bank_eq
  · cases hend

/-- A switch of bank changes no flag. -/
theorem flag_switchTo {n : BitVec 3} {ret : Word} {s t : State} (h : switchTo n ret s = .ok ((), t)) (f : Flag) :
    t.flag f = s.flag f := by
  unfold switchTo at h
  rw [M.bind_reads] at h
  split at h
  · cases h
  · cases h
    have h12 : f.bit < 12 := by cases f <;> decide
    show (withBank s.psw n).getLsbD f.bit = s.psw.getLsbD f.bit
    simp only [withBank, BitVec.getLsbD_append, BitVec.getLsbD_extractLsb', h12, if_true, decide_true, Bool.true_and,
      Nat.zero_add]

/-- What BRKCS does to the flags: IE and BRK are reset, the others stay. -/
theorem flag_brkcs {r : Reg16} {s t : State} (h : exec (.brkcsReg16 r) s = .next t) (f : Flag) :
    t.flag f = if f = .ie ∨ f = .brk then false else s.flag f := by
  rw [exec_brkcs, act_eq_next] at h
  obtain ⟨_, u, h1, h2⟩ := M.bind_ok.1 h
  cases h2
  show ((u.setFlag .ie false).setFlag .brk false).flag f = _
  rw [flag_setFlag, flag_setFlag, flag_switchTo h1]
  cases f <;> rfl

theorem flag_tsksw {r : Reg16} {s t : State} (h : exec (.tskswReg16 r) s = .next t) (f : Flag) : t.flag f = s.flag f := by
  rw [exec_tsksw, act_eq_next] at h
  exact flag_switchTo h f

/-- Settles O26: an instruction that writes no control bit keeps them; the nine others are looked at one by one. -/
theorem controlBitWriters : Obligations.ControlBitWriters := by
  intro i s t h
  cases hi : writesControl i
  · have k := exec_keeps hi h
    exact ⟨fun hb => absurd k.bank_eq hb, fun h0 h1 => absurd (k.flag_stays_false rfl h0) (by simp [h1]),
      fun h0 h1 => absurd (k.flag_stays_false rfl h0) (by simp [h1]),
      fun hb => absurd (k.flag_eq rfl (by decide) (by decide)) hb, fun hb => absurd (k.flag_eq rfl (by decide) (by decide)) hb⟩
  rcases eq_of_writesControl hi with rfl | rfl | rfl | rfl | rfl | rfl | rfl | ⟨r, rfl⟩ | ⟨r, rfl⟩
  · simp
  · simp
  · have hb := bank_popPsw h
    simp [hb]
  · cases h
    have hb : (s.withPsw (s.psw.extractLsb' 8 8 ++ s.reg8 .ah)).bank = s.bank := bankOf_lowByte _ _
    have hf (f : Flag) (h8 : ¬ f.bit < 8) : (s.withPsw (s.psw.extractLsb' 8 8 ++ s.reg8 .ah)).flag f = s.flag f := by
      rw [flag_withPsw, flagOf, getLsbD_lowByte _ _ f.bit_lt, if_neg h8]; rfl
    simp +contextual [hb, hf .ie (by decide), hf .brk (by decide), hf .dir (by decide)]
  · cases h
    show _ ∧ _ ∧ _ ∧ _ ∧ _
    have hb : (s.setFlag .ie true).protectBoundary.bank = s.bank := bank_setFlag s true
    have hf (f : Flag) : (s.setFlag .ie true).protectBoundary.flag f = if Flag.ie = f then true else s.flag f :=
      flag_setFlag s .ie f true
    simp +contextual [hb, hf]
  · cases h
    simp +contextual [bank_setFlag, flag_setFlag]
  · cases h
    simp +contextual [bank_setFlag, flag_setFlag]
  · simp +contextual [flag_brkcs h]
  · simp +contextual [flag_tsksw h]

end Sys2Proof.Machine


namespace Sys2Proof

-- Declarations are checked one after another, which keeps the memory of a compile bounded.
set_option Elab.async false

/-! ## The decoder and the encoder (O27 to O30) -/

/-! ### Numbers of the operands -/

theorem Reg8.ofNum_num (r : Reg8) : Reg8.ofNum r.num = r := by cases r <;> rfl
theorem Reg16.ofNum_num (r : Reg16) : Reg16.ofNum r.num = r := by cases r <;> rfl
theorem Base.ofNum_num (b : Base) : Base.ofNum b.num = b := by cases b <;> rfl
theorem SReg.ofNum_field (s : SReg) : SReg.ofNum (s.field.setWidth 2) = s := by cases s <;> rfl
theorem SReg.field_bit2 (s : SReg) : s.field.getLsbD 2 = false := by cases s <;> rfl

theorem Reg8.num_ofNum (n : BitVec 3) : (Reg8.ofNum n).num = n := by revert n; decide
theorem Reg16.num_ofNum (n : BitVec 3) : (Reg16.ofNum n).num = n := by revert n; decide
theorem Base.num_ofNum (n : BitVec 3) : (Base.ofNum n).num = n := by revert n; decide

theorem SReg.field_ofNum {n : BitVec 3} (h : n.getLsbD 2 = false) : (SReg.ofNum (n.setWidth 2)).field = n := by
  revert n; decide

theorem bitVec3_cases (n : BitVec 3) : n = 0 ∨ n = 1 ∨ n = 2 ∨ n = 3 ∨ n = 4 ∨ n = 5 ∨ n = 6 ∨ n = 7 := by
  revert n; decide

/-- The three fields of a mod-r/m byte make it up. -/
theorem byte_of_fields (b : Byte) : b.extractLsb' 6 2 ++ b.extractLsb' 3 3 ++ b.extractLsb' 0 3 = b := by
  revert b; decide

theorem extract_mod (m : BitVec 2) (reg mem : BitVec 3) : (m ++ reg ++ mem : Byte).extractLsb' 6 2 = m := by
  revert m reg mem; decide
theorem extract_reg (m : BitVec 2) (reg mem : BitVec 3) : (m ++ reg ++ mem : Byte).extractLsb' 3 3 = reg := by
  revert m reg mem; decide
theorem extract_mem (m : BitVec 2) (reg mem : BitVec 3) : (m ++ reg ++ mem : Byte).extractLsb' 0 3 = mem := by
  revert m reg mem; decide

theorem word_of_halves (hi lo : Byte) : encWord (hi ++ lo) = [lo, hi] := by
  simp [encWord]

theorem halves_of_word (v : Word) : v.extractLsb' 8 8 ++ v.extractLsb' 0 8 = v := by
  rw [BitVec.extractLsb'_append_extractLsb'_eq_extractLsb' (by rfl)]; simp

/-! ### A parser reads given bytes -/

/-- From the front of any stream `p` takes the bytes `bs` and answers `a`. -/
def Reads {α : Type} (p : Parser α) (bs : List Byte) (a : α) : Prop :=
  ∀ rest used, p ⟨bs ++ rest, used⟩ = .ok (a, ⟨rest, used + bs.length⟩)

section
variable {α β : Type}

theorem reads_pure (a : α) : Reads (pure a) [] a := fun _ _ => rfl

theorem Reads.bind {p : Parser α} {f : α → Parser β} {bs cs : List Byte} {a : α} {b : β} (h : Reads p bs a)
    (g : Reads (f a) cs b) : Reads (p >>= f) (bs ++ cs) b := by
  intro rest used
  show (p ⟨bs ++ cs ++ rest, used⟩ >>= fun x => f x.1 x.2) = _
  rw [List.append_assoc, h]
  show f a _ = _
  rw [g, List.length_append, Nat.add_assoc]

/-- What comes after the last byte is only computed. -/
theorem Reads.map {p : Parser α} {bs : List Byte} {a : α} (h : Reads p bs a) (f : α → Parser β) (b : β) (hf : f a = pure b) :
    Reads (p >>= f) bs b := by
  have g := h.bind (f := f) (hf ▸ reads_pure b)
  rwa [List.append_nil] at g

end

theorem reads_next (b : Byte) : Reads next [b] b := fun _ _ => rfl

theorem reads_nextWord (v : Word) : Reads nextWord (encWord v) v := by
  intro rest used
  show Except.ok (v.extractLsb' 8 8 ++ v.extractLsb' 0 8, _) = _
  rw [halves_of_word]
  rfl

/-! ### The mod-r/m byte -/

/-- The bytes of a decoded mod-r/m byte. -/
def ModRM.bytes (m : ModRM) : List Byte :=
  match m.operand with
  | .inl mem => mem.encode m.reg
  | .inr n => [modReg m.reg n]

/-- The condition on a memory operand (R157). -/
def ModRM.wellFormed (m : ModRM) : Bool :=
  match m.operand with
  | .inl mem => mem.wellFormed
  | .inr _ => true

/-- What follows the mod-r/m byte itself, by its fields. -/
def modeOperand (mode : BitVec 2) (reg mem : BitVec 3) : Parser ModRM :=
  match mode.toNat with
  | 0 => if mem = 6 then nextWord >>= fun addr => pure ⟨reg, .inl (.direct addr)⟩
    else pure ⟨reg, .inl (.based0 (Base.ofNum mem))⟩
  | 1 => next >>= fun disp => pure ⟨reg, .inl (.based8 (Base.ofNum mem) disp)⟩
  | 2 => nextWord >>= fun disp => pure ⟨reg, .inl (.based16 (Base.ofNum mem) disp)⟩
  | _ => pure ⟨reg, .inr mem⟩

theorem modRM_eq : modRM = next >>= fun b => modeOperand (b.extractLsb' 6 2) (b.extractLsb' 3 3) (b.extractLsb' 0 3) := by
  unfold modRM
  congr

/-- The mod-r/m byte of given fields, and what its operand takes. -/
theorem reads_modRM_of {mode : BitVec 2} {reg mem : BitVec 3} {bs : List Byte} {m : ModRM}
    (h : Reads (modeOperand mode reg mem) bs m) : Reads modRM ((mode ++ reg ++ mem : Byte) :: bs) m := by
  rw [modRM_eq]
  refine (reads_next _).bind ?_
  rwa [extract_mod, extract_reg, extract_mem]

theorem reads_modRM_reg (reg n : BitVec 3) : Reads modRM [modReg reg n] ⟨reg, .inr n⟩ :=
  reads_modRM_of (reads_pure _)

theorem reads_modRM_mem {m : MemOp} (hm : m.wellFormed = true) (reg : BitVec 3) :
    Reads modRM (m.encode reg) ⟨reg, .inl m⟩ := by
  cases m with
  | direct addr => exact reads_modRM_of ((reads_nextWord addr).map _ _ rfl)
  | based0 b =>
    refine reads_modRM_of ?_
    have h6 : b.num ≠ 6 := by
      revert hm
      cases b <;> decide
    show Reads (if b.num = 6 then _ else _) _ _
    rw [if_neg h6, Base.ofNum_num]
    exact reads_pure _
  | based8 b disp => exact reads_modRM_of ((reads_next disp).map _ _ (by rw [Base.ofNum_num]))
  | based16 b disp => exact reads_modRM_of ((reads_nextWord disp).map _ _ (by rw [Base.ofNum_num]))

/-- The operand field of a register-or-memory operand. -/
def RM.field {ρ : Type} (num : ρ → BitVec 3) : RM ρ → MemOp ⊕ BitVec 3
  | .reg r => .inr (num r)
  | .mem m => .inl m

theorem rm8_field (reg : BitVec 3) (e : RM Reg8) : ModRM.rm8 ⟨reg, e.field Reg8.num⟩ = e := by
  cases e with
  | reg r => exact congrArg RM.reg r.ofNum_num
  | mem m => rfl

theorem rm16_field (reg : BitVec 3) (e : RM Reg16) : ModRM.rm16 ⟨reg, e.field Reg16.num⟩ = e := by
  cases e with
  | reg r => exact congrArg RM.reg r.ofNum_num
  | mem m => rfl

theorem reads_modRM8 {e : RM Reg8} (he : e.wellFormed = true) (reg : BitVec 3) :
    Reads modRM (e.encode8 reg) ⟨reg, e.field Reg8.num⟩ := by
  cases e with
  | reg r => exact reads_modRM_reg reg _
  | mem m => exact reads_modRM_mem he reg

theorem reads_modRM16 {e : RM Reg16} (he : e.wellFormed = true) (reg : BitVec 3) :
    Reads modRM (e.encode16 reg) ⟨reg, e.field Reg16.num⟩ := by
  cases e with
  | reg r => exact reads_modRM_reg reg _
  | mem m => exact reads_modRM_mem he reg

/-! ### Each format reads the bytes its instruction is encoded to -/

section
variable {e8 : RM Reg8} {e16 : RM Reg16} {r8 r8' : Reg8} {r16 : Reg16} {m : MemOp} {reg : BitVec 3} {imm : Byte} {imm16 : Word}

theorem reads_imm8 (f : Byte → Instr) : Reads (imm8 f) [imm] (f imm) := (reads_next imm).map _ _ rfl

theorem reads_imm16 (f : Word → Instr) : Reads (Sys2Proof.imm16 f) (encWord imm16) (f imm16) := (reads_nextWord imm16).map _ _ rfl

theorem reads_farPointer (f : Word → Word → Instr) (off seg : Word) :
    Reads (farPointer f) (encWord off ++ encWord seg) (f off seg) :=
  (reads_nextWord off).bind ((reads_nextWord seg).map _ _ rfl)

theorem reads_imm16Imm8 (f : Word → Byte → Instr) : Reads (imm16Imm8 f) (encWord imm16 ++ [imm]) (f imm16 imm) :=
  (reads_nextWord imm16).bind ((reads_next imm).map _ _ rfl)

theorem reads_second (i : Instr) : Reads (second imm i) [imm] i := (reads_next imm).map _ _ (if_pos rfl)

theorem reads_modReg8 (f : RM Reg8 → Reg8 → Instr) (he : e8.wellFormed = true) :
    Reads (modReg8 f) (e8.encode8 r8.num) (f e8 r8) :=
  (reads_modRM8 he _).map _ _ (by rw [rm8_field, Reg8.ofNum_num])

theorem reads_modReg16 (f : RM Reg16 → Reg16 → Instr) (he : e16.wellFormed = true) :
    Reads (modReg16 f) (e16.encode16 r16.num) (f e16 r16) :=
  (reads_modRM16 he _).map _ _ (by rw [rm16_field, Reg16.ofNum_num])

/-- The same with the reg field the destination. -/
theorem reads_regMod8 (f : Reg8 → RM Reg8 → Instr) (he : e8.wellFormed = true) :
    Reads (modReg8 fun e r => f r e) (e8.encode8 r8.num) (f r8 e8) := reads_modReg8 _ he

theorem reads_regMod16 (f : Reg16 → RM Reg16 → Instr) (he : e16.wellFormed = true) :
    Reads (modReg16 fun e r => f r e) (e16.encode16 r16.num) (f r16 e16) := reads_modReg16 _ he

theorem reads_modReg16Imm8 (f : RM Reg16 → Reg16 → Byte → Instr) (he : e16.wellFormed = true) :
    Reads (modReg16Imm8 f) (e16.encode16 r16.num ++ [imm]) (f e16 r16 imm) :=
  (reads_modRM16 he _).bind (by rw [rm16_field, Reg16.ofNum_num]; exact reads_imm8 _)

theorem reads_modReg16Imm16 (f : RM Reg16 → Reg16 → Word → Instr) (he : e16.wellFormed = true) :
    Reads (modReg16Imm16 f) (e16.encode16 r16.num ++ encWord imm16) (f e16 r16 imm16) :=
  (reads_modRM16 he _).bind (by rw [rm16_field, Reg16.ofNum_num]; exact reads_imm16 _)

theorem reads_modMem16 (f : Reg16 → MemOp → Instr) (hm : m.wellFormed = true) :
    Reads (modMem16 f) (m.encode r16.num) (f r16 m) :=
  (reads_modRM_mem hm _).map _ _ (by rw [Reg16.ofNum_num]; rfl)

theorem reads_modSreg (f : RM Reg16 → SReg → Instr) {sr : SReg} (he : e16.wellFormed = true) :
    Reads (modSreg f) (e16.encode16 sr.field) (f e16 sr) :=
  (reads_modRM16 he _).map _ _ (by rw [if_neg (by rw [SReg.field_bit2]; decide), rm16_field, SReg.ofNum_field])

theorem reads_modSregLoad {sr : SReg} (hs : sr ≠ .ps) (he : e16.wellFormed = true) :
    Reads modSregLoad (e16.encode16 sr.field) (.movSregEw sr e16) :=
  (reads_modRM16 he _).map _ _ (by
    rw [rm16_field, SReg.ofNum_field, SReg.field_bit2, if_neg (by simp [hs])])

theorem reads_modFpo (f : BitVec 3 → RM Reg16 → Instr) (he : e16.wellFormed = true) :
    Reads (modFpo f) (e16.encode16 reg) (f reg e16) :=
  (reads_modRM16 he _).map _ _ (by rw [rm16_field])

theorem reads_ext0Rm8 (f : RM Reg8 → Instr) (he : e8.wellFormed = true) : Reads (ext0Rm8 f) (e8.encode8 0) (f e8) :=
  (reads_modRM8 he _).map _ _ (by rw [if_pos rfl, rm8_field])

theorem reads_ext0Rm16 (f : RM Reg16 → Instr) (he : e16.wellFormed = true) : Reads (ext0Rm16 f) (e16.encode16 0) (f e16) :=
  (reads_modRM16 he _).map _ _ (by rw [if_pos rfl, rm16_field])

theorem reads_ext0Rm8Imm8 (f : RM Reg8 → Byte → Instr) (he : e8.wellFormed = true) :
    Reads (ext0Rm8Imm8 f) (e8.encode8 0 ++ [imm]) (f e8 imm) :=
  (reads_modRM8 he _).bind (by rw [if_pos rfl, rm8_field]; exact reads_imm8 _)

theorem reads_ext0Rm16Imm8 (f : RM Reg16 → Byte → Instr) (he : e16.wellFormed = true) :
    Reads (ext0Rm16Imm8 f) (e16.encode16 0 ++ [imm]) (f e16 imm) :=
  (reads_modRM16 he _).bind (by rw [if_pos rfl, rm16_field]; exact reads_imm8 _)

/-- A byte with mod = 11, a given reg field and a register. -/
theorem reads_onlyReg16 (f : Reg16 → Instr) : Reads (onlyReg16 reg f) [modReg reg r16.num] (f r16) :=
  (reads_next _).map _ _ (by
    have h : (modReg reg r16.num).extractLsb' 3 5 = (0b11#2 ++ reg) := by
      generalize r16.num = n
      revert reg n; decide
    rw [if_pos h, modReg, extract_mem, Reg16.ofNum_num])

theorem reads_twoReg8 (f : Reg8 → Reg8 → Instr) : Reads (twoReg8 f) [modReg r8'.num r8.num] (f r8 r8') :=
  (reads_next _).map _ _ (by
    rw [modReg, if_pos (extract_mod _ _ _), extract_mem, extract_reg, Reg8.ofNum_num, Reg8.ofNum_num])

theorem reads_oneReg8Imm8 (f : Reg8 → Byte → Instr) : Reads (oneReg8Imm8 f) [modReg 0 r8.num, imm] (f r8 imm) :=
  (reads_next (modReg 0 r8.num)).bind (by
    have h : (modReg 0 r8.num).extractLsb' 3 5 = 0b11000#5 := by
      generalize r8.num = n
      revert n; decide
    rw [if_pos h, modReg, extract_mem, Reg8.ofNum_num]
    exact reads_imm8 _)

theorem reads_sfrImmDisp (f : Byte → Byte → Byte → Instr) (sfr disp : Byte) :
    Reads (sfrImmDisp f) [sfr, imm, disp] (f sfr imm disp) :=
  (reads_next sfr).bind ((reads_next imm).bind ((reads_next disp).map _ _ rfl))

/-! The groups told apart by the reg field (R165): `hg` says what the group has for the field. -/

variable {g : ModRM → Parser Instr}

theorem reads_group8 {f : RM Reg8 → Instr} (hg : ∀ o, g ⟨reg, o⟩ = pure (f (ModRM.rm8 ⟨reg, o⟩)))
    (he : e8.wellFormed = true) : Reads (modRM >>= g) (e8.encode8 reg) (f e8) :=
  (reads_modRM8 he reg).map _ _ (by rw [hg, rm8_field])

theorem reads_group16 {f : RM Reg16 → Instr} (hg : ∀ o, g ⟨reg, o⟩ = pure (f (ModRM.rm16 ⟨reg, o⟩)))
    (he : e16.wellFormed = true) : Reads (modRM >>= g) (e16.encode16 reg) (f e16) :=
  (reads_modRM16 he reg).map _ _ (by rw [hg, rm16_field])

theorem reads_group8Imm8 {f : RM Reg8 → Byte → Instr} (hg : ∀ o, g ⟨reg, o⟩ = imm8 (f (ModRM.rm8 ⟨reg, o⟩)))
    (he : e8.wellFormed = true) : Reads (modRM >>= g) (e8.encode8 reg ++ [imm]) (f e8 imm) :=
  (reads_modRM8 he reg).bind (by rw [hg, rm8_field]; exact reads_imm8 _)

theorem reads_group16Imm8 {f : RM Reg16 → Byte → Instr} (hg : ∀ o, g ⟨reg, o⟩ = imm8 (f (ModRM.rm16 ⟨reg, o⟩)))
    (he : e16.wellFormed = true) : Reads (modRM >>= g) (e16.encode16 reg ++ [imm]) (f e16 imm) :=
  (reads_modRM16 he reg).bind (by rw [hg, rm16_field]; exact reads_imm8 _)

theorem reads_group16Imm16 {f : RM Reg16 → Word → Instr}
    (hg : ∀ o, g ⟨reg, o⟩ = Sys2Proof.imm16 (f (ModRM.rm16 ⟨reg, o⟩))) (he : e16.wellFormed = true) :
    Reads (modRM >>= g) (e16.encode16 reg ++ encWord imm16) (f e16 imm16) :=
  (reads_modRM16 he reg).bind (by rw [hg, rm16_field]; exact reads_imm16 _)

theorem reads_groupMem {f : MemOp → Instr} (hg : ∀ o, g ⟨reg, o⟩ = memOnly ⟨reg, o⟩ f) (hm : m.wellFormed = true) :
    Reads (modRM >>= g) (m.encode reg) (f m) :=
  (reads_modRM_mem hm reg).map _ _ (hg _)

end

/-! ### Decoding an encoded instruction -/

section
variable {b : Byte} {bs rest : List Byte} {i : Instr}

theorem decode_of_reads (h : Reads (decodeOpcode b) bs i) : decode (b :: bs ++ rest) = .ok ⟨i, (b :: bs).length, rest⟩ := by
  have h' : (next >>= decodeOpcode) ⟨b :: bs ++ rest, 0⟩ = .ok (i, ⟨rest, 0 + (b :: bs).length⟩) :=
    (reads_next b).bind h rest 0
  unfold decode
  rw [h', Nat.zero_add]

theorem reads_escape (h : Reads (decodeEscape b) bs i) : Reads (decodeOpcode 0x0F) (b :: bs) i := (reads_next b).bind h

/-- A register number in the low bits of the opcode. -/
theorem reads_opReg (h : decodeOpcode b = pure i) : Reads (decodeOpcode b) [] i := h ▸ reads_pure i

end

/-! The opcodes with an operand number in their low bits. -/

theorem decodeOpcode_incReg16 (r : Reg16) : decodeOpcode (opReg 0x40 r.num) = pure (.incReg16 r) := by cases r <;> rfl
theorem decodeOpcode_decReg16 (r : Reg16) : decodeOpcode (opReg 0x48 r.num) = pure (.decReg16 r) := by cases r <;> rfl
theorem decodeOpcode_pushReg16 (r : Reg16) : decodeOpcode (opReg 0x50 r.num) = pure (.pushReg16 r) := by cases r <;> rfl
theorem decodeOpcode_popReg16 (r : Reg16) : decodeOpcode (opReg 0x58 r.num) = pure (.popReg16 r) := by cases r <;> rfl

theorem decodeOpcode_xchAwReg16 {r : Reg16} (hr : r ≠ .aw) : decodeOpcode (opReg 0x90 r.num) = pure (.xchAwReg16 r) := by
  cases r
  case aw => exact absurd rfl hr
  all_goals rfl

theorem decodeOpcode_movReg8Imm8 (r : Reg8) : decodeOpcode (opReg 0xB0 r.num) = imm8 (.movReg8Imm8 r) := by
  cases r <;> rfl

theorem decodeOpcode_movReg16Imm16 (r : Reg16) : decodeOpcode (opReg 0xB8 r.num) = imm16 (.movReg16Imm16 r) := by
  cases r <;> rfl

theorem decodeOpcode_fpo1 (op : BitVec 3) : decodeOpcode (opReg 0xD8 op) = modFpo (.fpo1 op) := by
  rcases bitVec3_cases op with rfl | rfl | rfl | rfl | rfl | rfl | rfl | rfl <;> rfl

theorem decodeOpcode_fpo2 (op : BitVec 1) : decodeOpcode (0x66 ||| op.setWidth 8) = modFpo (.fpo2 op) := by
  have h : op = 0 ∨ op = 1 := by revert op; decide
  rcases h with rfl | rfl <;> rfl

end Sys2Proof


namespace Sys2Proof

-- Declarations are checked one after another, which keeps the memory of a compile bounded.
set_option Elab.async false

theorem opReg_C0 (n : BitVec 3) : opReg 0xC0 n = modReg 0 n := by revert n; decide
theorem opReg_F8 (n : BitVec 3) : opReg 0xF8 n = modReg 7 n := by revert n; decide

/-- Settles O27: for every constructor, the format of its opcode reads its encoding. -/
theorem decodeOfEncode : Obligations.DecodeOfEncode := by
  intro i rest h
  cases i with
  | addEbRb e r | orEbRb e r | addcEbRb e r | subcEbRb e r | andEbRb e r | subEbRb e r | xorEbRb e r | cmpEbRb e r
  | testEbRb e r | xchEbRb e r | movEbRb e r =>
    exact decode_of_reads (reads_modReg8 _ h)
  | addEwRw e r | orEwRw e r | addcEwRw e r | subcEwRw e r | andEwRw e r | subEwRw e r | xorEwRw e r | cmpEwRw e r
  | testEwRw e r | xchEwRw e r | movEwRw e r =>
    exact decode_of_reads (reads_modReg16 _ h)
  | addRbEb r e | orRbEb r e | addcRbEb r e | subcRbEb r e | andRbEb r e | subRbEb r e | xorRbEb r e | cmpRbEb r e
  | movRbEb r e =>
    exact decode_of_reads (reads_regMod8 _ h)
  | addRwEw r e | orRwEw r e | addcRwEw r e | subcRwEw r e | andRwEw r e | subRwEw r e | xorRwEw r e | cmpRwEw r e
  | movRwEw r e =>
    exact decode_of_reads (reads_regMod16 _ h)
  | addAlImm8 imm | orAlImm8 imm | addcAlImm8 imm | subcAlImm8 imm | andAlImm8 imm | subAlImm8 imm | xorAlImm8 imm
  | cmpAlImm8 imm | pushImm8 imm | testAlImm8 imm | brkImm8 imm | inAlImm8 imm | inAwImm8 imm | outImm8Al imm
  | outImm8Aw imm =>
    exact decode_of_reads (reads_imm8 _)
  | addAwImm16 imm | orAwImm16 imm | addcAwImm16 imm | subcAwImm16 imm | andAwImm16 imm | subAwImm16 imm | xorAwImm16 imm
  | cmpAwImm16 imm | pushImm16 imm | testAwImm16 imm | retNearPop imm | retFarPop imm =>
    exact decode_of_reads (reads_imm16 _)
  | addEbImm8 e imm | addEbImm8Dup e imm | orEbImm8 e imm | orEbImm8Dup e imm | addcEbImm8 e imm | addcEbImm8Dup e imm
  | subcEbImm8 e imm | subcEbImm8Dup e imm | andEbImm8 e imm | andEbImm8Dup e imm | subEbImm8 e imm | subEbImm8Dup e imm
  | xorEbImm8 e imm | xorEbImm8Dup e imm | cmpEbImm8 e imm | cmpEbImm8Dup e imm | rolEbImm8 e imm | rorEbImm8 e imm
  | rolcEbImm8 e imm | rorcEbImm8 e imm | shlEbImm8 e imm | shrEbImm8 e imm | shraEbImm8 e imm | movEbImm8 e imm
  | testEbImm8 e imm =>
    exact decode_of_reads (reads_group8Imm8 (fun _ => rfl) h)
  | addEwImm16 e imm | orEwImm16 e imm | addcEwImm16 e imm | subcEwImm16 e imm | andEwImm16 e imm | subEwImm16 e imm
  | xorEwImm16 e imm | cmpEwImm16 e imm | movEwImm16 e imm | testEwImm16 e imm =>
    exact decode_of_reads (reads_group16Imm16 (fun _ => rfl) h)
  | addEwSextImm8 e imm | orEwSextImm8 e imm | addcEwSextImm8 e imm | subcEwSextImm8 e imm | andEwSextImm8 e imm
  | subEwSextImm8 e imm | xorEwSextImm8 e imm | cmpEwSextImm8 e imm | rolEwImm8 e imm | rorEwImm8 e imm | rolcEwImm8 e imm
  | rorcEwImm8 e imm | shlEwImm8 e imm | shrEwImm8 e imm | shraEwImm8 e imm =>
    exact decode_of_reads (reads_group16Imm8 (fun _ => rfl) h)
  | chkind r m | ldea r m | movDs1Mem32 r m | movDs0Mem32 r m =>
    exact decode_of_reads (reads_modMem16 _ h)
  | mulReg16EwImm16 r e imm =>
    exact decode_of_reads (reads_modReg16Imm16 (fun e r imm => .mulReg16EwImm16 r e imm) h)
  | mulReg16EwImm8 r e imm =>
    exact decode_of_reads (reads_modReg16Imm8 (fun e r imm => .mulReg16EwImm8 r e imm) h)
  | bv disp | bnv disp | bc disp | bnc disp | be disp | bne disp | bnh disp | bh disp | bn disp | bp disp | bpe disp
  | bpo disp | blt disp | bge disp | ble disp | bgt disp | dbnzne disp | dbnze disp | dbnz disp | bcwz disp | brShort disp =>
    exact decode_of_reads (reads_imm8 _)
  | movEwSreg e s =>
    exact decode_of_reads (reads_modSreg _ h)
  | popEw e | rolEw1 e | rorEw1 e | rolcEw1 e | rorcEw1 e | shlEw1 e | shrEw1 e | shraEw1 e | rolEwCl e | rorEwCl e
  | rolcEwCl e | rorcEwCl e | shlEwCl e | shrEwCl e | shraEwCl e | notEw e | negEw e | muluEw e | mulEw e | divuEw e
  | divEw e | incEw e | decEw e | callEw e | brEw e | pushEw e =>
    exact decode_of_reads (reads_group16 (fun _ => rfl) h)
  | callFar off seg | brFar off seg =>
    exact decode_of_reads (reads_farPointer _ _ _)
  | movAlMem addr | movAwMem addr | movMemAl addr | movMemAw addr =>
    exact decode_of_reads (reads_imm16 _)
  | rolEb1 e | rorEb1 e | rolcEb1 e | rorcEb1 e | shlEb1 e | shrEb1 e | shraEb1 e | rolEbCl e | rorEbCl e | rolcEbCl e
  | rorcEbCl e | shlEbCl e | shrEbCl e | shraEbCl e | notEb e | negEb e | muluEb e | mulEb e | divuEb e | divEb e | incEb e
  | decEb e =>
    exact decode_of_reads (reads_group8 (fun _ => rfl) h)
  | prepare size level =>
    exact decode_of_reads (reads_imm16Imm8 _)
  | callNear disp | brNear disp =>
    exact decode_of_reads (reads_imm16 _)
  | callMem32 m | brMem32 m =>
    exact decode_of_reads (reads_groupMem (fun _ => rfl) h)
  | test1EbCl e | clr1EbCl e | set1EbCl e | not1EbCl e | rol4Eb e | ror4Eb e =>
    exact decode_of_reads (reads_escape (reads_ext0Rm8 _ h))
  | test1EwCl e | clr1EwCl e | set1EwCl e | not1EwCl e =>
    exact decode_of_reads (reads_escape (reads_ext0Rm16 _ h))
  | test1EbImm3 e imm | clr1EbImm3 e imm | set1EbImm3 e imm | not1EbImm3 e imm =>
    exact decode_of_reads (reads_escape (reads_ext0Rm8Imm8 _ h))
  | test1EwImm4 e imm | clr1EwImm4 e imm | set1EwImm4 e imm | not1EwImm4 e imm =>
    exact decode_of_reads (reads_escape (reads_ext0Rm16Imm8 _ h))
  | insReg8Reg8 off len | extReg8Reg8 off len =>
    exact decode_of_reads (reads_escape (reads_twoReg8 _))
  | insReg8Imm4 off imm | extReg8Imm4 off imm =>
    exact decode_of_reads (reads_escape (reads_oneReg8Imm8 _))
  | btclr sfr imm disp =>
    exact decode_of_reads (reads_escape (reads_sfrImmDisp _ _ _))
  | pushDs1 | pushPs | pushSs | pushDs0 | popDs1 | popSs | popDs0 | prefixDs1 | prefixPs | prefixSs | prefixDs0 | adj4a
  | adj4s | adjba | adjbs | pushR | popR | prefixRepnc | prefixRepc | inmb | inmw | outmb | outmw | nop | cvtbw | cvtwl
  | poll | pushPsw | popPsw | movPswAh | movAhPsw | movbkb | movbkw | cmpbkb | cmpbkw | stmb | stmw | ldmb | ldmw | cmpmb
  | cmpmw | retNear | dispose | retFar | brk3 | brkv | reti | trans | inAlDw | inAwDw | outDwAl | outDwAw | prefixBuslock
  | prefixRepne | prefixRep | halt | not1Cy | clr1Cy | set1Cy | di | ei | clr1Dir | set1Dir =>
    exact decode_of_reads (reads_pure _)
  | cvtbd | cvtdb =>
    exact decode_of_reads (reads_second _)
  | add4s | sub4s | movspa | cmp4s | retrbi | fint | stop =>
    exact decode_of_reads (reads_escape (reads_pure _))
  | incReg16 r =>
    exact decode_of_reads (reads_opReg (decodeOpcode_incReg16 r))
  | decReg16 r =>
    exact decode_of_reads (reads_opReg (decodeOpcode_decReg16 r))
  | pushReg16 r =>
    exact decode_of_reads (reads_opReg (decodeOpcode_pushReg16 r))
  | popReg16 r =>
    exact decode_of_reads (reads_opReg (decodeOpcode_popReg16 r))
  | xchAwReg16 r =>
    exact decode_of_reads (reads_opReg (decodeOpcode_xchAwReg16 (bne_iff_ne.1 h)))
  | movReg8Imm8 r imm =>
    exact decode_of_reads (decodeOpcode_movReg8Imm8 r ▸ reads_imm8 _)
  | movReg16Imm16 r imm =>
    exact decode_of_reads (decodeOpcode_movReg16Imm16 r ▸ reads_imm16 _)
  | fpo1 op reg e =>
    exact decode_of_reads (decodeOpcode_fpo1 op ▸ reads_modFpo _ h)
  | fpo2 op reg e =>
    exact decode_of_reads (decodeOpcode_fpo2 op ▸ reads_modFpo _ h)
  | brkcsReg16 r =>
    exact decode_of_reads (reads_escape (opReg_C0 r.num ▸ reads_onlyReg16 _))
  | tskswReg16 r | movspbReg16 r =>
    exact decode_of_reads (reads_escape (opReg_F8 r.num ▸ reads_onlyReg16 _))
  | movSregEw s e =>
    obtain ⟨hs, he⟩ := Bool.and_eq_true_iff.1 h
    exact decode_of_reads (reads_modSregLoad (bne_iff_ne.1 hs) he)

end Sys2Proof


namespace Sys2Proof

-- Declarations are checked one after another, which keeps the memory of a compile bounded.
set_option Elab.async false

open Laws.EncodedLength

/-! ### What a parser answers is what it took -/

/-- Whatever `p` answers, it took some bytes from the front of the stream, which `Q` ties to the answer. -/
def Takes {α : Type} (p : Parser α) (Q : List Byte → α → Prop) : Prop :=
  ∀ st a st', p st = .ok (a, st') → ∃ bs, st.rest = bs ++ st'.rest ∧ st'.used = st.used + bs.length ∧ Q bs a

section
variable {α β : Type}

theorem takes_pure {Q : List Byte → α → Prop} {a : α} (h : Q [] a) : Takes (pure a) Q := by
  intro st a' st' he
  cases he
  exact ⟨[], rfl, rfl, h⟩

theorem Takes.bind {p : Parser α} {f : α → Parser β} {P : List Byte → α → Prop} {Q : List Byte → β → Prop} (h : Takes p P)
    (g : ∀ bs a, P bs a → Takes (f a) fun cs b => Q (bs ++ cs) b) : Takes (p >>= f) Q := by
  intro st b st'' he
  change (p st >>= fun x => f x.1 x.2) = _ at he
  cases hp : p st with
  | error e => rw [hp] at he; cases he
  | ok x =>
    obtain ⟨a, st'⟩ := x
    rw [hp] at he
    obtain ⟨bs, hr, hu, hP⟩ := h st a st' hp
    obtain ⟨cs, hr', hu', hQ⟩ := g bs a hP st' b st'' he
    exact ⟨bs ++ cs, by rw [hr, hr', List.append_assoc], by rw [hu', hu, List.length_append, Nat.add_assoc], hQ⟩

theorem Takes.mono {p : Parser α} {P Q : List Byte → α → Prop} (h : Takes p P) (hPQ : ∀ bs a, P bs a → Q bs a) : Takes p Q :=
  fun st a st' he => have ⟨bs, hr, hu, hP⟩ := h st a st' he; ⟨bs, hr, hu, hPQ bs a hP⟩

end

theorem takes_undefinedEncoding {Q : List Byte → Instr → Prop} : Takes undefinedEncoding Q := by
  intro st a st' he
  cases he

theorem takes_next : Takes next fun bs b => bs = [b] := by
  intro ⟨rest, used⟩ a st' he
  cases rest with
  | nil => cases he
  | cons b rest => cases he; exact ⟨[_], rfl, rfl, rfl⟩

theorem takes_nextWord : Takes nextWord fun bs v => bs = encWord v := by
  refine takes_next.bind fun _ lo h1 => takes_next.bind fun _ hi h2 => takes_pure ?_
  rw [h1, h2, word_of_halves]
  rfl

theorem Base.wellFormed_ofNum {n : BitVec 3} (h : n ≠ 6) : (MemOp.based0 (Base.ofNum n)).wellFormed = true := by
  revert n; decide

theorem takes_modeOperand (mode : BitVec 2) (reg mem : BitVec 3) :
    Takes (modeOperand mode reg mem) fun cs m => (mode ++ reg ++ mem : Byte) :: cs = m.bytes ∧ m.wellFormed = true := by
  have hmode : mode = 0 ∨ mode = 1 ∨ mode = 2 ∨ mode = 3 := by revert mode; decide
  rcases hmode with rfl | rfl | rfl | rfl
  · show Takes (if mem = 6 then _ else _) _
    split
    · next h6 =>
      subst h6
      exact takes_nextWord.bind fun _ addr h => takes_pure ⟨by rw [h]; rfl, rfl⟩
    · next h6 =>
      refine takes_pure ⟨?_, Base.wellFormed_ofNum h6⟩
      simp only [ModRM.bytes, MemOp.encode, Base.num_ofNum]
      rfl
  · refine takes_next.bind fun _ disp h => takes_pure ⟨?_, rfl⟩
    simp only [h, ModRM.bytes, MemOp.encode, Base.num_ofNum]
    rfl
  · refine takes_nextWord.bind fun _ disp h => takes_pure ⟨?_, rfl⟩
    simp only [h, ModRM.bytes, MemOp.encode, Base.num_ofNum]
    rfl
  · exact takes_pure ⟨rfl, rfl⟩

theorem takes_modRM : Takes modRM fun bs m => bs = m.bytes ∧ m.wellFormed = true := by
  rw [modRM_eq]
  refine takes_next.bind fun bs b hb => ?_
  subst hb
  refine (takes_modeOperand _ _ _).mono fun cs m h => ?_
  rwa [byte_of_fields] at h

theorem ModRM.encode8_rm8 (m : ModRM) : m.rm8.encode8 m.reg = m.bytes := by
  obtain ⟨reg, mem | n⟩ := m
  · rfl
  · exact congrArg (fun k => [modReg reg k]) (Reg8.num_ofNum n)

theorem ModRM.encode16_rm16 (m : ModRM) : m.rm16.encode16 m.reg = m.bytes := by
  obtain ⟨reg, mem | n⟩ := m
  · rfl
  · exact congrArg (fun k => [modReg reg k]) (Reg16.num_ofNum n)

theorem ModRM.rm8_wellFormed (m : ModRM) : m.rm8.wellFormed = m.wellFormed := by
  obtain ⟨reg, mem | n⟩ := m <;> rfl

theorem ModRM.rm16_wellFormed (m : ModRM) : m.rm16.wellFormed = m.wellFormed := by
  obtain ⟨reg, mem | n⟩ := m <;> rfl

theorem ModRM.bytes_length (m : ModRM) : m.bytes.length ≤ 3 := by
  rw [← m.encode16_rm16]
  exact (rm16_length _ _).2

/-! ### Each format answers an instruction encoded to the bytes taken -/

/-- After the bytes `front`, `p` answers only well-formed instructions encoded to `front` and the bytes it takes. -/
def Decodes (front : List Byte) (p : Parser Instr) : Prop :=
  Takes p fun bs i => encode i = front ++ bs ∧ i.wellFormed = true ∧ (front ++ bs).length ≤ maxInstrBytes

section
variable {front : List Byte}

theorem Decodes.undefined : Decodes front undefinedEncoding := takes_undefinedEncoding

theorem Decodes.pure {i : Instr} (he : encode i = front := by rfl) (hw : i.wellFormed = true := by rfl)
    (hl : front.length ≤ 2 := by decide) : Decodes front (pure i) :=
  takes_pure ⟨by rw [he, List.append_nil], hw, by rw [List.append_nil]; exact Nat.le_trans hl (by decide)⟩

/-- A parser whose bytes and answer are known. -/
theorem Takes.decodes {p : Parser Instr} {n : Nat} (h : Takes p fun bs i => encode i = front ++ bs ∧ i.wellFormed = true ∧ bs.length ≤ n)
    (hl : front.length + n ≤ 6) : Decodes front p :=
  h.mono fun bs _ ⟨he, hw, hb⟩ => ⟨he, hw, by rw [List.length_append]; exact Nat.le_trans (by omega) hl⟩

theorem Decodes.imm8 {f : Byte → Instr} (he : ∀ v, encode (f v) = front ++ [v] := by intros; rfl)
    (hw : ∀ v, (f v).wellFormed = true := by intros; rfl) (hl : front.length ≤ 5 := by decide) : Decodes front (imm8 f) :=
  Takes.decodes (n := 1) (takes_next.bind fun _ v h => takes_pure (by subst h; exact ⟨he v, hw v, Nat.le_refl 1⟩)) (by omega)

theorem Decodes.imm16 {f : Word → Instr} (he : ∀ v, encode (f v) = front ++ encWord v := by intros; rfl)
    (hw : ∀ v, (f v).wellFormed = true := by intros; rfl) (hl : front.length ≤ 4 := by decide) : Decodes front (imm16 f) :=
  Takes.decodes (n := 2) (takes_nextWord.bind fun _ v h => takes_pure (by
    subst h; exact ⟨he v, hw v, Nat.le_refl 2⟩)) (by omega)

theorem Decodes.farPointer {f : Word → Word → Instr}
    (he : ∀ off seg, encode (f off seg) = front ++ (encWord off ++ encWord seg) := by intros; rfl)
    (hw : ∀ off seg, (f off seg).wellFormed = true := by intros; rfl) (hl : front.length ≤ 2 := by decide) :
    Decodes front (farPointer f) :=
  Takes.decodes (n := 4) (takes_nextWord.bind fun _ off h => takes_nextWord.bind fun _ seg g => takes_pure (by
    subst h g; exact ⟨he off seg, hw off seg, Nat.le_refl 4⟩)) (by omega)

theorem Decodes.imm16Imm8 {f : Word → Byte → Instr} (he : ∀ v w, encode (f v w) = front ++ (encWord v ++ [w]) := by intros; rfl)
    (hw : ∀ v w, (f v w).wellFormed = true := by intros; rfl) (hl : front.length ≤ 3 := by decide) :
    Decodes front (imm16Imm8 f) :=
  Takes.decodes (n := 3) (takes_nextWord.bind fun _ v h => takes_next.bind fun _ w g => takes_pure (by
    subst h g; exact ⟨he v w, hw v w, Nat.le_refl 3⟩)) (by omega)

theorem Decodes.sfrImmDisp {f : Byte → Byte → Byte → Instr} (he : ∀ u v w, encode (f u v w) = front ++ [u, v, w] := by intros; rfl)
    (hw : ∀ u v w, (f u v w).wellFormed = true := by intros; rfl) (hl : front.length ≤ 3 := by decide) :
    Decodes front (sfrImmDisp f) :=
  Takes.decodes (n := 3) (takes_next.bind fun _ u h => takes_next.bind fun _ v g => takes_next.bind fun _ w k => takes_pure (by
    subst h g k; exact ⟨he u v w, hw u v w, Nat.le_refl 3⟩)) (by omega)

theorem Decodes.second {b : Byte} {i : Instr} (he : encode i = front ++ [b] := by rfl) (hw : i.wellFormed = true := by rfl)
    (hl : front.length ≤ 5 := by decide) : Decodes front (second b i) :=
  Takes.decodes (n := 1) (takes_next.bind fun _ c h => by
    split
    · next hc => exact takes_pure (by subst h hc; exact ⟨he, hw, Nat.le_refl 1⟩)
    · exact takes_undefinedEncoding) (by omega)

/-- An opcode byte taken, the rest decodes what follows it. -/
theorem Decodes.next {g : Byte → Parser Instr} (h : ∀ b, Decodes (front ++ [b]) (g b)) : Decodes front (next >>= g) :=
  takes_next.bind fun bs b hb => (h b).mono fun cs i ⟨he, hw, hl⟩ => by
    subst hb; rw [List.append_assoc] at he hl; exact ⟨he, hw, hl⟩

/-- A mod-r/m byte with its displacement taken, the rest decodes what follows. -/
theorem Decodes.modRM {g : ModRM → Parser Instr} (h : ∀ m : ModRM, m.wellFormed = true → Decodes (front ++ m.bytes) (g m)) :
    Decodes front (modRM >>= g) :=
  takes_modRM.bind fun bs m ⟨hb, hm⟩ => (h m hm).mono fun cs i ⟨he, hw, hl⟩ => by
    subst hb; rw [List.append_assoc] at he hl; exact ⟨he, hw, hl⟩

theorem Decodes.ite {c : Prop} [Decidable c] {p q : Parser Instr} (hp : c → Decodes front p) (hq : ¬c → Decodes front q) :
    Decodes front (if c then p else q) := by
  split
  · next h => exact hp h
  · next h => exact hq h

/-! What may follow the mod-r/m byte: nothing, or an immediate. -/

section
variable {m : ModRM} {n : BitVec 3}

theorem front_modRM_length {k : Nat} (hl : front.length ≤ k) : (front ++ m.bytes).length ≤ k + 3 := by
  rw [List.length_append]
  exact Nat.add_le_add hl m.bytes_length

theorem Decodes.rm {i : Instr} (he : encode i = front ++ m.bytes) (hw : i.wellFormed = true) (hl : front.length ≤ 2) :
    Decodes (front ++ m.bytes) (Pure.pure i) :=
  takes_pure ⟨by rw [he, List.append_nil], hw, by
    rw [List.append_nil]; exact Nat.le_trans (front_modRM_length hl) (by decide)⟩

theorem Decodes.rm8 {f : RM Reg8 → Instr} (hm : m.wellFormed = true) (hn : m.reg = n)
    (he : ∀ e, encode (f e) = front ++ e.encode8 n := by intros; rfl)
    (hw : ∀ e, (f e).wellFormed = e.wellFormed := by intros; rfl) (hl : front.length ≤ 2 := by decide) :
    Decodes (front ++ m.bytes) (Pure.pure (f m.rm8)) :=
  .rm (by rw [he, ← hn, m.encode8_rm8]) (by rw [hw, m.rm8_wellFormed, hm]) hl

theorem Decodes.rm16 {f : RM Reg16 → Instr} (hm : m.wellFormed = true) (hn : m.reg = n)
    (he : ∀ e, encode (f e) = front ++ e.encode16 n := by intros; rfl)
    (hw : ∀ e, (f e).wellFormed = e.wellFormed := by intros; rfl) (hl : front.length ≤ 2 := by decide) :
    Decodes (front ++ m.bytes) (Pure.pure (f m.rm16)) :=
  .rm (by rw [he, ← hn, m.encode16_rm16]) (by rw [hw, m.rm16_wellFormed, hm]) hl

theorem Decodes.rm8Imm8 {f : RM Reg8 → Byte → Instr} (hm : m.wellFormed = true) (hn : m.reg = n)
    (he : ∀ e v, encode (f e v) = front ++ (e.encode8 n ++ [v]) := by intros; rfl)
    (hw : ∀ e v, (f e v).wellFormed = e.wellFormed := by intros; rfl) (hl : front.length ≤ 2 := by decide) :
    Decodes (front ++ m.bytes) (Sys2Proof.imm8 (f m.rm8)) :=
  .imm8 (fun v => by rw [he, ← hn, m.encode8_rm8, List.append_assoc]) (fun v => by rw [hw, m.rm8_wellFormed, hm])
    (front_modRM_length hl)

theorem Decodes.rm16Imm8 {f : RM Reg16 → Byte → Instr} (hm : m.wellFormed = true) (hn : m.reg = n)
    (he : ∀ e v, encode (f e v) = front ++ (e.encode16 n ++ [v]) := by intros; rfl)
    (hw : ∀ e v, (f e v).wellFormed = e.wellFormed := by intros; rfl) (hl : front.length ≤ 2 := by decide) :
    Decodes (front ++ m.bytes) (Sys2Proof.imm8 (f m.rm16)) :=
  .imm8 (fun v => by rw [he, ← hn, m.encode16_rm16, List.append_assoc]) (fun v => by rw [hw, m.rm16_wellFormed, hm])
    (front_modRM_length hl)

theorem Decodes.rm16Imm16 {f : RM Reg16 → Word → Instr} (hm : m.wellFormed = true) (hn : m.reg = n)
    (he : ∀ e v, encode (f e v) = front ++ (e.encode16 n ++ encWord v) := by intros; rfl)
    (hw : ∀ e v, (f e v).wellFormed = e.wellFormed := by intros; rfl) (hl : front.length ≤ 1 := by decide) :
    Decodes (front ++ m.bytes) (Sys2Proof.imm16 (f m.rm16)) :=
  .imm16 (fun v => by rw [he, ← hn, m.encode16_rm16, List.append_assoc]) (fun v => by rw [hw, m.rm16_wellFormed, hm])
    (front_modRM_length hl)

theorem Decodes.memOnly {f : MemOp → Instr} (hm : m.wellFormed = true) (hn : m.reg = n)
    (he : ∀ e, encode (f e) = front ++ e.encode n := by intros; rfl)
    (hw : ∀ e, (f e).wellFormed = e.wellFormed := by intros; rfl) (hl : front.length ≤ 2 := by decide) :
    Decodes (front ++ m.bytes) (memOnly m f) := by
  obtain ⟨reg, mem | k⟩ := m
  · exact .rm (by rw [he, ← hn]; rfl) (by rw [hw]; exact hm) hl
  · exact .undefined

end

/-! The formats with a register in the reg field, or the reg field fixed. -/

theorem Decodes.modReg8 {f : RM Reg8 → Reg8 → Instr} (he : ∀ e r, encode (f e r) = front ++ e.encode8 r.num := by intros; rfl)
    (hw : ∀ e r, (f e r).wellFormed = e.wellFormed := by intros; rfl) (hl : front.length ≤ 2 := by decide) :
    Decodes front (modReg8 f) :=
  .modRM fun m hm => .rm8 (f := fun e => f e (Reg8.ofNum m.reg)) hm (Reg8.num_ofNum m.reg).symm (he · _) (hw · _) hl

theorem Decodes.modReg16 {f : RM Reg16 → Reg16 → Instr}
    (he : ∀ e r, encode (f e r) = front ++ e.encode16 r.num := by intros; rfl)
    (hw : ∀ e r, (f e r).wellFormed = e.wellFormed := by intros; rfl) (hl : front.length ≤ 2 := by decide) :
    Decodes front (modReg16 f) :=
  .modRM fun m hm => .rm16 (f := fun e => f e (Reg16.ofNum m.reg)) hm (Reg16.num_ofNum m.reg).symm (he · _) (hw · _) hl

theorem Decodes.regMod8 {f : Reg8 → RM Reg8 → Instr} (he : ∀ r e, encode (f r e) = front ++ e.encode8 r.num := by intros; rfl)
    (hw : ∀ r e, (f r e).wellFormed = e.wellFormed := by intros; rfl) (hl : front.length ≤ 2 := by decide) :
    Decodes front (Sys2Proof.modReg8 fun e r => f r e) := .modReg8 (fun e r => he r e) (fun e r => hw r e) hl

theorem Decodes.regMod16 {f : Reg16 → RM Reg16 → Instr}
    (he : ∀ r e, encode (f r e) = front ++ e.encode16 r.num := by intros; rfl)
    (hw : ∀ r e, (f r e).wellFormed = e.wellFormed := by intros; rfl) (hl : front.length ≤ 2 := by decide) :
    Decodes front (Sys2Proof.modReg16 fun e r => f r e) := .modReg16 (fun e r => he r e) (fun e r => hw r e) hl

theorem Decodes.regMod16Imm8 {f : Reg16 → RM Reg16 → Byte → Instr}
    (he : ∀ r e v, encode (f r e v) = front ++ (e.encode16 r.num ++ [v]) := by intros; rfl)
    (hw : ∀ r e v, (f r e v).wellFormed = e.wellFormed := by intros; rfl) (hl : front.length ≤ 2 := by decide) :
    Decodes front (modReg16Imm8 fun e r v => f r e v) :=
  .modRM fun _ hm => .rm16Imm8 hm (Reg16.num_ofNum _).symm (he _) (hw _) hl

theorem Decodes.regMod16Imm16 {f : Reg16 → RM Reg16 → Word → Instr}
    (he : ∀ r e v, encode (f r e v) = front ++ (e.encode16 r.num ++ encWord v) := by intros; rfl)
    (hw : ∀ r e v, (f r e v).wellFormed = e.wellFormed := by intros; rfl) (hl : front.length ≤ 1 := by decide) :
    Decodes front (modReg16Imm16 fun e r v => f r e v) :=
  .modRM fun _ hm => .rm16Imm16 hm (Reg16.num_ofNum _).symm (he _) (hw _) hl

theorem Decodes.modMem16 {f : Reg16 → MemOp → Instr} (he : ∀ r e, encode (f r e) = front ++ e.encode r.num := by intros; rfl)
    (hw : ∀ r e, (f r e).wellFormed = e.wellFormed := by intros; rfl) (hl : front.length ≤ 2 := by decide) :
    Decodes front (modMem16 f) :=
  .modRM fun _ hm => .memOnly hm (Reg16.num_ofNum _).symm (he _) (hw _) hl

theorem Decodes.modFpo {f : BitVec 3 → RM Reg16 → Instr} (he : ∀ n e, encode (f n e) = front ++ e.encode16 n := by intros; rfl)
    (hw : ∀ n e, (f n e).wellFormed = e.wellFormed := by intros; rfl) (hl : front.length ≤ 2 := by decide) :
    Decodes front (modFpo f) :=
  .modRM fun _ hm => .rm16 hm rfl (he _) (hw _) hl

theorem Decodes.modSreg {f : RM Reg16 → SReg → Instr} (he : ∀ e r, encode (f e r) = front ++ e.encode16 r.field := by intros; rfl)
    (hw : ∀ e r, (f e r).wellFormed = e.wellFormed := by intros; rfl) (hl : front.length ≤ 2 := by decide) :
    Decodes front (modSreg f) :=
  .modRM fun _ hm => .ite (fun _ => .undefined) fun h =>
    .rm16 (f := fun e => f e _) hm (SReg.field_ofNum (Bool.eq_false_iff.2 h)).symm (he · _) (hw · _) hl

theorem Decodes.modSregLoad : Decodes [0x8E] modSregLoad :=
  .modRM fun m hm => .ite (fun _ => .undefined) fun h => by
    rw [Bool.not_eq_true, Bool.or_eq_false_iff, beq_eq_false_iff_ne] at h
    have he : encode (.movSregEw (SReg.ofNum (m.reg.setWidth 2)) m.rm16) =
        [0x8E] ++ m.rm16.encode16 (SReg.ofNum (m.reg.setWidth 2)).field := rfl
    exact .rm (by rw [he, SReg.field_ofNum h.1, m.encode16_rm16])
      (by show (_ != _ && _) = true; rw [m.rm16_wellFormed, hm, bne_iff_ne.2 h.2]; rfl) (by decide)

theorem Decodes.ext0Rm8 {f : RM Reg8 → Instr} (he : ∀ e, encode (f e) = front ++ e.encode8 0 := by intros; rfl)
    (hw : ∀ e, (f e).wellFormed = e.wellFormed := by intros; rfl) (hl : front.length ≤ 2 := by decide) :
    Decodes front (ext0Rm8 f) :=
  .modRM fun _ hm => .ite (fun h => .rm8 hm h he hw hl) fun _ => .undefined

theorem Decodes.ext0Rm16 {f : RM Reg16 → Instr} (he : ∀ e, encode (f e) = front ++ e.encode16 0 := by intros; rfl)
    (hw : ∀ e, (f e).wellFormed = e.wellFormed := by intros; rfl) (hl : front.length ≤ 2 := by decide) :
    Decodes front (ext0Rm16 f) :=
  .modRM fun _ hm => .ite (fun h => .rm16 hm h he hw hl) fun _ => .undefined

theorem Decodes.ext0Rm8Imm8 {f : RM Reg8 → Byte → Instr}
    (he : ∀ e v, encode (f e v) = front ++ (e.encode8 0 ++ [v]) := by intros; rfl)
    (hw : ∀ e v, (f e v).wellFormed = e.wellFormed := by intros; rfl) (hl : front.length ≤ 2 := by decide) :
    Decodes front (ext0Rm8Imm8 f) :=
  .modRM fun _ hm => .ite (fun h => .rm8Imm8 hm h he hw hl) fun _ => .undefined

theorem Decodes.ext0Rm16Imm8 {f : RM Reg16 → Byte → Instr}
    (he : ∀ e v, encode (f e v) = front ++ (e.encode16 0 ++ [v]) := by intros; rfl)
    (hw : ∀ e v, (f e v).wellFormed = e.wellFormed := by intros; rfl) (hl : front.length ≤ 2 := by decide) :
    Decodes front (ext0Rm16Imm8 f) :=
  .modRM fun _ hm => .ite (fun h => .rm16Imm8 hm h he hw hl) fun _ => .undefined

/-! The formats with a register byte (mod = 11). -/

theorem modReg_of_high {b : Byte} {n : BitVec 3} (h : b.extractLsb' 3 5 = 0b11#2 ++ n) : modReg n (b.extractLsb' 0 3) = b := by
  revert b n; decide

theorem modReg_of_mod {b : Byte} (h : b.extractLsb' 6 2 = 0b11#2) : modReg (b.extractLsb' 3 3) (b.extractLsb' 0 3) = b := by
  rw [modReg, ← h, byte_of_fields]

theorem Decodes.onlyReg16 {n : BitVec 3} {f : Reg16 → Instr}
    (he : ∀ r, encode (f r) = front ++ [modReg n r.num] := by intros; rfl)
    (hw : ∀ r, (f r).wellFormed = true := by intros; rfl) (hl : front.length ≤ 5 := by decide) :
    Decodes front (onlyReg16 n f) :=
  .next fun b => .ite (fun h => takes_pure
    ⟨by rw [he, Reg16.num_ofNum, modReg_of_high h, List.append_nil], hw _,
      by simpa [maxInstrBytes] using Nat.succ_le_succ hl⟩) fun _ => .undefined

theorem Decodes.twoReg8 {f : Reg8 → Reg8 → Instr}
    (he : ∀ r q, encode (f r q) = front ++ [modReg q.num r.num] := by intros; rfl)
    (hw : ∀ r q, (f r q).wellFormed = true := by intros; rfl) (hl : front.length ≤ 5 := by decide) :
    Decodes front (twoReg8 f) :=
  .next fun b => .ite (fun h => takes_pure
    ⟨by rw [he, Reg8.num_ofNum, Reg8.num_ofNum, modReg_of_mod h, List.append_nil], hw _ _,
      by simpa [maxInstrBytes] using Nat.succ_le_succ hl⟩) fun _ => .undefined

theorem Decodes.oneReg8Imm8 {f : Reg8 → Byte → Instr}
    (he : ∀ r v, encode (f r v) = front ++ [modReg 0 r.num, v] := by intros; rfl)
    (hw : ∀ r v, (f r v).wellFormed = true := by intros; rfl) (hl : front.length ≤ 4 := by decide) :
    Decodes front (oneReg8Imm8 f) :=
  .next fun b => .ite
    (fun h => .imm8 (fun v => by rw [he, Reg8.num_ofNum, modReg_of_high h, List.append_assoc]; rfl) (hw _)
      (by rw [List.length_append]; exact Nat.succ_le_succ hl))
    fun _ => .undefined

end

end Sys2Proof


namespace Sys2Proof

-- Declarations are checked one after another, which keeps the memory of a compile bounded.
set_option Elab.async false

/-! ### The opcode maps, row by row -/

/-- A property of the eight values of a reg field. -/
def OnFields (P : BitVec 3 → Prop) : Prop := P 0 ∧ P 1 ∧ P 2 ∧ P 3 ∧ P 4 ∧ P 5 ∧ P 6 ∧ P 7

theorem OnFields.all {P : BitVec 3 → Prop} (h : OnFields P) (n : BitVec 3) : P n := by
  obtain ⟨h0, h1, h2, h3, h4, h5, h6, h7⟩ := h
  rcases bitVec3_cases n with rfl | rfl | rfl | rfl | rfl | rfl | rfl | rfl <;> assumption

/-- A group of instructions told apart by the reg field (R165), one entry a field. -/
theorem Decodes.group {front : List Byte} {g : ModRM → Parser Instr}
    (h : ∀ o, ModRM.wellFormed ⟨0, o⟩ = true → OnFields fun n => Decodes (front ++ ModRM.bytes ⟨n, o⟩) (g ⟨n, o⟩)) :
    Decodes front (Sys2Proof.modRM >>= g) :=
  .modRM fun m hm => (h m.operand hm).all m.reg

theorem decodes_group80 : Decodes [0x80] (modRM >>= group80) := .group fun _ hm =>
  ⟨.rm8Imm8 hm rfl, .rm8Imm8 hm rfl, .rm8Imm8 hm rfl, .rm8Imm8 hm rfl, .rm8Imm8 hm rfl, .rm8Imm8 hm rfl,
    .rm8Imm8 hm rfl, .rm8Imm8 hm rfl⟩

theorem decodes_group81 : Decodes [0x81] (modRM >>= group81) := .group fun _ hm =>
  ⟨.rm16Imm16 hm rfl, .rm16Imm16 hm rfl, .rm16Imm16 hm rfl, .rm16Imm16 hm rfl, .rm16Imm16 hm rfl, .rm16Imm16 hm rfl,
    .rm16Imm16 hm rfl, .rm16Imm16 hm rfl⟩

theorem decodes_group82 : Decodes [0x82] (modRM >>= group82) := .group fun _ hm =>
  ⟨.rm8Imm8 hm rfl, .rm8Imm8 hm rfl, .rm8Imm8 hm rfl, .rm8Imm8 hm rfl, .rm8Imm8 hm rfl, .rm8Imm8 hm rfl,
    .rm8Imm8 hm rfl, .rm8Imm8 hm rfl⟩

theorem decodes_group83 : Decodes [0x83] (modRM >>= group83) := .group fun _ hm =>
  ⟨.rm16Imm8 hm rfl, .rm16Imm8 hm rfl, .rm16Imm8 hm rfl, .rm16Imm8 hm rfl, .rm16Imm8 hm rfl, .rm16Imm8 hm rfl,
    .rm16Imm8 hm rfl, .rm16Imm8 hm rfl⟩

theorem decodes_group8F : Decodes [0x8F] (modRM >>= group8F) := .group fun _ hm =>
  ⟨.rm16 hm rfl, .undefined, .undefined, .undefined, .undefined, .undefined, .undefined, .undefined⟩

theorem decodes_groupC0 : Decodes [0xC0] (modRM >>= groupC0) := .group fun _ hm =>
  ⟨.rm8Imm8 hm rfl, .rm8Imm8 hm rfl, .rm8Imm8 hm rfl, .rm8Imm8 hm rfl, .rm8Imm8 hm rfl, .rm8Imm8 hm rfl, .undefined,
    .rm8Imm8 hm rfl⟩

theorem decodes_groupC1 : Decodes [0xC1] (modRM >>= groupC1) := .group fun _ hm =>
  ⟨.rm16Imm8 hm rfl, .rm16Imm8 hm rfl, .rm16Imm8 hm rfl, .rm16Imm8 hm rfl, .rm16Imm8 hm rfl, .rm16Imm8 hm rfl,
    .undefined, .rm16Imm8 hm rfl⟩

theorem decodes_groupC6 : Decodes [0xC6] (modRM >>= groupC6) := .group fun _ hm =>
  ⟨.rm8Imm8 hm rfl, .undefined, .undefined, .undefined, .undefined, .undefined, .undefined, .undefined⟩

theorem decodes_groupC7 : Decodes [0xC7] (modRM >>= groupC7) := .group fun _ hm =>
  ⟨.rm16Imm16 hm rfl, .undefined, .undefined, .undefined, .undefined, .undefined, .undefined, .undefined⟩

theorem decodes_groupD0 : Decodes [0xD0] (modRM >>= groupD0) := .group fun _ hm =>
  ⟨.rm8 hm rfl, .rm8 hm rfl, .rm8 hm rfl, .rm8 hm rfl, .rm8 hm rfl, .rm8 hm rfl, .undefined, .rm8 hm rfl⟩

theorem decodes_groupD1 : Decodes [0xD1] (modRM >>= groupD1) := .group fun _ hm =>
  ⟨.rm16 hm rfl, .rm16 hm rfl, .rm16 hm rfl, .rm16 hm rfl, .rm16 hm rfl, .rm16 hm rfl, .undefined, .rm16 hm rfl⟩

theorem decodes_groupD2 : Decodes [0xD2] (modRM >>= groupD2) := .group fun _ hm =>
  ⟨.rm8 hm rfl, .rm8 hm rfl, .rm8 hm rfl, .rm8 hm rfl, .rm8 hm rfl, .rm8 hm rfl, .undefined, .rm8 hm rfl⟩

theorem decodes_groupD3 : Decodes [0xD3] (modRM >>= groupD3) := .group fun _ hm =>
  ⟨.rm16 hm rfl, .rm16 hm rfl, .rm16 hm rfl, .rm16 hm rfl, .rm16 hm rfl, .rm16 hm rfl, .undefined, .rm16 hm rfl⟩

theorem decodes_groupF6 : Decodes [0xF6] (modRM >>= groupF6) := .group fun _ hm =>
  ⟨.rm8Imm8 hm rfl, .undefined, .rm8 hm rfl, .rm8 hm rfl, .rm8 hm rfl, .rm8 hm rfl, .rm8 hm rfl, .rm8 hm rfl⟩

theorem decodes_groupF7 : Decodes [0xF7] (modRM >>= groupF7) := .group fun _ hm =>
  ⟨.rm16Imm16 hm rfl, .undefined, .rm16 hm rfl, .rm16 hm rfl, .rm16 hm rfl, .rm16 hm rfl, .rm16 hm rfl, .rm16 hm rfl⟩

theorem decodes_groupFE : Decodes [0xFE] (modRM >>= groupFE) := .group fun _ hm =>
  ⟨.rm8 hm rfl, .rm8 hm rfl, .undefined, .undefined, .undefined, .undefined, .undefined, .undefined⟩

theorem decodes_groupFF : Decodes [0xFF] (modRM >>= groupFF) := .group fun _ hm =>
  ⟨.rm16 hm rfl, .rm16 hm rfl, .rm16 hm rfl, .memOnly hm rfl, .rm16 hm rfl, .memOnly hm rfl, .rm16 hm rfl, .undefined⟩

/-- The bytes that stand for an instruction after 0FH (R167). -/
def escapeBytes : List Byte := [
  0x10, 0x11, 0x12, 0x13, 0x14, 0x15, 0x16, 0x17, 0x18, 0x19, 0x1A, 0x1B, 0x1C, 0x1D, 0x1E, 0x1F, 0x20, 0x22, 0x25,
  0x26, 0x28, 0x2A, 0x2D, 0x31, 0x33, 0x39, 0x3B, 0x91, 0x92, 0x94, 0x95, 0x9C, 0x9E]

theorem decodeEscape_of_not_mem {b : Byte} (hb : b ∉ escapeBytes) : decodeEscape b = undefinedEncoding := by
  have hne {n : Nat} (h : b.toNat = n) (hn : BitVec.ofNat 8 n ∈ escapeBytes) : False :=
    hb (by rwa [← h, BitVec.ofNat_toNat, BitVec.setWidth_eq] at hn)
  unfold decodeEscape
  split
  case h_34 => rfl
  all_goals exact (hne ‹_› (by decide)).elim

theorem decodes_escape (b : Byte) : Decodes ([0x0F] ++ [b]) (decodeEscape b) := by
  by_cases hb : b ∈ escapeBytes
  · revert b
    simp only [escapeBytes, List.forall_mem_cons]
    exact ⟨.ext0Rm8, .ext0Rm16, .ext0Rm8, .ext0Rm16, .ext0Rm8, .ext0Rm16, .ext0Rm8, .ext0Rm16, .ext0Rm8Imm8,
      .ext0Rm16Imm8, .ext0Rm8Imm8, .ext0Rm16Imm8, .ext0Rm8Imm8, .ext0Rm16Imm8, .ext0Rm8Imm8, .ext0Rm16Imm8, .pure,
      .pure, .pure, .pure, .ext0Rm8, .ext0Rm8, .onlyReg16, .twoReg8, .twoReg8, .oneReg8Imm8, .oneReg8Imm8, .pure,
      .pure, .onlyReg16, .onlyReg16, .sfrImmDisp, .pure, fun _ h => absurd h List.not_mem_nil⟩
  · rw [decodeEscape_of_not_mem hb]
    exact .undefined

/-- A property of the sixteen opcodes of a row of the opcode map (R165). -/
def OnRow (P : Byte → Prop) (hi : BitVec 4) : Prop :=
  P (hi ++ 0x0#4) ∧ P (hi ++ 0x1#4) ∧ P (hi ++ 0x2#4) ∧ P (hi ++ 0x3#4) ∧ P (hi ++ 0x4#4) ∧ P (hi ++ 0x5#4) ∧
  P (hi ++ 0x6#4) ∧ P (hi ++ 0x7#4) ∧ P (hi ++ 0x8#4) ∧ P (hi ++ 0x9#4) ∧ P (hi ++ 0xA#4) ∧ P (hi ++ 0xB#4) ∧
  P (hi ++ 0xC#4) ∧ P (hi ++ 0xD#4) ∧ P (hi ++ 0xE#4) ∧ P (hi ++ 0xF#4)

theorem bitVec4_cases (n : BitVec 4) : n = 0 ∨ n = 1 ∨ n = 2 ∨ n = 3 ∨ n = 4 ∨ n = 5 ∨ n = 6 ∨ n = 7 ∨ n = 8 ∨ n = 9 ∨
    n = 10 ∨ n = 11 ∨ n = 12 ∨ n = 13 ∨ n = 14 ∨ n = 15 := by
  revert n; decide

theorem OnRow.all {P : Byte → Prop} {hi : BitVec 4} (h : OnRow P hi) (lo : BitVec 4) : P (hi ++ lo) := by
  obtain ⟨h0, h1, h2, h3, h4, h5, h6, h7, h8, h9, hA, hB, hC, hD, hE, hF⟩ := h
  rcases bitVec4_cases lo with rfl | rfl | rfl | rfl | rfl | rfl | rfl | rfl | rfl | rfl | rfl | rfl | rfl | rfl | rfl | rfl <;>
    assumption

/-- An opcode decodes to instructions encoded with it. -/
def DecodesOpcode (b : Byte) : Prop := Decodes [b] (decodeOpcode b)

theorem decodesOpcode_row0 : OnRow DecodesOpcode 0x0 :=
  ⟨.modReg8, .modReg16, .regMod8, .regMod16, .imm8, .imm16, .pure, .pure, .modReg8, .modReg16, .regMod8, .regMod16,
    .imm8, .imm16, .pure, .next decodes_escape⟩

theorem decodesOpcode_row1 : OnRow DecodesOpcode 0x1 :=
  ⟨.modReg8, .modReg16, .regMod8, .regMod16, .imm8, .imm16, .pure, .pure, .modReg8, .modReg16, .regMod8, .regMod16,
    .imm8, .imm16, .pure, .pure⟩

theorem decodesOpcode_row2 : OnRow DecodesOpcode 0x2 :=
  ⟨.modReg8, .modReg16, .regMod8, .regMod16, .imm8, .imm16, .pure, .pure, .modReg8, .modReg16, .regMod8, .regMod16,
    .imm8, .imm16, .pure, .pure⟩

theorem decodesOpcode_row3 : OnRow DecodesOpcode 0x3 :=
  ⟨.modReg8, .modReg16, .regMod8, .regMod16, .imm8, .imm16, .pure, .pure, .modReg8, .modReg16, .regMod8, .regMod16,
    .imm8, .imm16, .pure, .pure⟩

theorem decodesOpcode_row4 : OnRow DecodesOpcode 0x4 :=
  ⟨.pure, .pure, .pure, .pure, .pure, .pure, .pure, .pure, .pure, .pure, .pure, .pure, .pure, .pure, .pure, .pure⟩

theorem decodesOpcode_row5 : OnRow DecodesOpcode 0x5 :=
  ⟨.pure, .pure, .pure, .pure, .pure, .pure, .pure, .pure, .pure, .pure, .pure, .pure, .pure, .pure, .pure, .pure⟩

theorem decodesOpcode_row6 : OnRow DecodesOpcode 0x6 :=
  ⟨.pure, .pure, .modMem16, .undefined, .pure, .pure, .modFpo, .modFpo, .imm16, .regMod16Imm16, .imm8,
    .regMod16Imm8, .pure, .pure, .pure, .pure⟩

theorem decodesOpcode_row7 : OnRow DecodesOpcode 0x7 :=
  ⟨.imm8, .imm8, .imm8, .imm8, .imm8, .imm8, .imm8, .imm8, .imm8, .imm8, .imm8, .imm8, .imm8, .imm8, .imm8, .imm8⟩

theorem decodesOpcode_row8 : OnRow DecodesOpcode 0x8 :=
  ⟨decodes_group80, decodes_group81, decodes_group82, decodes_group83, .modReg8, .modReg16, .modReg8, .modReg16,
    .modReg8, .modReg16, .regMod8, .regMod16, .modSreg, .modMem16, .modSregLoad, decodes_group8F⟩

theorem decodesOpcode_row9 : OnRow DecodesOpcode 0x9 :=
  ⟨.pure, .pure, .pure, .pure, .pure, .pure, .pure, .pure, .pure, .pure, .farPointer, .pure, .pure, .pure, .pure,
    .pure⟩

theorem decodesOpcode_rowA : OnRow DecodesOpcode 0xA :=
  ⟨.imm16, .imm16, .imm16, .imm16, .pure, .pure, .pure, .pure, .imm8, .imm16, .pure, .pure, .pure, .pure, .pure,
    .pure⟩

theorem decodesOpcode_rowB : OnRow DecodesOpcode 0xB :=
  ⟨.imm8, .imm8, .imm8, .imm8, .imm8, .imm8, .imm8, .imm8, .imm16, .imm16, .imm16, .imm16, .imm16, .imm16, .imm16,
    .imm16⟩

theorem decodesOpcode_rowC : OnRow DecodesOpcode 0xC :=
  ⟨decodes_groupC0, decodes_groupC1, .imm16, .pure, .modMem16, .modMem16, decodes_groupC6, decodes_groupC7,
    .imm16Imm8, .pure, .imm16, .pure, .pure, .imm8, .pure, .pure⟩

theorem decodesOpcode_rowD : OnRow DecodesOpcode 0xD :=
  ⟨decodes_groupD0, decodes_groupD1, decodes_groupD2, decodes_groupD3, .second, .second, .undefined, .pure, .modFpo,
    .modFpo, .modFpo, .modFpo, .modFpo, .modFpo, .modFpo, .modFpo⟩

theorem decodesOpcode_rowE : OnRow DecodesOpcode 0xE :=
  ⟨.imm8, .imm8, .imm8, .imm8, .imm8, .imm8, .imm8, .imm8, .imm16, .imm16, .farPointer, .imm8, .pure, .pure, .pure,
    .pure⟩

theorem decodesOpcode_rowF : OnRow DecodesOpcode 0xF :=
  ⟨.pure, .undefined, .pure, .pure, .pure, .pure, decodes_groupF6, decodes_groupF7, .pure, .pure, .pure, .pure,
    .pure, .pure, decodes_groupFE, decodes_groupFF⟩

theorem decodesOpcode (b : Byte) : DecodesOpcode b := by
  have hb : b.extractLsb' 4 4 ++ b.extractLsb' 0 4 = b := by
    rw [BitVec.extractLsb'_append_extractLsb'_eq_extractLsb' (by rfl)]; simp
  rw [← hb]
  refine OnRow.all ?_ _
  generalize b.extractLsb' 4 4 = hi
  rcases bitVec4_cases hi with rfl | rfl | rfl | rfl | rfl | rfl | rfl | rfl | rfl | rfl | rfl | rfl | rfl | rfl | rfl | rfl
  · exact decodesOpcode_row0
  · exact decodesOpcode_row1
  · exact decodesOpcode_row2
  · exact decodesOpcode_row3
  · exact decodesOpcode_row4
  · exact decodesOpcode_row5
  · exact decodesOpcode_row6
  · exact decodesOpcode_row7
  · exact decodesOpcode_row8
  · exact decodesOpcode_row9
  · exact decodesOpcode_rowA
  · exact decodesOpcode_rowB
  · exact decodesOpcode_rowC
  · exact decodesOpcode_rowD
  · exact decodesOpcode_rowE
  · exact decodesOpcode_rowF

/-- Settles O28: every entry of the opcode maps answers an instruction encoded to the bytes it took. -/
theorem encodeOfDecode : Obligations.EncodeOfDecode := by
  intro bytes d hd
  unfold decode at hd
  split at hd
  · next i st h =>
    cases hd
    obtain ⟨bs, hr, hu, he, hw, hl⟩ := Decodes.next (front := []) decodesOpcode _ _ _ h
    rw [List.nil_append] at he hl
    refine ⟨hw, by rw [he]; exact hr, ?_, ?_⟩
    · rw [he]; exact hu.trans (Nat.zero_add _)
    · rw [hu, Nat.zero_add]; exact hl
  · cases hd

/-- Settles O30, by evaluation. -/
theorem specWordsDecode : Obligations.SpecWordsDecode := by
  refine ⟨?_, ?_, ?_, ?_, ?_, ?_, ?_, ?_, ?_, ?_⟩ <;> rfl

end Sys2Proof


namespace Sys2Proof

-- Declarations are checked one after another, which keeps the memory of a compile bounded.
set_option Elab.async false

/-! ### Undefined encodings (R168) -/

/-- With two bytes more than the mod-r/m byte, its operand is always there: its reg field is that of the byte, and with
mod = 11 it is a register. -/
theorem modRM_total (m : Byte) {rest : List Byte} (hl : 2 ≤ rest.length) (used : Nat) :
    ∃ o st, modRM ⟨m :: rest, used⟩ = .ok (⟨m.extractLsb' 3 3, o⟩, st) ∧ (m.extractLsb' 6 2 = 3 → ∃ n, o = .inr n) := by
  obtain ⟨x, y, rest, rfl⟩ : ∃ x y tail, rest = x :: y :: tail := by
    match rest, hl with
    | x :: y :: tail, _ => exact ⟨x, y, tail, rfl⟩
  rw [modRM_eq]
  show ∃ o st, modeOperand _ _ _ ⟨x :: y :: rest, used + 1⟩ = _ ∧ _
  generalize m.extractLsb' 6 2 = mode, m.extractLsb' 3 3 = reg, m.extractLsb' 0 3 = mem
  have hmode : mode = 0 ∨ mode = 1 ∨ mode = 2 ∨ mode = 3 := by revert mode; decide
  rcases hmode with rfl | rfl | rfl | rfl
  · by_cases h6 : mem = 6
    · subst h6
      exact ⟨_, _, rfl, fun h => absurd h (by decide)⟩
    · exact ⟨_, _, by show (if mem = 6 then _ else _ : Parser ModRM) _ = _; rw [if_neg h6]; rfl, fun h => absurd h (by decide)⟩
  · exact ⟨_, _, rfl, fun h => absurd h (by decide)⟩
  · exact ⟨_, _, rfl, fun h => absurd h (by decide)⟩
  · exact ⟨_, _, rfl, fun _ => ⟨_, rfl⟩⟩

section
variable {b c m : Byte} {rest : List Byte} {g : ModRM → Parser Instr}

theorem decode_undefined (h : decodeOpcode b ⟨rest, 1⟩ = .error .undefinedEncoding) :
    decode (b :: rest) = .error .undefinedEncoding := by
  have h' : (next >>= decodeOpcode) ⟨b :: rest, 0⟩ = .error .undefinedEncoding := h
  unfold decode
  rw [h']

theorem bind_modRM_undefined (hl : 2 ≤ rest.length) (used : Nat)
    (hg : ∀ o, (m.extractLsb' 6 2 = 3 → ∃ n, o = .inr n) → g ⟨m.extractLsb' 3 3, o⟩ = undefinedEncoding) :
    (modRM >>= g) ⟨m :: rest, used⟩ = .error .undefinedEncoding := by
  obtain ⟨o, st, hm, ho⟩ := modRM_total m hl used
  show (modRM ⟨m :: rest, used⟩ >>= fun x => g x.1 x.2) = _
  rw [hm]
  exact congrFun (hg o ho) st

/-- An opcode followed by a mod-r/m byte for which its map has no entry. -/
theorem decode_modRM_undefined (hb : decodeOpcode b = modRM >>= g) (hl : 2 ≤ rest.length)
    (hg : ∀ o, (m.extractLsb' 6 2 = 3 → ∃ n, o = .inr n) → g ⟨m.extractLsb' 3 3, o⟩ = undefinedEncoding) :
    decode (b :: m :: rest) = .error .undefinedEncoding :=
  decode_undefined (by rw [hb]; exact bind_modRM_undefined hl 1 hg)

/-- The same after 0FH. -/
theorem decode_escape_undefined (h : decodeEscape c ⟨rest, 2⟩ = .error .undefinedEncoding) :
    decode (0x0F :: c :: rest) = .error .undefinedEncoding := decode_undefined h

theorem decode_escape_modRM_undefined (hc : decodeEscape c = modRM >>= g) (hl : 2 ≤ rest.length)
    (hg : ∀ o, g ⟨m.extractLsb' 3 3, o⟩ = undefinedEncoding) :
    decode (0x0F :: c :: m :: rest) = .error .undefinedEncoding :=
  decode_escape_undefined (by rw [hc]; exact bind_modRM_undefined hl 2 fun o _ => hg o)

end

/-! The groups and formats at the fields they have no entry for. -/

section
variable {n : BitVec 3} {o : MemOp ⊕ BitVec 3}

theorem group8F_undefined (h : n.toNat ≠ 0) : group8F ⟨n, o⟩ = undefinedEncoding := by
  unfold group8F
  split
  · exact absurd ‹_› h
  · rfl

theorem groupC6_undefined (h : n.toNat ≠ 0) : groupC6 ⟨n, o⟩ = undefinedEncoding := by
  unfold groupC6
  split
  · exact absurd ‹_› h
  · rfl

theorem groupC7_undefined (h : n.toNat ≠ 0) : groupC7 ⟨n, o⟩ = undefinedEncoding := by
  unfold groupC7
  split
  · exact absurd ‹_› h
  · rfl

theorem groupFE_undefined (h : 2 ≤ n.toNat) : groupFE ⟨n, o⟩ = undefinedEncoding := by
  unfold groupFE
  split
  · next h0 => exact absurd (h0 ▸ h) (by decide)
  · next h1 => exact absurd (h1 ▸ h) (by decide)
  · rfl

theorem reg_eq_of_toNat {k : Nat} (h : n.toNat = k) : n = BitVec.ofNat 3 k := by
  rw [← h, BitVec.ofNat_toNat, BitVec.setWidth_eq]

theorem getLsbD_two_of_le (h : 4 ≤ n.toNat) : n.getLsbD 2 = true := by
  revert n; decide

end

/-- Settles O29: each undefined encoding is an entry the opcode maps, the groups or the formats lack. -/
theorem undefinedEncodingsRejected : Obligations.UndefinedEncodingsRejected := by
  refine ⟨fun rest b hb => ?_, fun rest b hb => ?_, fun rest b m hl h => ?_, fun rest b hb c hc => ?_,
    fun rest b m hl h => ?_, fun bytes => ?_, fun rest => ⟨rfl, rfl, rfl, rfl⟩, fun p bytes h => ?_⟩
  · revert b
    simp only [List.forall_mem_cons]
    exact ⟨rfl, rfl, rfl, fun _ h => absurd h List.not_mem_nil⟩
  · exact decode_escape_undefined (congrFun (decodeEscape_of_not_mem hb) _)
  · dsimp only at h
    rcases h with ⟨hb, hn⟩ | ⟨hb, hn⟩ | ⟨hb, hn⟩ | ⟨rfl, hn⟩ | ⟨rfl, hn⟩ | ⟨hb, hn⟩ | ⟨rfl, hn⟩ | ⟨hb, hr⟩ | ⟨rfl, hn, hr⟩
    · simp only [List.mem_cons, List.not_mem_nil, or_false] at hb
      rcases hb with rfl | rfl | rfl
      · exact decode_modRM_undefined rfl hl fun _ _ => group8F_undefined hn
      · exact decode_modRM_undefined rfl hl fun _ _ => groupC6_undefined hn
      · exact decode_modRM_undefined rfl hl fun _ _ => groupC7_undefined hn
    · have hm := reg_eq_of_toNat hn
      simp only [List.mem_cons, List.not_mem_nil, or_false] at hb
      rcases hb with rfl | rfl | rfl | rfl | rfl | rfl <;>
        exact decode_modRM_undefined rfl hl fun _ _ => by rw [hm]; rfl
    · have hm := reg_eq_of_toNat hn
      simp only [List.mem_cons, List.not_mem_nil, or_false] at hb
      rcases hb with rfl | rfl <;> exact decode_modRM_undefined rfl hl fun _ _ => by rw [hm]; rfl
    · exact decode_modRM_undefined rfl hl fun _ _ => groupFE_undefined hn
    · have hm := reg_eq_of_toNat hn
      exact decode_modRM_undefined rfl hl fun _ _ => by rw [hm]; rfl
    · have h2 := getLsbD_two_of_le hn
      simp only [List.mem_cons, List.not_mem_nil, or_false] at hb
      rcases hb with rfl | rfl
      · exact decode_modRM_undefined rfl hl fun _ _ => if_pos h2
      · exact decode_modRM_undefined rfl hl fun _ _ => if_pos (by rw [h2]; rfl)
    · have hm : ((m.extractLsb' 3 3).getLsbD 2 || SReg.ofNum ((m.extractLsb' 3 3).setWidth 2) == .ps) = true := by
        rw [reg_eq_of_toNat hn]; decide
      exact decode_modRM_undefined rfl hl fun _ _ => if_pos hm
    · simp only [List.mem_cons, List.not_mem_nil, or_false] at hb
      rcases hb with rfl | rfl | rfl | rfl <;>
        exact decode_modRM_undefined rfl hl fun _ ho => by obtain ⟨k, rfl⟩ := ho hr; rfl
    · rcases hn with hn | hn <;> have hm := reg_eq_of_toNat hn <;>
        exact decode_modRM_undefined rfl hl fun _ ho => by obtain ⟨k, rfl⟩ := ho hr; rw [hm]; rfl
  · simp only [List.mem_cons, List.not_mem_nil, or_false] at hb
    rcases hb with rfl | rfl <;> exact decode_undefined (congrFun (if_neg hc) _)
  · dsimp only at h
    have h0 (hn : (m.extractLsb' 3 3).toNat ≠ 0) : m.extractLsb' 3 3 ≠ 0 := fun e => hn (by rw [e]; rfl)
    rcases h with ⟨hb, hn⟩ | ⟨hb, hn⟩ | ⟨hb, hr⟩ | ⟨hb, hn⟩
    · simp only [List.mem_cons, List.not_mem_nil, or_false] at hb
      rcases hb with rfl | rfl | rfl | rfl | rfl | rfl | rfl | rfl | rfl | rfl | rfl | rfl | rfl | rfl | rfl | rfl | rfl | rfl <;>
        exact decode_escape_modRM_undefined rfl hl fun _ => if_neg (h0 hn)
    · have hh : m.extractLsb' 3 5 ≠ 0b11#2 ++ 0#3 := by
        revert hn; clear * -; revert m; decide
      simp only [List.mem_cons, List.not_mem_nil, or_false] at hb
      rcases hb with rfl | rfl | rfl <;> exact decode_escape_undefined (congrFun (if_neg hh) _)
    · simp only [List.mem_cons, List.not_mem_nil, or_false] at hb
      rcases hb with rfl | rfl <;> exact decode_escape_undefined (congrFun (if_neg hr) _)
    · have hh : m.extractLsb' 3 5 ≠ 0b11#2 ++ 7#3 := by
        revert hn; clear * -; revert m; decide
      simp only [List.mem_cons, List.not_mem_nil, or_false] at hb
      rcases hb with rfl | rfl <;> exact decode_escape_undefined (congrFun (if_neg hh) _)
  · unfold decodeWith
    split
    · next a b rest =>
      split
      · next h =>
        obtain ⟨rfl, rfl | rfl⟩ := h <;> rfl
      · rfl
    · rfl
  · unfold decodeWith
    split
    · next a b rest =>
      refine if_neg fun ⟨ha, hb⟩ => ?_
      subst ha
      rcases hb with rfl | rfl
      · exact (h rest).1 rfl
      · exact (h rest).2 rfl
    · rfl

end Sys2Proof


namespace Sys2Proof.Machine

-- Declarations are checked one after another, which keeps the memory of a compile bounded.
set_option Elab.async false

/-! ## Two-operand arithmetic and logic (O1 to O3) -/

section
variable {w : Nat} {ρ : Type} {z : Size w ρ} {op : AluOp} {i : Instr} {s : State}

/-- An instruction that is the two-operand shape ends as that shape does. -/
theorem aluEnds_of_exec (hz : z.Lawful) {d : Place ρ} {source : M (BitVec w)} {s1 s2 : State} {a b : BitVec w}
    (hi : exec i s = act (aluAt z.ops op d source) s) (hd : z.placeOk s d = true)
    (h1 : readPlace z.ops d s = .ok (a, s1)) (h2 : source s1 = .ok (b, s2)) (hr : ReadOnly s1 s2) :
    z.AluEnds op d a b s2 i s := by
  obtain ⟨n, free, t, hn, ht, hend⟩ := aluAt_ends hz hd h1 h2 hr
  exact ⟨n, free, t, hn, by rw [hi]; exact act_of_ok ht, hend⟩

theorem aluEnds_rmReg (hz : z.Lawful) {e : RM ρ} {r : ρ} (hi : exec i s = act (aluRmReg z.ops op e r) s)
    (hd : z.placeOk s (s.place e) = true) :
    ∃ a s1, readPlace z.ops (s.place e) s = .ok (a, s1) ∧ z.AluEnds op (s.place e) a (z.ops.getReg s r) s1 i s := by
  obtain ⟨a, s1, h1, hr⟩ := readPlace_of_ok hz hd
  refine ⟨a, s1, h1, aluEnds_of_exec hz (hi.trans (act_aluRmReg ..)) hd h1 ?_ (.refl s1)⟩
  rw [← hz.getReg_readOnly hr]
  rfl

theorem aluEnds_regRm (hz : z.Lawful) {e : RM ρ} {r : ρ} (hi : exec i s = act (aluRegRm z.ops op r e) s)
    (hd : z.placeOk s (s.place e) = true) :
    ∃ b s1, readPlace z.ops (s.place e) s = .ok (b, s1) ∧ z.AluEnds op (.reg r) (z.ops.getReg s r) b s1 i s := by
  obtain ⟨b, s1, h1, hr⟩ := readPlace_of_ok hz hd
  exact ⟨b, s1, h1, aluEnds_of_exec hz hi rfl rfl h1 hr⟩

theorem aluEnds_rmImm (hz : z.Lawful) {e : RM ρ} {imm : BitVec w} (hi : exec i s = act (aluRmImm z.ops op e imm) s)
    (hd : z.placeOk s (s.place e) = true) :
    ∃ a s1, readPlace z.ops (s.place e) s = .ok (a, s1) ∧ z.AluEnds op (s.place e) a imm s1 i s := by
  obtain ⟨a, s1, h1, -⟩ := readPlace_of_ok hz hd
  exact ⟨a, s1, h1, aluEnds_of_exec hz (hi.trans (act_aluRmImm ..)) hd h1 rfl (.refl s1)⟩

theorem aluEnds_accImm (hz : z.Lawful) {imm : BitVec w} (hi : exec i s = act (aluAccImm z.ops op imm) s) :
    z.AluEnds op (.reg z.ops.acc) (z.ops.getReg s z.ops.acc) imm s i s :=
  aluEnds_of_exec hz hi rfl rfl rfl (.refl s)

/-! ### What they leave unchanged -/

variable {t : State}

theorem aluFrame_rmReg (hz : z.Lawful) {e : RM ρ} {r : ρ} (hi : exec i s = act (aluRmReg z.ops op e r) s)
    (h : exec i s = .next t) : Quiet s t ∧ Frame s t (if op.stores then z.placeKeys s (s.place e) else []) maskStatus
      (z.placeBytes (s.place e)) (if op.stores then z.placeBytes (s.place e) else []) := by
  rw [hi, act_aluRmReg, act_eq_next] at h
  have hf := aluAt_frame (loaded := []) hz (fun _ h2 => by cases h2; exact ⟨.refl _, .refl _ _ _ _ _⟩) h
  rwa [List.append_nil] at hf

theorem aluFrame_rmImm (hz : z.Lawful) {e : RM ρ} {imm : BitVec w} (hi : exec i s = act (aluRmImm z.ops op e imm) s)
    (h : exec i s = .next t) : Quiet s t ∧ Frame s t (if op.stores then z.placeKeys s (s.place e) else []) maskStatus
      (z.placeBytes (s.place e)) (if op.stores then z.placeBytes (s.place e) else []) := by
  rw [hi, act_aluRmImm, act_eq_next] at h
  have hf := aluAt_frame (loaded := []) hz (fun _ h2 => by cases h2; exact ⟨.refl _, .refl _ _ _ _ _⟩) h
  rwa [List.append_nil] at hf

theorem aluFrame_regRm (hz : z.Lawful) {e : RM ρ} {r : ρ} (hi : exec i s = act (aluRegRm z.ops op r e) s)
    (h : exec i s = .next t) : Quiet s t ∧ Frame s t (if op.stores then z.keys s r else []) maskStatus
      (z.placeBytes (s.place e)) [] := by
  rw [hi, act_eq_next] at h
  have hsrc {s1 s2 : State} {b : BitVec w} (r1 : ReadOnly s s1) (h2 : readRM z.ops e s1 = .ok (b, s2)) :
      ReadOnly s1 s2 ∧ Frame s1 s2 [] 0 (z.placeBytes (s.place e)) [] := by
    rw [← r1.place]
    exact readPlace_frame hz h2
  obtain ⟨hq, hf⟩ := aluAt_frame hz hsrc h
  exact ⟨hq, hf.mono (List.Subset.refl _) BitVec.and_self (by simp [Size.placeBytes]) (by simp [Size.placeBytes])⟩

theorem aluFrame_accImm (hz : z.Lawful) {imm : BitVec w} (hi : exec i s = act (aluAccImm z.ops op imm) s)
    (h : exec i s = .next t) : Quiet s t ∧ Frame s t (if op.stores then z.keys s z.ops.acc else []) maskStatus [] [] := by
  rw [hi, act_eq_next] at h
  obtain ⟨hq, hf⟩ := aluAt_frame (loaded := []) hz (fun _ h2 => by cases h2; exact ⟨.refl _, .refl _ _ _ _ _⟩) h
  exact ⟨hq, hf.mono (List.Subset.refl _) BitVec.and_self (by simp [Size.placeBytes]) (by simp [Size.placeBytes])⟩

end

/-- Settles O1. -/
theorem aluOperands : Obligations.AluOperands :=
  ⟨fun _ hp e r s => aluEnds_rmReg byteSize_lawful (exec_aluByteRmReg hp e r s),
    fun _ hp e r s => aluEnds_rmReg wordSize_lawful (exec_aluWordRmReg hp e r s),
    fun _ hp r e s => aluEnds_regRm byteSize_lawful (exec_aluByteRegRm hp r e s),
    fun _ hp r e s => aluEnds_regRm wordSize_lawful (exec_aluWordRegRm hp r e s)⟩

/-- Settles O2. -/
theorem aluImmediate : Obligations.AluImmediate :=
  ⟨fun _ hp e imm s => aluEnds_rmImm byteSize_lawful (exec_aluByteRmImm hp e imm s),
    fun _ hp e imm s => aluEnds_rmImm wordSize_lawful (exec_aluWordRmImm hp e imm s),
    fun _ hp e imm s => aluEnds_rmImm wordSize_lawful (exec_aluWordRmSext hp e imm s),
    fun _ hp imm s => aluEnds_accImm byteSize_lawful (exec_aluByteAccImm hp imm s),
    fun _ hp imm s => aluEnds_accImm wordSize_lawful (exec_aluWordAccImm hp imm s)⟩

/-- Settles O3. -/
theorem aluFrame : Obligations.AluFrame :=
  ⟨fun _ hp e r s _ => aluFrame_rmReg byteSize_lawful (exec_aluByteRmReg hp e r s),
    fun _ hp e r s _ => aluFrame_rmReg wordSize_lawful (exec_aluWordRmReg hp e r s),
    fun _ hp r e s _ => aluFrame_regRm byteSize_lawful (exec_aluByteRegRm hp r e s),
    fun _ hp r e s _ => aluFrame_regRm wordSize_lawful (exec_aluWordRegRm hp r e s),
    fun _ hp e imm s _ => aluFrame_rmImm byteSize_lawful (exec_aluByteRmImm hp e imm s),
    fun _ hp e imm s _ => aluFrame_rmImm wordSize_lawful (exec_aluWordRmImm hp e imm s),
    fun _ hp e imm s _ => aluFrame_rmImm wordSize_lawful (exec_aluWordRmSext hp e imm s),
    fun _ hp imm s _ => aluFrame_accImm byteSize_lawful (exec_aluByteAccImm hp imm s),
    fun _ hp imm s _ => aluFrame_accImm wordSize_lawful (exec_aluWordAccImm hp imm s)⟩

end Sys2Proof.Machine


namespace Sys2Proof.Machine

-- Declarations are checked one after another, which keeps the memory of a compile bounded.
set_option Elab.async false

/-! ## One-operand instructions, shifts and rotates, bit instructions (O4 to O8) -/

theorem addResult_false {w : Nat} (a b : BitVec w) : addResult a b false = a + b := by simp [addResult]
theorem subResult_false {w : Nat} (a b : BitVec w) : subResult a b false = a - b := by simp [subResult]
theorem subResult_zero {w : Nat} (a : BitVec w) : subResult 0 a false = -a := by simp [subResult]

theorem merge_zero_mask {w : Nat} (old new : BitVec w) : merge old 0 new = old := by
  apply BitVec.eq_of_getLsbD_eq
  intro i hi
  rw [getLsbD_merge _ _ _ hi]
  simp

theorem setStatus_zero_mask (s : State) (status : Word) : s.setStatus 0 status = s :=
  congrArg s.withPsw (merge_zero_mask s.psw status)

section
variable {w : Nat} {ρ : Type}

/-- The operand changed in place, then flags set from its old value: INC, DEC and NEG. -/
def modifyThenFlags (k : Width w ρ) (d : Place ρ) (f : BitVec w → BitVec w) (mask : Word) (status : BitVec w → Word) : M Unit := do
  let a ← readPlace k d
  writePlace k d (f a)
  update fun s => s.setStatus mask (status a)

theorem incPlace_eq (k : Width w ρ) (d : Place ρ) :
    incPlace k d = modifyThenFlags k d (fun a => a + 1) maskStatusNoCy (fun a => addStatus a 1 false) := by
  unfold incPlace modifyThenFlags
  simp only [addResult_false]

theorem decPlace_eq (k : Width w ρ) (d : Place ρ) :
    decPlace k d = modifyThenFlags k d (fun a => a - 1) maskStatusNoCy (fun a => subStatus a 1 false) := by
  unfold decPlace modifyThenFlags
  simp only [subResult_false]

theorem negPlace_eq (k : Width w ρ) (d : Place ρ) :
    negPlace k d = modifyThenFlags k d (fun a => -a) maskStatus (fun a => subStatus 0 a false) := by
  unfold negPlace modifyThenFlags
  simp only [subResult_zero]

variable {z : Size w ρ} {d : Place ρ} {f : BitVec w → BitVec w} {i : Instr} {s t : State}

theorem modifyEnds_of_exec {mask : Word} {status : BitVec w → Word} (hz : z.Lawful)
    (hi : exec i s = act (modifyThenFlags z.ops d f mask status) s) (hd : z.placeOk s d = true) :
    z.ModifyEnds d f mask status i s := by
  obtain ⟨a, s1, u, h1, h2, -⟩ := modifyPlace_ends hz hd f
  refine ⟨a, s1, u, h1, h2, ?_⟩
  rw [hi, act_eq_next, modifyThenFlags, M.bind_of_ok h1, M.bind_of_ok h2]
  rfl

theorem modifyFrame_of_exec {mask : Word} {status : BitVec w → Word} (hz : z.Lawful)
    (hi : exec i s = act (modifyThenFlags z.ops d f mask status) s) (h : exec i s = .next t) :
    Quiet s t ∧ Frame s t (z.placeKeys s d) mask (z.placeBytes d) (z.placeBytes d) := by
  rw [hi, act_eq_next] at h
  obtain ⟨a, s1, h1, h⟩ := M.bind_ok.1 h
  obtain ⟨_, u, h2, h3⟩ := M.bind_ok.1 h
  cases h3
  exact modifyThenFlags_frame hz h1 h2

/-- A change in place with no flag ends as one with an empty mask. -/
theorem modifyEnds_of_modifyRM {e : RM ρ} (hz : z.Lawful) (hi : exec i s = act (modifyRM z.ops e f) s)
    (hd : z.placeOk s (s.place e) = true) : z.ModifyEnds (s.place e) f 0 (fun _ => 0) i s := by
  obtain ⟨a, s1, u, h1, h2, h3⟩ := modifyPlace_ends hz hd f
  exact ⟨a, s1, u, h1, h2, by rw [hi, act_modifyRM, setStatus_zero_mask]; exact act_of_ok h3⟩

theorem modifyFrame_of_modifyRM {e : RM ρ} (hz : z.Lawful) (hi : exec i s = act (modifyRM z.ops e f) s)
    (h : exec i s = .next t) :
    Quiet s t ∧ Frame s t (z.placeKeys s (s.place e)) 0 (z.placeBytes (s.place e)) (z.placeBytes (s.place e)) := by
  rw [hi, act_modifyRM, act_eq_next] at h
  exact modifyPlace_frame hz h

end

/-! ### INC, DEC, NEG, NOT -/

section
variable (s : State)

theorem exec_incReg16 (r : Reg16) : exec (.incReg16 r) s = act (modifyThenFlags wordOp (.reg r) (fun a => a + 1)
    maskStatusNoCy (fun a => addStatus a 1 false)) s := by rw [← incPlace_eq]; rfl
theorem exec_decReg16 (r : Reg16) : exec (.decReg16 r) s = act (modifyThenFlags wordOp (.reg r) (fun a => a - 1)
    maskStatusNoCy (fun a => subStatus a 1 false)) s := by rw [← decPlace_eq]; rfl
theorem exec_incEb (e : RM Reg8) : exec (.incEb e) s = act (modifyThenFlags byteOp (s.place e) (fun a => a + 1)
    maskStatusNoCy (fun a => addStatus a 1 false)) s := by rw [← incPlace_eq]; rfl
theorem exec_decEb (e : RM Reg8) : exec (.decEb e) s = act (modifyThenFlags byteOp (s.place e) (fun a => a - 1)
    maskStatusNoCy (fun a => subStatus a 1 false)) s := by rw [← decPlace_eq]; rfl
theorem exec_negEb (e : RM Reg8) : exec (.negEb e) s = act (modifyThenFlags byteOp (s.place e) (fun a => -a)
    maskStatus (fun a => subStatus 0 a false)) s := by rw [← negPlace_eq]; rfl
theorem exec_notEb (e : RM Reg8) : exec (.notEb e) s = act (modifyRM byteOp e fun a => ~~~a) s := rfl
theorem exec_incEw (e : RM Reg16) : exec (.incEw e) s = act (modifyThenFlags wordOp (s.place e) (fun a => a + 1)
    maskStatusNoCy (fun a => addStatus a 1 false)) s := by rw [← incPlace_eq]; rfl
theorem exec_decEw (e : RM Reg16) : exec (.decEw e) s = act (modifyThenFlags wordOp (s.place e) (fun a => a - 1)
    maskStatusNoCy (fun a => subStatus a 1 false)) s := by rw [← decPlace_eq]; rfl
theorem exec_negEw (e : RM Reg16) : exec (.negEw e) s = act (modifyThenFlags wordOp (s.place e) (fun a => -a)
    maskStatus (fun a => subStatus 0 a false)) s := by rw [← negPlace_eq]; rfl
theorem exec_notEw (e : RM Reg16) : exec (.notEw e) s = act (modifyRM wordOp e fun a => ~~~a) s := rfl

end

/-- Settles O4. -/
theorem incDecNegNot : Obligations.IncDecNegNot :=
  ⟨fun r s => ⟨exec_incReg16 s r, exec_decReg16 s r⟩,
    fun e s hd => ⟨modifyEnds_of_exec byteSize_lawful (exec_incEb s e) hd, modifyEnds_of_exec byteSize_lawful (exec_decEb s e) hd,
      modifyEnds_of_exec byteSize_lawful (exec_negEb s e) hd, modifyEnds_of_modifyRM byteSize_lawful (exec_notEb s e) hd⟩,
    fun e s hd => ⟨modifyEnds_of_exec wordSize_lawful (exec_incEw s e) hd, modifyEnds_of_exec wordSize_lawful (exec_decEw s e) hd,
      modifyEnds_of_exec wordSize_lawful (exec_negEw s e) hd, modifyEnds_of_modifyRM wordSize_lawful (exec_notEw s e) hd⟩⟩

/-! ### Shifts and rotates -/

theorem exec_shiftByteOnce {p} (hp : p ∈ shiftByteOnce) (e s) : exec (p.2 e) s = act (shiftOnce byteOp p.1 e) s := by
  fin_cases hp <;> rfl
theorem exec_shiftByteCl {p} (hp : p ∈ shiftByteCl) (e s) : exec (p.2 e) s = act (shiftByCl byteOp p.1 e) s := by
  fin_cases hp <;> rfl
theorem exec_shiftByteImm {p} (hp : p ∈ shiftByteImm) (e imm s) : exec (p.2 e imm) s = act (shiftByImm byteOp p.1 e imm) s := by
  fin_cases hp <;> rfl
theorem exec_shiftWordOnce {p} (hp : p ∈ shiftWordOnce) (e s) : exec (p.2 e) s = act (shiftOnce wordOp p.1 e) s := by
  fin_cases hp <;> rfl
theorem exec_shiftWordCl {p} (hp : p ∈ shiftWordCl) (e s) : exec (p.2 e) s = act (shiftByCl wordOp p.1 e) s := by
  fin_cases hp <;> rfl
theorem exec_shiftWordImm {p} (hp : p ∈ shiftWordImm) (e imm s) : exec (p.2 e imm) s = act (shiftByImm wordOp p.1 e imm) s := by
  fin_cases hp <;> rfl

section
variable {w : Nat} {ρ : Type} {z : Size w ρ} {op : ShiftOp} {d : Place ρ} {c : Nat} {i : Instr} {s t : State}

theorem shiftEnds_of_exec (hz : z.Lawful) (hi : exec i s = act (shiftPlace z.ops op d c) s) (hd : z.placeOk s d = true) :
    z.ShiftEnds op d c i s := by
  obtain ⟨a, s1, n, free, u, h1, hn, h2, hend⟩ := shiftPlace_ends hz op c hd
  exact ⟨a, s1, n, free, u, h1, hn, by rw [hi]; exact act_of_ok h2, hend⟩

theorem shiftFrame_of_exec (hz : z.Lawful) (hi : exec i s = act (shiftPlace z.ops op d c) s) (h : exec i s = .next t) :
    Quiet s t ∧ Frame s t (z.placeKeys s d) op.mask (z.placeBytes d) (z.placeBytes d) := by
  rw [hi, act_eq_next] at h
  exact shiftPlace_frame hz h

end

/-- Settles O5. -/
theorem shiftsAndRotates : Obligations.ShiftsAndRotates :=
  ⟨fun e s hd => ⟨fun _ hp => shiftEnds_of_exec byteSize_lawful ((exec_shiftByteOnce hp e s).trans (act_shiftOnce ..)) hd,
      fun _ hp => shiftEnds_of_exec byteSize_lawful ((exec_shiftByteCl hp e s).trans (act_shiftByCl ..)) hd,
      fun _ hp imm => shiftEnds_of_exec byteSize_lawful ((exec_shiftByteImm hp e imm s).trans (act_shiftByImm ..)) hd⟩,
    fun e s hd => ⟨fun _ hp => shiftEnds_of_exec wordSize_lawful ((exec_shiftWordOnce hp e s).trans (act_shiftOnce ..)) hd,
      fun _ hp => shiftEnds_of_exec wordSize_lawful ((exec_shiftWordCl hp e s).trans (act_shiftByCl ..)) hd,
      fun _ hp imm => shiftEnds_of_exec wordSize_lawful ((exec_shiftWordImm hp e imm s).trans (act_shiftByImm ..)) hd⟩⟩

/-! ### CLR1, SET1, NOT1 -/

/-- The operand with its bit `n` cleared, set or inverted. -/
def BitOp.onBit {w : Nat} (op : BitOp) (n : Nat) (a : BitVec w) : BitVec w :=
  match op with
  | .clear => putBit a n false
  | .set => putBit a n true
  | .invert => a ^^^ (1#w <<< n)

theorem getLsbD_onBit {w : Nat} (op : BitOp) (n : Nat) (a : BitVec w) {j : Nat} (hj : j < w) :
    (op.onBit n a).getLsbD j = if j = n then op.apply (a.getLsbD j) else a.getLsbD j := by
  cases op with
  | clear | set =>
    show (putBit a n _).getLsbD j = _
    rw [getLsbD_putBit _ _ _ _ hj]
    simp only [eq_comm (a := n)]
    rfl
  | invert =>
    have hbit : (1#w <<< n).getLsbD j = decide (j = n) := by
      have hput := getLsbD_putBit 0#w n j true hj
      simp only [putBit, if_true, BitVec.zero_or, BitVec.getLsbD_zero] at hput
      rw [hput]
      simp [eq_comm (a := n)]
    show (a ^^^ (1#w <<< n)).getLsbD j = _
    rw [BitVec.getLsbD_xor, hbit]
    by_cases h : j = n <;> simp [h, BitOp.apply]

theorem exec_bitByteCl {p} (hp : p ∈ bitByteCl) (e s) :
    exec (p.2 e) s = act (modifyRM byteOp e (p.1.onBit ((s.reg8 .cl).toNat % 8))) s := by
  fin_cases hp <;> rfl
theorem exec_bitByteImm {p} (hp : p ∈ bitByteImm) (e imm s) :
    exec (p.2 e imm) s = act (modifyRM byteOp e (p.1.onBit (imm.toNat % 8))) s := by
  fin_cases hp <;> rfl
theorem exec_bitWordCl {p} (hp : p ∈ bitWordCl) (e s) :
    exec (p.2 e) s = act (modifyRM wordOp e (p.1.onBit ((s.reg8 .cl).toNat % 16))) s := by
  fin_cases hp <;> rfl
theorem exec_bitWordImm {p} (hp : p ∈ bitWordImm) (e imm s) :
    exec (p.2 e imm) s = act (modifyRM wordOp e (p.1.onBit (imm.toNat % 16))) s := by
  fin_cases hp <;> rfl

theorem bitEnds_of_exec {w : Nat} {ρ : Type} {z : Size w ρ} {op : BitOp} {e : RM ρ} {n : Nat} {i : Instr} {s : State}
    (hz : z.Lawful) (hi : exec i s = act (modifyRM z.ops e (op.onBit n)) s) (hd : z.placeOk s (s.place e) = true) :
    z.BitEnds op (s.place e) n i s := by
  obtain ⟨a, s1, t, h1, h2, h3⟩ := modifyPlace_ends hz hd (op.onBit n)
  exact ⟨a, s1, op.onBit n a, t, h1, fun j hj => getLsbD_onBit op n a hj, h2, by rw [hi, act_modifyRM]; exact act_of_ok h3⟩

/-- Settles O6. -/
theorem bitInstructions : Obligations.BitInstructions :=
  ⟨fun e s hd => ⟨fun _ hp => bitEnds_of_exec byteSize_lawful (exec_bitByteCl hp e s) hd,
      fun _ hp imm => bitEnds_of_exec byteSize_lawful (exec_bitByteImm hp e imm s) hd⟩,
    fun e s hd => ⟨fun _ hp => bitEnds_of_exec wordSize_lawful (exec_bitWordCl hp e s) hd,
      fun _ hp imm => bitEnds_of_exec wordSize_lawful (exec_bitWordImm hp e imm s) hd⟩⟩

/-! ### TEST1 -/

section
variable {w : Nat} {ρ : Type} {z : Size w ρ} {e : RM ρ} {i : Instr} {s s1 t : State} {n : Nat}

theorem testBit_ends {a : BitVec w} (hi : exec i s = act (testBit z.ops e n) s)
    (h1 : readPlace z.ops (s.place e) s = .ok (a, s1)) : ∃ m free, s1.draws ≤ m ∧
      exec i s = .next ((s1.withDraws m).setStatus maskStatus (testBitStatus (!a.getLsbD n) free)) := by
  refine ⟨s1.draws + 1, Config.freeWord s1.draws, Nat.le_succ _, ?_⟩
  rw [hi, act_eq_next, testBit, M.bind_of_ok (show readRM z.ops e s = _ from h1)]
  rfl

theorem testBit_frame (hz : z.Lawful) (hi : exec i s = act (testBit z.ops e n) s) (h : exec i s = .next t) :
    Quiet s t ∧ Frame s t [] maskStatus (z.placeBytes (s.place e)) [] := by
  rw [hi, act_eq_next] at h
  obtain ⟨a, s1, h1, h⟩ := M.bind_ok.1 h
  cases h
  obtain ⟨r1, f1⟩ := readPlace_frame hz (show readPlace z.ops (s.place e) s = _ from h1)
  exact ⟨(r1.quiet.trans (quiet_withDraws _ _)).trans (quiet_setStatus _ _ _),
    ((f1.mono (by simp) (by simp) (by simp) (by simp)).trans ((frame_withDraws s1 _).mono (by simp) (by simp) (by simp) (by simp))).trans
      ((frame_setStatus _ _ _).mono (by simp) (by simp) (by simp) (by simp))⟩

end

section
variable (s : State)

theorem exec_test1EbCl (e : RM Reg8) : exec (.test1EbCl e) s = act (testBit byteOp e ((s.reg8 .cl).toNat % 8)) s :=
  show act (test1Cl byteOp e) s = _ from act_bind_reads _ _ _
theorem exec_test1EbImm3 (e : RM Reg8) (imm : Byte) :
    exec (.test1EbImm3 e imm) s = act (testBit byteOp e (imm.toNat % 8)) s := rfl
theorem exec_test1EwCl (e : RM Reg16) : exec (.test1EwCl e) s = act (testBit wordOp e ((s.reg8 .cl).toNat % 16)) s :=
  show act (test1Cl wordOp e) s = _ from act_bind_reads _ _ _
theorem exec_test1EwImm4 (e : RM Reg16) (imm : Byte) :
    exec (.test1EwImm4 e imm) s = act (testBit wordOp e (imm.toNat % 16)) s := rfl

end

/-- Settles O7. -/
theorem testBits : Obligations.TestBit := by
  refine ⟨fun e s hd => ?_, fun e s hd => ?_⟩
  · obtain ⟨a, s1, h1, -⟩ := readPlace_of_ok byteSize_lawful hd
    exact ⟨a, s1, h1, testBit_ends (exec_test1EbCl s e) h1, fun imm => testBit_ends (exec_test1EbImm3 s e imm) h1⟩
  · obtain ⟨a, s1, h1, -⟩ := readPlace_of_ok wordSize_lawful hd
    exact ⟨a, s1, h1, testBit_ends (exec_test1EwCl s e) h1, fun imm => testBit_ends (exec_test1EwImm4 s e imm) h1⟩

/-! ### What they leave unchanged -/

/-- Settles O8. -/
theorem modifyFrame : Obligations.ModifyFrame := by
  have hb := byteSize_lawful
  have hw := wordSize_lawful
  refine ⟨?_, ?_, ?_, fun e s t => modifyFrame_of_exec hb (exec_negEb s e), ?_,
    fun p hp e imm s t => shiftFrame_of_exec hb ((exec_shiftByteImm hp e imm s).trans (act_shiftByImm ..)),
    fun e s t => modifyFrame_of_exec hw (exec_negEw s e), ?_,
    fun p hp e imm s t => shiftFrame_of_exec hw ((exec_shiftWordImm hp e imm s).trans (act_shiftByImm ..)), ?_, ?_, ?_, ?_⟩
  · rintro r s t (h | h)
    · exact modifyFrame_of_exec hw (exec_incReg16 s r) h
    · exact modifyFrame_of_exec hw (exec_decReg16 s r) h
  · rintro e s t (h | h)
    · exact modifyFrame_of_exec hb (exec_incEb s e) h
    · exact modifyFrame_of_exec hb (exec_decEb s e) h
  · rintro e s t (h | h)
    · exact modifyFrame_of_exec hw (exec_incEw s e) h
    · exact modifyFrame_of_exec hw (exec_decEw s e) h
  · intro p hp e s t h
    rcases List.mem_append.1 hp with hp | hp
    · exact shiftFrame_of_exec hb ((exec_shiftByteOnce hp e s).trans (act_shiftOnce ..)) h
    · exact shiftFrame_of_exec hb ((exec_shiftByteCl hp e s).trans (act_shiftByCl ..)) h
  · intro p hp e s t h
    rcases List.mem_append.1 hp with hp | hp
    · exact shiftFrame_of_exec hw ((exec_shiftWordOnce hp e s).trans (act_shiftOnce ..)) h
    · exact shiftFrame_of_exec hw ((exec_shiftWordCl hp e s).trans (act_shiftByCl ..)) h
  · rintro e s t (h | ⟨p, hp, h⟩ | ⟨p, hp, imm, h⟩)
    · exact modifyFrame_of_modifyRM hb (exec_notEb s e) h
    · exact modifyFrame_of_modifyRM hb (exec_bitByteCl hp e s) h
    · exact modifyFrame_of_modifyRM hb (exec_bitByteImm hp e imm s) h
  · rintro e s t (h | ⟨p, hp, h⟩ | ⟨p, hp, imm, h⟩)
    · exact modifyFrame_of_modifyRM hw (exec_notEw s e) h
    · exact modifyFrame_of_modifyRM hw (exec_bitWordCl hp e s) h
    · exact modifyFrame_of_modifyRM hw (exec_bitWordImm hp e imm s) h
  · rintro e s t (h | ⟨imm, h⟩)
    · exact testBit_frame hb (exec_test1EbCl s e) h
    · exact testBit_frame hb (exec_test1EbImm3 s e imm) h
  · rintro e s t (h | ⟨imm, h⟩)
    · exact testBit_frame hw (exec_test1EwCl s e) h
    · exact testBit_frame hw (exec_test1EwImm4 s e imm) h

end Sys2Proof.Machine


namespace Sys2Proof.Machine

-- Declarations are checked one after another, which keeps the memory of a compile bounded.
set_option Elab.async false

/-! ## Data transfer (O9 to O12) -/

/-! ### Frames of two parts -/

section
variable {s t u : State} {regs r1 r2 : List Nat} {mask m1 m2 : Word} {loaded l1 l2 stored s1 s2 : List PhysAddr}

/-- Two parts, each with a frame of its own inside the whole one. -/
theorem Frame.then (h : Frame s t r1 m1 l1 s1) (g : Frame t u r2 m2 l2 s2) (hr1 : r1 ⊆ regs := by simp)
    (hr2 : r2 ⊆ regs := by simp) (hm1 : m1 &&& mask = m1 := by simp) (hm2 : m2 &&& mask = m2 := by simp)
    (hl1 : l1 ⊆ loaded := by simp) (hl2 : l2 ⊆ loaded := by simp) (hs1 : s1 ⊆ stored := by simp)
    (hs2 : s2 ⊆ stored := by simp) : Frame s u regs mask loaded stored :=
  (h.mono hr1 hm1 hl1 hs1).trans (g.mono hr2 hm2 hl2 hs2)

/-- A frame that does not name the bank field keeps the bank: no store reaches it. -/
theorem Frame.bank (h : Frame s t regs mask loaded stored) (hm : mask &&& 0x7000 = 0) : t.bank = s.bank := by
  apply BitVec.eq_of_getLsbD_eq
  intro i hi
  have h7 : ∀ j : Fin 3, (0x7000 : Word).getLsbD (12 + j.val) = true := by decide
  have hbit : mask.getLsbD (12 + i) = false := by
    have hand : (mask &&& 0x7000).getLsbD (12 + i) = false := by rw [hm]; exact BitVec.getLsbD_zero
    rwa [BitVec.getLsbD_and, h7 ⟨i, hi⟩, Bool.and_true] at hand
  simp only [State.bank, bankOf, BitVec.getLsbD_extractLsb', hi, decide_true, Bool.true_and]
  exact h.psw (12 + i) (by omega) hbit (by omega)

end

/-! ### Storing to an operand, loading a register from one -/

section
variable {w : Nat} {ρ : Type} {z : Size w ρ} {d : Place ρ} {i : Instr} {s t : State} {r : ρ}

theorem writeEnds_of_exec {v : BitVec w} (hz : z.Lawful) (hi : exec i s = act (writePlace z.ops d v) s)
    (hd : z.placeOk s d = true) : ∃ t, writePlace z.ops d v s = .ok ((), t) ∧ exec i s = .next t := by
  obtain ⟨t, ht⟩ := writePlace_of_ok hz hd v
  exact ⟨t, ht, by rw [hi]; exact act_of_ok ht⟩

theorem writeFrame_of_exec {v : BitVec w} (hz : z.Lawful) (hi : exec i s = act (writePlace z.ops d v) s)
    (h : exec i s = .next t) : Quiet s t ∧ Frame s t (z.placeKeys s d) 0 [] (z.placeBytes d) :=
  writePlace_frame hz (act_eq_next.1 (hi.symm.trans h))

/-- A register loaded from a place. -/
def loadPlace (k : Width w ρ) (r : ρ) (d : Place ρ) : M Unit := do
  let v ← readPlace k d
  setReg k r v

theorem loadEnds_of_exec (hz : z.Lawful) (hi : exec i s = act (loadPlace z.ops r d) s) (hd : z.placeOk s d = true) :
    ∃ v s1, readPlace z.ops d s = .ok (v, s1) ∧ exec i s = .next (z.ops.setReg s1 r v) := by
  obtain ⟨v, s1, h1, -⟩ := readPlace_of_ok hz hd
  exact ⟨v, s1, h1, by rw [hi, act_eq_next, loadPlace, M.bind_of_ok h1]; rfl⟩

theorem loadFrame_of_exec (hz : z.Lawful) (hi : exec i s = act (loadPlace z.ops r d) s) (h : exec i s = .next t) :
    Quiet s t ∧ Frame s t (z.keys s r) 0 (z.placeBytes d) [] := by
  rw [hi, act_eq_next] at h
  obtain ⟨v, s1, h1, h⟩ := M.bind_ok.1 h
  cases h
  obtain ⟨r1, f1⟩ := readPlace_frame hz h1
  have f2 := hz.setReg_frame s1 r v
  rw [hz.keys_bank r1.bank] at f2
  exact ⟨r1.quiet.trans (hz.setReg_quiet s1 r v), f1.then f2⟩

/-- XCH of a place and a register. -/
def xchPlace (k : Width w ρ) (d : Place ρ) (r : ρ) : M Unit := do
  let a ← readPlace k d
  let v ← getReg k r
  writePlace k d v
  setReg k r a

theorem xchEnds_of_exec (hz : z.Lawful) (hi : exec i s = act (xchPlace z.ops d r) s) (hd : z.placeOk s d = true) :
    ∃ a s1 u, readPlace z.ops d s = .ok (a, s1) ∧ writePlace z.ops d (z.ops.getReg s r) s1 = .ok ((), u) ∧
      exec i s = .next (z.ops.setReg u r a) := by
  obtain ⟨a, s1, h1, hr⟩ := readPlace_of_ok hz hd
  obtain ⟨u, hu⟩ := writePlace_of_ok hz (by rw [SameMap.placeOk hz hr.sameMap d, hd]) (z.ops.getReg s r)
  refine ⟨a, s1, u, h1, hu, ?_⟩
  rw [← hz.getReg_readOnly hr] at hu
  rw [hi, act_eq_next, xchPlace, M.bind_of_ok h1, getReg, M.bind_reads, M.bind_of_ok hu]
  rfl

theorem xchFrame_of_exec (hz : z.Lawful) (hi : exec i s = act (xchPlace z.ops d r) s) (h : exec i s = .next t) :
    Quiet s t ∧ Frame s t (z.placeKeys s d ++ z.keys s r) 0 (z.placeBytes d) (z.placeBytes d) := by
  rw [hi, act_eq_next] at h
  obtain ⟨a, s1, h1, h⟩ := M.bind_ok.1 h
  rw [getReg, M.bind_reads] at h
  obtain ⟨_, u, h2, h⟩ := M.bind_ok.1 h
  cases h
  obtain ⟨q, f⟩ := frame_of_parts hz (mask := 0) (readPlace_frame hz h1) (.refl s1 _ _ _ _) (.refl s1) rfl h2
  have f2 := hz.setReg_frame u r a
  rw [hz.keys_bank (f.bank (by decide))] at f2
  exact ⟨q.trans (hz.setReg_quiet u r a), f.then f2⟩

theorem act_writeRM (k : Width w ρ) (e : RM ρ) (v : BitVec w) (s : State) :
    act (writeRM k e v) s = act (writePlace k (s.place e) v) s := act_bind_reads _ _ _

theorem act_movRmReg (k : Width w ρ) (e : RM ρ) (r : ρ) (s : State) :
    act (movRmReg k e r) s = act (writePlace k (s.place e) (k.getReg s r)) s :=
  (act_bind_reads _ _ _).trans (act_bind_reads _ _ _)

theorem act_movRegRm (k : Width w ρ) (r : ρ) (e : RM ρ) (s : State) :
    act (movRegRm k r e) s = act (loadPlace k r (s.place e)) s := rfl

theorem act_loadDirect (k : Width w ρ) (addr : Word) (s : State) :
    act (loadDirect k addr) s = act (loadPlace k k.acc (.mem (s.segValue .ds0) addr)) s := act_bind_reads _ _ _

theorem act_storeDirect (k : Width w ρ) (addr : Word) (s : State) :
    act (storeDirect k addr) s = act (writePlace k (.mem (s.segValue .ds0) addr) (k.getReg s k.acc)) s :=
  (act_bind_reads _ _ _).trans (act_bind_reads _ _ _)

theorem act_xchRm (k : Width w ρ) (e : RM ρ) (r : ρ) (s : State) :
    act (xchRm k e r) s = act (xchPlace k (s.place e) r) s := act_bind_reads _ _ _

end

/-! ### The instructions as these shapes -/

section
variable (s : State)

theorem exec_movEbRb (e : RM Reg8) (r : Reg8) : exec (.movEbRb e r) s = act (writePlace byteOp (s.place e) (s.reg8 r)) s :=
  act_movRmReg byteOp e r s
theorem exec_movEwRw (e : RM Reg16) (r : Reg16) : exec (.movEwRw e r) s = act (writePlace wordOp (s.place e) (s.reg16 r)) s :=
  act_movRmReg wordOp e r s
theorem exec_movEbImm8 (e : RM Reg8) (imm : Byte) : exec (.movEbImm8 e imm) s = act (writePlace byteOp (s.place e) imm) s :=
  act_writeRM byteOp e imm s
theorem exec_movEwImm16 (e : RM Reg16) (imm : Word) : exec (.movEwImm16 e imm) s = act (writePlace wordOp (s.place e) imm) s :=
  act_writeRM wordOp e imm s
theorem exec_movEwSreg (e : RM Reg16) (sr : SReg) :
    exec (.movEwSreg e sr) s = act (writePlace wordOp (s.place e) (s.sreg sr)) s :=
  (act_bind_reads _ _ _).trans (act_writeRM wordOp e (s.sreg sr) s)
theorem exec_movRbEb (r : Reg8) (e : RM Reg8) : exec (.movRbEb r e) s = act (loadPlace byteOp r (s.place e)) s :=
  act_movRegRm byteOp r e s
theorem exec_movRwEw (r : Reg16) (e : RM Reg16) : exec (.movRwEw r e) s = act (loadPlace wordOp r (s.place e)) s :=
  act_movRegRm wordOp r e s
theorem exec_movAlMem (addr : Word) :
    exec (.movAlMem addr) s = act (loadPlace byteOp .al (.mem (s.segValue .ds0) addr)) s := act_loadDirect byteOp addr s
theorem exec_movAwMem (addr : Word) :
    exec (.movAwMem addr) s = act (loadPlace wordOp .aw (.mem (s.segValue .ds0) addr)) s := act_loadDirect wordOp addr s
theorem exec_movMemAl (addr : Word) :
    exec (.movMemAl addr) s = act (writePlace byteOp (.mem (s.segValue .ds0) addr) (s.reg8 .al)) s :=
  act_storeDirect byteOp addr s
theorem exec_movMemAw (addr : Word) :
    exec (.movMemAw addr) s = act (writePlace wordOp (.mem (s.segValue .ds0) addr) (s.reg16 .aw)) s :=
  act_storeDirect wordOp addr s
theorem exec_xchEbRb (e : RM Reg8) (r : Reg8) : exec (.xchEbRb e r) s = act (xchPlace byteOp (s.place e) r) s :=
  act_xchRm byteOp e r s
theorem exec_xchEwRw (e : RM Reg16) (r : Reg16) : exec (.xchEwRw e r) s = act (xchPlace wordOp (s.place e) r) s :=
  act_xchRm wordOp e r s
theorem exec_xchAwReg16 (r : Reg16) : exec (.xchAwReg16 r) s = act (xchPlace wordOp (.reg .aw) r) s :=
  act_xchRm wordOp (.reg .aw) r s
theorem exec_trans : exec .trans s =
    act (loadPlace byteOp .al (.mem (s.segValue .ds0) (s.reg16 .bw + (s.reg8 .al).setWidth 16))) s :=
  (act_bind_reads _ _ _).trans (act_bind_reads _ _ _)
theorem exec_ldea (r : Reg16) (m : MemOp) : exec (.ldea r m) s = .next (s.setReg16 r (s.ea m)) := rfl
theorem exec_movReg8Imm8 (r : Reg8) (imm : Byte) : exec (.movReg8Imm8 r imm) s = .next (s.setReg8 r imm) := rfl
theorem exec_movReg16Imm16 (r : Reg16) (imm : Word) : exec (.movReg16Imm16 r imm) s = .next (s.setReg16 r imm) := rfl
theorem exec_movAhPsw : exec .movAhPsw s = .next (s.setReg8 .ah (s.psw.extractLsb' 0 8)) := rfl
theorem exec_movPswAh : exec .movPswAh s = .next (s.withPsw (s.psw.extractLsb' 8 8 ++ s.reg8 .ah)) := rfl

end

/-- Settles O9. -/
theorem moves : Obligations.Moves := by
  have hb := byteSize_lawful
  have hw := wordSize_lawful
  refine ⟨fun e s hd => ⟨fun r => writeEnds_of_exec hb (exec_movEbRb s e r) hd, fun imm => writeEnds_of_exec hb (exec_movEbImm8 s e imm) hd,
      fun r => loadEnds_of_exec hb (exec_movRbEb s r e) hd⟩,
    fun e s hd => ⟨fun r => writeEnds_of_exec hw (exec_movEwRw s e r) hd, fun imm => writeEnds_of_exec hw (exec_movEwImm16 s e imm) hd,
      fun sr => writeEnds_of_exec hw (exec_movEwSreg s e sr) hd, fun r => loadEnds_of_exec hw (exec_movRwEw s r e) hd⟩,
    fun r imm s => exec_movReg8Imm8 s r imm, fun r imm s => exec_movReg16Imm16 s r imm,
    fun addr s hd => ⟨loadEnds_of_exec hb (exec_movAlMem s addr) hd, writeEnds_of_exec hb (exec_movMemAl s addr) hd⟩,
    fun addr s hd => ⟨loadEnds_of_exec hw (exec_movAwMem s addr) hd, writeEnds_of_exec hw (exec_movMemAw s addr) hd⟩⟩

/-! ### MOV sreg and the far pointer loads -/

theorem act_loadFar (sr : SReg) (r : Reg16) (m : MemOp) (s : State) : act (loadFar sr r m) s =
    act (readPair (s.memSeg m) (s.ea m) >>= fun p => update fun s => (s.setReg16 r p.1).setSreg sr p.2) s :=
  (act_bind_reads _ _ _).trans (act_bind_reads _ _ _)

theorem loadFar_ends {sr : SReg} {r : Reg16} {m : MemOp} {s s1 : State} {p : Word × Word}
    (h : readPair (s.memSeg m) (s.ea m) s = .ok (p, s1)) :
    act (loadFar sr r m) s = .next ((s1.setReg16 r p.1).setSreg sr p.2) := by
  rw [act_loadFar, act_eq_next, M.bind_of_ok h]
  rfl

theorem act_of_refused {x : M Unit} {s : State} {r : Refusal} (h : x s = .error (.refused r)) : act x s = .refused r := by
  simp [act, h]

theorem bind_of_error {α β : Type} {x : M α} {f : α → M β} {s : State} {e : Stop} (h : x s = .error e) :
    (x >>= f) s = .error e := by
  rw [M.bind_apply, h]

theorem loadFar_refused {sr : SReg} {r : Reg16} {m : MemOp} {s : State} (h : 0xFFFE ≤ (s.ea m).toNat) :
    act (loadFar sr r m) s = .refused .operandPastSegmentEnd := by
  rw [act_loadFar]
  exact act_of_refused (bind_of_error (readPair_refused h s))

theorem loadFar_frame {sr : SReg} {r : Reg16} {m : MemOp} {s t : State} (h : act (loadFar sr r m) s = .next t) :
    Quiet s t ∧ Frame s t (wordSize.keys s r ++ sregKeys s sr) 0
      (wordSize.span (phys (s.memSeg m) (s.ea m)) ++ wordSize.span (phys (s.memSeg m) (s.ea m + 2))) [] := by
  rw [act_loadFar, act_eq_next] at h
  obtain ⟨p, s1, h1, h⟩ := M.bind_ok.1 h
  cases h
  obtain ⟨r1, f1⟩ := readPair_frame h1
  have f2 : Frame s1 (s1.setReg16 r p.1) (wordSize.keys s r) 0 [] [] := by
    rw [← wordSize_lawful.keys_bank r1.bank]
    exact frame_setReg16 s1 r p.1
  have f3 : Frame (s1.setReg16 r p.1) ((s1.setReg16 r p.1).setSreg sr p.2) (sregKeys s sr) 0 [] [] := by
    have f := frame_setSreg (s1.setReg16 r p.1) sr p.2
    rwa [sregKeys, State.bank_setReg16, r1.bank] at f
  have f23 : Frame s1 ((s1.setReg16 r p.1).setSreg sr p.2) (wordSize.keys s r ++ sregKeys s sr) 0 [] [] := f2.then f3
  exact ⟨(r1.quiet.trans (quiet_setReg16 _ _ _)).trans (quiet_setSreg _ _ _), f1.then f23 (hl1 := List.Subset.refl _)⟩

/-- Settles O10. -/
theorem otherTransfers : Obligations.OtherTransfers := by
  refine ⟨fun sr e s hd => ?_, fun r m s hp => ?_, fun r m s h => ⟨loadFar_refused h, loadFar_refused h⟩,
    fun r m s => exec_ldea s r m, fun e r s hd => xchEnds_of_exec byteSize_lawful (exec_xchEbRb s e r) hd,
    fun e r s hd => xchEnds_of_exec wordSize_lawful (exec_xchEwRw s e r) hd, fun r s => ?_,
    fun s hd => loadEnds_of_exec byteSize_lawful (exec_trans s) hd⟩
  · obtain ⟨v, s1, h1, -⟩ := readPlace_of_ok wordSize_lawful hd
    exact ⟨v, s1, h1, act_of_ok (M.bind_of_ok (show readRM wordOp e s = _ from h1))⟩
  · obtain ⟨p, s1, h1, -⟩ := readPair_of_ok hp
    exact ⟨p, s1, h1, loadFar_ends h1, loadFar_ends h1⟩
  · rw [exec_xchAwReg16]; rfl

/-- Settles O11. -/
theorem movesOfPsw : Obligations.MovesOfPsw := by
  refine ⟨fun s => ⟨_, exec_movAhPsw s, State.reg8_setReg8_same _ _ _, rfl, rfl, rfl, quiet_setReg8 _ _ _, frame_setReg8 _ _ _⟩,
    fun s => ⟨_, exec_movPswAh s, ?_⟩⟩
  have low (f : Flag) (h : f.bit < 8) :
      (s.withPsw (s.psw.extractLsb' 8 8 ++ s.reg8 .ah)).flag f = (s.reg8 .ah).getLsbD f.bit :=
    (getLsbD_lowByte _ _ f.bit_lt).trans (if_pos h)
  refine ⟨low .s (by decide), low .z (by decide), low .f1 (by decide), low .ac (by decide), low .f0 (by decide), low .p (by decide),
    low .ibrk (by decide), low .cy (by decide), word_high _ _, rfl, rfl, ⟨rfl, rfl, rfl, rfl, rfl⟩, ?_⟩
  have hmask : ∀ i : Fin 16, (0x00FF : Word).getLsbD i.val = decide (i.val < 8) := by decide
  constructor <;> intros <;> try rfl
  next i hi hm _ =>
    have h8 : ¬ i < 8 := by
      have := hmask ⟨i, hi⟩
      rw [hm] at this
      simpa using this.symm
    exact (getLsbD_lowByte _ _ hi).trans (if_neg h8)

/-- Settles O12. -/
theorem transferFrame : Obligations.TransferFrame := by
  have hb := byteSize_lawful
  have hw := wordSize_lawful
  refine ⟨?_, ?_, fun r e s t => loadFrame_of_exec hb (exec_movRbEb s r e), fun r e s t => loadFrame_of_exec hw (exec_movRwEw s r e),
    ?_, ?_, fun addr s t => loadFrame_of_exec hb (exec_movAlMem s addr), fun addr s t => loadFrame_of_exec hw (exec_movAwMem s addr),
    fun addr s t => writeFrame_of_exec hb (exec_movMemAl s addr), fun addr s t => writeFrame_of_exec hw (exec_movMemAw s addr),
    ?_, fun r m s t => loadFar_frame, fun r m s t => loadFar_frame,
    fun e r s t => xchFrame_of_exec hb (exec_xchEbRb s e r), fun e r s t => xchFrame_of_exec hw (exec_xchEwRw s e r),
    fun r s t h => ?_, fun s t => loadFrame_of_exec hb (exec_trans s)⟩
  · rintro e s t (⟨r, h⟩ | ⟨imm, h⟩)
    · exact writeFrame_of_exec hb (exec_movEbRb s e r) h
    · exact writeFrame_of_exec hb (exec_movEbImm8 s e imm) h
  · rintro e s t (⟨r, h⟩ | ⟨imm, h⟩ | ⟨sr, h⟩)
    · exact writeFrame_of_exec hw (exec_movEwRw s e r) h
    · exact writeFrame_of_exec hw (exec_movEwImm16 s e imm) h
    · exact writeFrame_of_exec hw (exec_movEwSreg s e sr) h
  · rintro r s t ⟨imm, h⟩
    cases h
    exact ⟨quiet_setReg8 _ _ _, frame_setReg8 _ _ _⟩
  · rintro r s t (⟨imm, h⟩ | ⟨m, h⟩) <;> cases h <;> exact ⟨quiet_setReg16 _ _ _, frame_setReg16 _ _ _⟩
  · intro sr e s t h
    obtain ⟨v, s1, h1, h⟩ := M.bind_ok.1 (act_eq_next.1 h)
    cases h
    obtain ⟨r1, f1⟩ := readPlace_frame hw (show readPlace wordOp (s.place e) s = _ from h1)
    have f2 : Frame s1 (s1.setSreg sr v) (sregKeys s sr) 0 [] [] := by
      have f := frame_setSreg s1 sr v
      rwa [sregKeys, r1.bank] at f
    have f3 : Frame (s1.setSreg sr v) (s1.setSreg sr v).protectBoundary [] 0 [] [] := by
      constructor <;> intros <;> rfl
    have f23 : Frame s1 (s1.setSreg sr v).protectBoundary (sregKeys s sr) 0 [] [] := f2.then f3
    exact ⟨r1.quiet.run, r1.quiet.pre, r1.quiet.resume, f1.then f23⟩
  · obtain ⟨hq, hf⟩ := xchFrame_of_exec hw (exec_xchAwReg16 s r) h
    exact ⟨hq, hf⟩

end Sys2Proof.Machine


namespace Sys2Proof.Machine

-- Declarations are checked one after another, which keeps the memory of a compile bounded.
set_option Elab.async false

/-! ## Taking an exception (O42, and what the other entries share) -/

/-! ### Changes of PSW flags -/

theorem State.reg16_withPsw {s : State} {v : Word} (h : bankOf v = s.bank) (r : Reg16) : (s.withPsw v).reg16 r = s.reg16 r := by
  show State.bankWord _ (bankOf v) _ = _
  rw [h]; rfl

theorem State.reg8_withPsw {s : State} {v : Word} (h : bankOf v = s.bank) (r : Reg8) : (s.withPsw v).reg8 r = s.reg8 r := by
  show State.bankByte _ (bankOf v) _ = _
  rw [h]; rfl

theorem State.sreg_withPsw {s : State} {v : Word} (h : bankOf v = s.bank) (r : SReg) : (s.withPsw v).sreg r = s.sreg r := by
  show State.bankWord _ (bankOf v) _ = _
  rw [h]; rfl

theorem State.bank_clearIeBrk (s : State) : s.clearIeBrk.bank = s.bank := by
  unfold State.clearIeBrk
  rw [bank_setFlag, bank_setFlag]

theorem State.reg16_clearIeBrk (s : State) (r : Reg16) : s.clearIeBrk.reg16 r = s.reg16 r :=
  State.reg16_withPsw (s := s) s.bank_clearIeBrk r

theorem State.sreg_clearIeBrk (s : State) (r : SReg) : s.clearIeBrk.sreg r = s.sreg r :=
  State.sreg_withPsw (s := s) s.bank_clearIeBrk r

theorem frame_clearIeBrk (s : State) : Frame s s.clearIeBrk [] 0x0300 [] [] := by
  constructor <;> intros <;> try rfl
  next i hi hm _ =>
    have hmask : ∀ j : Fin 16, (0x0300 : Word).getLsbD j.val = false → 9 ≠ j.val ∧ 8 ≠ j.val := by decide
    obtain ⟨h9, h8⟩ := hmask ⟨i, hi⟩ hm
    show (putBit (putBit s.psw 9 false) 8 false).getLsbD i = _
    rw [getLsbD_putBit _ _ _ _ hi, getLsbD_putBit _ _ _ _ hi, if_neg h8, if_neg h9]

theorem sameMap_clearIeBrk (s : State) : SameMap s s.clearIeBrk := ⟨rfl, rfl, rfl⟩

/-! ### The entry -/

theorem State.pushBytes_three (s : State) : s.pushBytes 3 =
    [s.below 2, s.below 2 + 1, s.below 4, s.below 4 + 1, s.below 6, s.below 6 + 1] := rfl

/-- What the three pushes of an entry leave, IE and BRK cleared after the first. -/
structure Saved (ret : Word) (s u : State) : Prop where
  savedPsw : u.extWord (s.below 2) = s.psw
  savedPs : u.extWord (s.below 4) = s.sreg .ps
  savedPc : u.extWord (s.below 6) = ret
  sp : u.reg16 .sp = s.reg16 .sp - 6
  sreg : ∀ r, u.sreg r = s.sreg r
  psw : u.psw = withFlag (withFlag s.psw .ie false) .brk false
  bank : u.bank = s.bank
  sameMap : SameMap s u
  events : u.events = s.events
  frame : Frame s u (bankKeys s.bank (offReg16 .sp)) 0x0300 [] (s.pushBytes 3)

/-- A push in a chain changes SP and the bytes of its word. -/
theorem push16_chain_frame {s u t : State} {k : Nat} {v : Word} (hb : u.bank = s.bank) (hss : u.sreg .ss = s.sreg .ss)
    (hsp : u.reg16 .sp = s.reg16 .sp - BitVec.ofNat 16 k) (h : push16 v u = .ok ((), t)) :
    Frame u t (bankKeys s.bank (offReg16 .sp)) 0 [] [s.below (k + 2), s.below (k + 2) + 1] := by
  obtain ⟨-, f⟩ := push16_frame h
  rwa [hb, State.below_lowered hss hsp 2] at f

/-- A push on plain RAM is no event. -/
theorem push16_chain_events {s u t : State} {k : Nat} {v : Word} (m : SameMap s u) (hss : u.sreg .ss = s.sreg .ss)
    (hsp : u.reg16 .sp = s.reg16 .sp - BitVec.ofNat 16 k) (hr : s.ramWordAt (s.below (k + 2)) = true)
    (h : push16 v u = .ok ((), t)) : t.events = u.events := by
  have hram := push16_ram (s := u) (by rw [State.below_lowered hss hsp 2, m.ramWordAt]; exact hr) v
  rw [h] at hram
  cases hram
  rfl

theorem raise_saves {s : State} (h : s.roomFor 3 = true) (v : Byte) (ret : Word) : ∃ u, Saved ret s u ∧
    raise v ret s = (readWord (vectorAddr v) >>= fun o => readWord (vectorAddr v + 2) >>= fun p =>
      update fun s => ((s.setSreg .ps p).loadPc o).entered) u := by
  obtain ⟨t1, p1, m1, psw1, bank1, -, sreg1, -, sp1, w1, -⟩ :=
    push16_chain (s := s) (u := s) (k := 0) (by decide) (.refl s) rfl (by simp) (s.roomFor_get h (i := 0) (by decide)) s.psw
  have f1 := push16_chain_frame (s := s) (k := 0) rfl rfl (by simp) p1
  have ev1 := push16_chain_events (s := s) (k := 0) (.refl s) rfl (by simp) (s.roomFor_get h (i := 0) (by decide)) p1
  have hss1 : t1.clearIeBrk.sreg .ss = s.sreg .ss := by rw [State.sreg_clearIeBrk, sreg1]
  have hps1 : t1.clearIeBrk.sreg .ps = s.sreg .ps := by rw [State.sreg_clearIeBrk, sreg1]
  have hsp1 : t1.clearIeBrk.reg16 .sp = s.reg16 .sp - BitVec.ofNat 16 2 := by rw [State.reg16_clearIeBrk, sp1]
  have hb1 : t1.clearIeBrk.bank = s.bank := by rw [State.bank_clearIeBrk, bank1]
  obtain ⟨t2, p2, m2, psw2, bank2, -, sreg2, -, sp2, w2, keep2⟩ := push16_chain (s := s) (u := t1.clearIeBrk) (k := 2)
    (by decide) (m1.trans (sameMap_clearIeBrk t1)) hss1 hsp1 (s.roomFor_get h (i := 1) (by decide)) (s.sreg .ps)
  have f2 := push16_chain_frame hb1 hss1 hsp1 p2
  have ev2 := push16_chain_events (m1.trans (sameMap_clearIeBrk t1)) hss1 hsp1 (s.roomFor_get h (i := 1) (by decide)) p2
  have hss2 : t2.sreg .ss = s.sreg .ss := by rw [sreg2, hss1]
  have hb2 : t2.bank = s.bank := by rw [bank2, hb1]
  obtain ⟨t3, p3, m3, psw3, bank3, -, sreg3, -, sp3, w3, keep3⟩ := push16_chain (s := s) (u := t2) (k := 4)
    (by decide) m2 hss2 sp2 (s.roomFor_get h (i := 2) (by decide)) ret
  have f3 := push16_chain_frame hb2 hss2 sp2 p3
  have ev3 := push16_chain_events m2 hss2 sp2 (s.roomFor_get h (i := 2) (by decide)) p3
  refine ⟨t3, ⟨?_, ?_, w3, sp3, fun r => by rw [sreg3, sreg2, State.sreg_clearIeBrk, sreg1], ?_,
    bank3.trans hb2, m3, ev3.trans (ev2.trans ev1), ?_⟩, ?_⟩
  · rw [keep3 2 (by decide) (by decide), keep2 2 (by decide) (by decide)]
    exact w1
  · rw [keep3 4 (by decide) (by decide)]
    exact w2
  · rw [psw3, psw2]
    show withFlag (withFlag t1.psw .ie false) .brk false = _
    rw [psw1]
  · rw [State.pushBytes_three]
    have f12 : Frame s t1.clearIeBrk (bankKeys s.bank (offReg16 .sp)) 0x0300 [] [s.below 2, s.below 2 + 1] :=
      f1.then (frame_clearIeBrk t1)
    have f23 : Frame t1.clearIeBrk t3 (bankKeys s.bank (offReg16 .sp)) 0 []
      [s.below 4, s.below 4 + 1, s.below 6, s.below 6 + 1] := f2.then f3
    exact f12.then f23
  · unfold raise
    rw [M.bind_reads, M.bind_of_ok p1, M.bind_update, M.bind_reads, hps1, M.bind_of_ok p2, M.bind_of_ok p3]
    rfl

/-- The entry on plain memory: the pushes, then PC and PS loaded from the vector. -/
theorem raise_completes {v : Byte} {s : State} (h : s.entryOk v = true) (ret : Word) : ∃ u, Saved ret s u ∧ raise v ret s =
    .ok ((), ((u.setSreg .ps (u.extWord (vectorAddr v + 2))).loadPc (u.extWord (vectorAddr v))).entered) := by
  simp only [State.entryOk, Bool.and_eq_true] at h
  obtain ⟨⟨hroom, hvec⟩, hvec2⟩ := h
  obtain ⟨u, saved, hr⟩ := raise_saves hroom v ret
  rw [← saved.sameMap.memWordAt] at hvec hvec2
  refine ⟨u, saved, ?_⟩
  rw [hr, M.bind_of_ok (readWord_mem hvec), M.bind_of_ok (readWord_mem hvec2)]
  rfl

/-- Settles O42. -/
theorem vectoredEntry : Obligations.VectoredEntry := by
  intro v ret s h
  obtain ⟨u, saved, hr⟩ := raise_completes h ret
  refine ⟨_, hr,
    { savedPsw := saved.savedPsw, savedPs := saved.savedPs, savedPc := saved.savedPc, sp := ?_, psw := saved.psw, pc := rfl,
      ps := ?_, queue := rfl, run := rfl, resume := rfl, trace := rfl, frame := ?_ }⟩
  · exact (State.reg16_setSreg u .ps .sp _).trans saved.sp
  · exact State.sreg_setSreg_same u .ps _
  · have f2 : Frame u (u.setSreg .ps (u.extWord (vectorAddr v + 2))) (sregKeys s .ps) 0 [] [] := by
      have f := frame_setSreg u .ps (u.extWord (vectorAddr v + 2))
      rwa [sregKeys, saved.bank] at f
    have f12 : Frame s (u.setSreg .ps (u.extWord (vectorAddr v + 2))) (bankKeys s.bank (offReg16 .sp) ++ sregKeys s .ps) 0x0300 []
      (s.pushBytes 3) := saved.frame.then f2
    refine f12.trans ?_
    constructor <;> intros <;> rfl

/-- An instruction that raises an interrupt enters its vector. -/
theorem entered_of_exec {i : Instr} {s u : State} {v : Byte} {ret : Word} (hi : exec i s = act (raise v ret) u)
    (h : u.entryOk v = true) : ∃ t, exec i s = .next t ∧ Entered v ret u t := by
  obtain ⟨t, ht, he⟩ := vectoredEntry v ret u h
  exact ⟨t, by rw [hi]; exact act_of_ok ht, he⟩

/-- Whether an entry completes depends on the map, SS and SP. -/
theorem entryOk_congr {s t : State} (m : SameMap s t) (hss : t.sreg .ss = s.sreg .ss) (hsp : t.reg16 .sp = s.reg16 .sp)
    (v : Byte) : t.entryOk v = s.entryOk v := by
  have hb (k : Nat) : t.below k = s.below k := by rw [State.below, hss, hsp, State.below]
  simp only [State.entryOk, State.roomFor, m.memWordAt, hb, m.ramWordAt]

theorem ReadOnly.entryOk {s t : State} (h : ReadOnly s t) (v : Byte) : t.entryOk v = s.entryOk v :=
  entryOk_congr h.sameMap (h.sreg .ss) (h.reg16 .sp) v

end Sys2Proof.Machine


namespace Sys2Proof.Machine

-- Declarations are checked one after another, which keeps the memory of a compile bounded.
set_option Elab.async false

/-! ## Multiplication, division, the digit rotates (O13 to O15, O19, O20) -/

/-! ### Products of words as products of numbers -/

theorem setWidth_mul_setWidth {w : Nat} (v : Nat) (a b : BitVec w) :
    a.setWidth v * b.setWidth v = BitVec.ofNat v (a.toNat * b.toNat) := by
  rw [BitVec.ofNat_mul, BitVec.ofNat_toNat, BitVec.ofNat_toNat]

theorem signExtend_mul_signExtend {w : Nat} (v : Nat) (a b : BitVec w) :
    a.signExtend v * b.signExtend v = BitVec.ofInt v (a.toInt * b.toInt) := by
  rw [BitVec.ofInt_mul]
  rfl

theorem mul_bounds {x y n : Int} (hx : -n ≤ x ∧ x ≤ n) (hy : -n ≤ y ∧ y ≤ n) : -(n * n) ≤ x * y ∧ x * y ≤ n * n := by
  have hn : 0 ≤ n := (abs_nonneg x).trans (abs_le.2 hx)
  exact abs_le.1 (by rw [abs_mul]; exact mul_le_mul (abs_le.2 hx) (abs_le.2 hy) (abs_nonneg _) hn)

/-- The low half of a number, at any width. -/
theorem extractLsb'_zero_ofInt {v w : Nat} (h : w ≤ v) (p : Int) : (BitVec.ofInt v p).extractLsb' 0 w = BitVec.ofInt w p := by
  have hdvd : ((2 ^ w : Nat) : Int) ∣ ((2 ^ v : Nat) : Int) := Int.natCast_dvd_natCast.2 (Nat.pow_dvd_pow 2 h)
  have hpos : (0 : Int) < ((2 ^ v : Nat) : Int) := by exact_mod_cast Nat.two_pow_pos v
  apply BitVec.eq_of_toNat_eq
  rw [BitVec.extractLsb'_toNat, BitVec.toNat_ofInt, BitVec.toNat_ofInt, Nat.shiftRight_zero]
  have hcast : (((p % ((2 ^ v : Nat) : Int)).toNat % 2 ^ w : Nat) : Int) = p % ((2 ^ w : Nat) : Int) := by
    rw [Int.natCast_emod, Int.toNat_of_nonneg (Int.emod_nonneg _ hpos.ne'), Int.emod_emod_of_dvd _ hdvd]
  rw [← hcast, Int.toNat_natCast]

theorem mulUnsigned8_eq (a b : Byte) :
    mulUnsigned8 a b = (BitVec.ofNat 16 (a.toNat * b.toNat), decide (0xFF < a.toNat * b.toNat)) := by
  have hp : a.toNat * b.toNat ≤ 255 * 255 := Nat.mul_le_mul (Nat.le_of_lt_succ a.isLt) (Nat.le_of_lt_succ b.isLt)
  unfold mulUnsigned8
  simp only [setWidth_mul_setWidth]
  generalize a.toNat * b.toNat = p at hp
  congr 1
  rw [Bool.eq_iff_iff, bne_iff_ne, ne_eq, ← BitVec.toNat_inj, BitVec.extractLsb'_toNat, BitVec.toNat_ofNat, decide_eq_true_eq,
    Nat.shiftRight_eq_div_pow]
  simp only [BitVec.ofNat_eq_ofNat, BitVec.toNat_ofNat]
  omega

theorem mulUnsigned16_eq (a b : Word) :
    mulUnsigned16 a b = (BitVec.ofNat 32 (a.toNat * b.toNat), decide (0xFFFF < a.toNat * b.toNat)) := by
  have hp : a.toNat * b.toNat ≤ 65535 * 65535 := Nat.mul_le_mul (Nat.le_of_lt_succ a.isLt) (Nat.le_of_lt_succ b.isLt)
  unfold mulUnsigned16
  simp only [setWidth_mul_setWidth]
  generalize a.toNat * b.toNat = p at hp
  congr 1
  rw [Bool.eq_iff_iff, bne_iff_ne, ne_eq, ← BitVec.toNat_inj, BitVec.extractLsb'_toNat, BitVec.toNat_ofNat, decide_eq_true_eq,
    Nat.shiftRight_eq_div_pow]
  simp only [BitVec.ofNat_eq_ofNat, BitVec.toNat_ofNat]
  omega

theorem mulSigned8_eq (a b : Byte) : mulSigned8 a b =
    (BitVec.ofInt 16 (a.toInt * b.toInt), decide (a.toInt * b.toInt < -128 ∨ 127 < a.toInt * b.toInt)) := by
  obtain ⟨hp1, hp2⟩ := mul_bounds (n := 128) ⟨a.le_toInt, a.toInt_lt.le⟩ ⟨b.le_toInt, b.toInt_lt.le⟩
  unfold mulSigned8
  simp only [signExtend_mul_signExtend]
  generalize a.toInt * b.toInt = p at hp1 hp2
  congr 1
  rw [extractLsb'_zero_ofInt (by decide), Bool.eq_iff_iff, bne_iff_ne, ne_eq, ← BitVec.toInt_inj, BitVec.toInt_signExtend_of_le (by decide),
    BitVec.toInt_ofInt, BitVec.toInt_ofInt, decide_eq_true_eq]
  simp only [Int.bmod_def]
  omega

theorem mulSigned16_eq (a b : Word) : mulSigned16 a b =
    (BitVec.ofInt 32 (a.toInt * b.toInt), decide (a.toInt * b.toInt < -32768 ∨ 32767 < a.toInt * b.toInt)) := by
  obtain ⟨hp1, hp2⟩ := mul_bounds (n := 32768) ⟨a.le_toInt, a.toInt_lt.le⟩ ⟨b.le_toInt, b.toInt_lt.le⟩
  unfold mulSigned16
  simp only [signExtend_mul_signExtend]
  generalize a.toInt * b.toInt = p at hp1 hp2
  congr 1
  rw [extractLsb'_zero_ofInt (by decide), Bool.eq_iff_iff, bne_iff_ne, ne_eq, ← BitVec.toInt_inj, BitVec.toInt_signExtend_of_le (by decide),
    BitVec.toInt_ofInt, BitVec.toInt_ofInt, decide_eq_true_eq]
  simp only [Int.bmod_def]
  omega

theorem highHalf_ofNat (p : Nat) : (BitVec.ofNat 32 p).extractLsb' 16 16 = BitVec.ofNat 16 (p / 0x10000) := by
  apply BitVec.eq_of_toNat_eq
  rw [BitVec.extractLsb'_toNat, BitVec.toNat_ofNat, BitVec.toNat_ofNat, Nat.shiftRight_eq_div_pow]
  omega

theorem lowHalf_ofNat (p : Nat) : (BitVec.ofNat 32 p).extractLsb' 0 16 = BitVec.ofNat 16 p := by
  apply BitVec.eq_of_toNat_eq
  rw [BitVec.extractLsb'_toNat, BitVec.toNat_ofNat, BitVec.toNat_ofNat, Nat.shiftRight_zero]
  omega

theorem highHalf_ofInt (p : Int) : (BitVec.ofInt 32 p).extractLsb' 16 16 = BitVec.ofInt 16 (p / 0x10000) := by
  apply BitVec.eq_of_toNat_eq
  rw [BitVec.extractLsb'_toNat, BitVec.toNat_ofInt, BitVec.toNat_ofInt, Nat.shiftRight_eq_div_pow]
  omega

/-! ### MULU and MUL -/

section
variable {s s1 : State}

theorem mulByte_ends {f : Byte → Byte → Word × Bool} {e : RM Reg8} {b : Byte} {i : Instr} (hi : exec i s = act (mulByte f e) s)
    (h1 : readPlace byteOp (s.place e) s = .ok (b, s1)) (hr : ReadOnly s s1) : ∃ n free, s1.draws ≤ n ∧
    exec i s = .next (((s1.withDraws n).setReg16 .aw (f (s.reg8 .al) b).1).setStatus maskStatus
      (mulStatus (f (s.reg8 .al) b).2 free)) := by
  refine ⟨s1.draws + 1, Config.freeWord s1.draws, Nat.le_succ _, ?_⟩
  rw [hi, act_eq_next, mulByte, M.bind_of_ok (show readRM byteOp e s = _ from h1), M.bind_reads, hr.reg8]
  rfl

theorem mulWord_ends {f : Word → Word → BitVec 32 × Bool} {e : RM Reg16} {b : Word} {i : Instr}
    (hi : exec i s = act (mulWord f e) s) (h1 : readPlace wordOp (s.place e) s = .ok (b, s1)) (hr : ReadOnly s s1) :
    ∃ n free, s1.draws ≤ n ∧
    exec i s = .next ((((s1.withDraws n).setReg16 .aw ((f (s.reg16 .aw) b).1.extractLsb' 0 16)).setReg16 .dw
      ((f (s.reg16 .aw) b).1.extractLsb' 16 16)).setStatus maskStatus (mulStatus (f (s.reg16 .aw) b).2 free)) := by
  refine ⟨s1.draws + 1, Config.freeWord s1.draws, Nat.le_succ _, ?_⟩
  rw [hi, act_eq_next, mulWord, M.bind_of_ok (show readRM wordOp e s = _ from h1), M.bind_reads, hr.reg16]
  rfl

theorem mulImm_ends {r : Reg16} {e : RM Reg16} {b imm : Word} {i : Instr} (hi : exec i s = act (mulImm r e imm) s)
    (h1 : readPlace wordOp (s.place e) s = .ok (b, s1)) : ∃ n free, s1.draws ≤ n ∧
    exec i s = .next (((s1.withDraws n).setReg16 r (BitVec.ofInt 16 (b.toInt * imm.toInt))).setStatus maskStatus
      (mulStatus (decide (b.toInt * imm.toInt < -32768 ∨ 32767 < b.toInt * imm.toInt)) free)) := by
  refine ⟨s1.draws + 1, Config.freeWord s1.draws, Nat.le_succ _, ?_⟩
  rw [hi, act_eq_next, mulImm, M.bind_of_ok (show readRM wordOp e s = _ from h1), mulSigned16_eq,
    extractLsb'_zero_ofInt (by decide)]
  rfl

end

theorem toInt_signExtend_byte (imm : Byte) : (imm.signExtend 16).toInt = imm.toInt :=
  BitVec.toInt_signExtend_of_le (by decide)

/-- Settles O13. -/
theorem multiply : Obligations.Multiply := by
  refine ⟨fun e s hd => ?_, fun e s hd => ?_⟩
  · obtain ⟨b, s1, h1, hr⟩ := readPlace_of_ok byteSize_lawful hd
    have hu := mulByte_ends (i := .muluEb e) rfl h1 hr
    have hs := mulByte_ends (i := .mulEb e) rfl h1 hr
    rw [mulUnsigned8_eq] at hu
    rw [mulSigned8_eq] at hs
    exact ⟨b, s1, h1, hu, hs⟩
  · obtain ⟨b, s1, h1, hr⟩ := readPlace_of_ok wordSize_lawful hd
    have hu := mulWord_ends (i := .muluEw e) rfl h1 hr
    have hs := mulWord_ends (i := .mulEw e) rfl h1 hr
    rw [mulUnsigned16_eq, lowHalf_ofNat, highHalf_ofNat] at hu
    rw [mulSigned16_eq, extractLsb'_zero_ofInt (by decide), highHalf_ofInt] at hs
    refine ⟨b, s1, h1, hu, hs, fun r imm => mulImm_ends (i := .mulReg16EwImm16 r e imm) rfl h1, fun r imm => ?_⟩
    have hi := mulImm_ends (i := .mulReg16EwImm8 r e imm) rfl h1
    rwa [toInt_signExtend_byte] at hi

/-! ### DIVU and DIV -/

theorem divUnsigned8_of_fits {n : Word} {d : Byte} (hd : d ≠ 0) (h : n.toNat / d.toNat ≤ 0xFF) :
    divUnsigned8 n d = some (BitVec.ofNat 8 (n.toNat / d.toNat), BitVec.ofNat 8 (n.toNat % d.toNat)) :=
  if_neg (not_or.2 ⟨hd, Nat.not_lt.2 h⟩)

theorem divUnsigned16_of_fits {n : BitVec 32} {d : Word} (hd : d ≠ 0) (h : n.toNat / d.toNat ≤ 0xFFFF) :
    divUnsigned16 n d = some (BitVec.ofNat 16 (n.toNat / d.toNat), BitVec.ofNat 16 (n.toNat % d.toNat)) :=
  if_neg (not_or.2 ⟨hd, Nat.not_lt.2 h⟩)

theorem divSigned8_of_fits {n : Word} {d : Byte} (hd : d ≠ 0) (h1 : -128 ≤ n.toInt.tdiv d.toInt) (h2 : n.toInt.tdiv d.toInt ≤ 127)
    (hopen : n.toInt.tdiv d.toInt = -128 → Config.divMostNegativeTraps = false) :
    divSigned8 n d = some (BitVec.ofInt 8 (n.toInt.tdiv d.toInt), BitVec.ofInt 8 (n.toInt.tmod d.toInt)) :=
  (if_neg (not_or.2 ⟨hd, not_or.2 ⟨Int.not_lt.2 h1, Int.not_lt.2 h2⟩⟩)).trans
    (if_neg fun ⟨hq, ht⟩ => Bool.false_ne_true ((hopen hq).symm.trans ht))

theorem divSigned16_of_fits {n : BitVec 32} {d : Word} (hd : d ≠ 0) (h1 : -32768 ≤ n.toInt.tdiv d.toInt)
    (h2 : n.toInt.tdiv d.toInt ≤ 32767) (hopen : n.toInt.tdiv d.toInt = -32768 → Config.divMostNegativeTraps = false) :
    divSigned16 n d = some (BitVec.ofInt 16 (n.toInt.tdiv d.toInt), BitVec.ofInt 16 (n.toInt.tmod d.toInt)) :=
  (if_neg (not_or.2 ⟨hd, not_or.2 ⟨Int.not_lt.2 h1, Int.not_lt.2 h2⟩⟩)).trans
    (if_neg fun ⟨hq, ht⟩ => Bool.false_ne_true ((hopen hq).symm.trans ht))

section
variable {s s1 : State} {i : Instr}

theorem divByte_of_none {f : Word → Byte → Option (Byte × Byte)} {e : RM Reg8} {d : Byte}
    (h1 : readPlace byteOp (s.place e) s = .ok (d, s1)) (hr : ReadOnly s s1) (hf : f (s.reg16 .aw) d = none) :
    divByte f e s = divideError s1 := by
  rw [divByte, M.bind_of_ok (show readRM byteOp e s = _ from h1), M.bind_reads, hr.reg16, hf]

theorem divByte_of_some {f : Word → Byte → Option (Byte × Byte)} {e : RM Reg8} {d q m : Byte}
    (h1 : readPlace byteOp (s.place e) s = .ok (d, s1)) (hr : ReadOnly s s1) (hf : f (s.reg16 .aw) d = some (q, m)) :
    divByte f e s = (draw >>= fun free =>
      update fun s => ((s.setReg8 .al q).setReg8 .ah m).setStatus maskStatus (divStatus free)) s1 := by
  rw [divByte, M.bind_of_ok (show readRM byteOp e s = _ from h1), M.bind_reads, hr.reg16, hf]

theorem divWord_of_none {f : BitVec 32 → Word → Option (Word × Word)} {e : RM Reg16} {d : Word}
    (h1 : readPlace wordOp (s.place e) s = .ok (d, s1)) (hr : ReadOnly s s1) (hf : f (s.reg16 .dw ++ s.reg16 .aw) d = none) :
    divWord f e s = divideError s1 := by
  rw [divWord, M.bind_of_ok (show readRM wordOp e s = _ from h1), M.bind_reads, hr.reg16, hr.reg16, hf]

theorem divWord_of_some {f : BitVec 32 → Word → Option (Word × Word)} {e : RM Reg16} {d q m : Word}
    (h1 : readPlace wordOp (s.place e) s = .ok (d, s1)) (hr : ReadOnly s s1) (hf : f (s.reg16 .dw ++ s.reg16 .aw) d = some (q, m)) :
    divWord f e s = (draw >>= fun free =>
      update fun s => ((s.setReg16 .aw q).setReg16 .dw m).setStatus maskStatus (divStatus free)) s1 := by
  rw [divWord, M.bind_of_ok (show readRM wordOp e s = _ from h1), M.bind_reads, hr.reg16, hr.reg16, hf]

theorem divByte_ends {f : Word → Byte → Option (Byte × Byte)} {e : RM Reg8} {d q m : Byte} (hi : exec i s = act (divByte f e) s)
    (h1 : readPlace byteOp (s.place e) s = .ok (d, s1)) (hr : ReadOnly s s1) (hf : f (s.reg16 .aw) d = some (q, m)) :
    ∃ n free, s1.draws ≤ n ∧
      exec i s = .next ((((s1.withDraws n).setReg8 .al q).setReg8 .ah m).setStatus maskStatus (divStatus free)) := by
  refine ⟨s1.draws + 1, Config.freeWord s1.draws, Nat.le_succ _, ?_⟩
  rw [hi, act_eq_next, divByte_of_some h1 hr hf]
  rfl

theorem divWord_ends {f : BitVec 32 → Word → Option (Word × Word)} {e : RM Reg16} {d q m : Word}
    (hi : exec i s = act (divWord f e) s) (h1 : readPlace wordOp (s.place e) s = .ok (d, s1)) (hr : ReadOnly s s1)
    (hf : f (s.reg16 .dw ++ s.reg16 .aw) d = some (q, m)) : ∃ n free, s1.draws ≤ n ∧
      exec i s = .next ((((s1.withDraws n).setReg16 .aw q).setReg16 .dw m).setStatus maskStatus (divStatus free)) := by
  refine ⟨s1.draws + 1, Config.freeWord s1.draws, Nat.le_succ _, ?_⟩
  rw [hi, act_eq_next, divWord_of_some h1 hr hf]
  rfl

theorem ReadOnly.start (h : ReadOnly s s1) : s1.start = s.start := by
  obtain ⟨m, ev, n, rfl⟩ := h; rfl

/-- The divide error is an entry through vector 0, the status flags free but V. -/
theorem divideError_enters (hok : s1.entryOk 0 = true) : ∃ n free t, divideError s1 = .ok ((), t) ∧
    Entered 0 (if Config.divErrorSavesNext then s1.pc else s1.start) ((s1.withDraws n).setStatus maskStatus (divStatus free)) t := by
  set u := (s1.withDraws (s1.draws + 1)).setStatus maskStatus (divStatus (Config.freeWord s1.draws)) with hu
  have hb : u.bank = s1.bank := bank_setStatus _ _
  have hbu : bankOf u.psw = (s1.withDraws (s1.draws + 1)).bank := hb
  have hok' : u.entryOk 0 = true := by
    rw [entryOk_congr (s := s1) (t := u) ⟨rfl, rfl, rfl⟩ (State.sreg_withPsw hbu .ss) (State.reg16_withPsw hbu .sp), hok]
  obtain ⟨t, ht, he⟩ := vectoredEntry 0 (if Config.divErrorSavesNext then s1.pc else s1.start) u hok'
  refine ⟨s1.draws + 1, Config.freeWord s1.draws, t, ?_, he⟩
  rw [divideError, M.bind_draw, M.bind_update, trapPc, M.bind_reads]
  exact ht

theorem divByte_enters {f : Word → Byte → Option (Byte × Byte)} {e : RM Reg8} {d : Byte} (hi : exec i s = act (divByte f e) s)
    (h1 : readPlace byteOp (s.place e) s = .ok (d, s1)) (hr : ReadOnly s s1) (hok : s.entryOk 0 = true)
    (hf : f (s.reg16 .aw) d = none) : ∃ n free t, exec i s = .next t ∧
      Entered 0 (if Config.divErrorSavesNext then s.pc else s.start) ((s1.withDraws n).setStatus maskStatus (divStatus free)) t := by
  obtain ⟨n, free, t, ht, he⟩ := divideError_enters (s1 := s1) (by rw [hr.entryOk, hok])
  rw [hr.pc, hr.start] at he
  refine ⟨n, free, t, ?_, he⟩
  rw [hi, act_eq_next, divByte_of_none h1 hr hf]
  exact ht

theorem divWord_enters {f : BitVec 32 → Word → Option (Word × Word)} {e : RM Reg16} {d : Word}
    (hi : exec i s = act (divWord f e) s) (h1 : readPlace wordOp (s.place e) s = .ok (d, s1)) (hr : ReadOnly s s1)
    (hok : s.entryOk 0 = true) (hf : f (s.reg16 .dw ++ s.reg16 .aw) d = none) : ∃ n free t, exec i s = .next t ∧
      Entered 0 (if Config.divErrorSavesNext then s.pc else s.start) ((s1.withDraws n).setStatus maskStatus (divStatus free)) t := by
  obtain ⟨n, free, t, ht, he⟩ := divideError_enters (s1 := s1) (by rw [hr.entryOk, hok])
  rw [hr.pc, hr.start] at he
  refine ⟨n, free, t, ?_, he⟩
  rw [hi, act_eq_next, divWord_of_none h1 hr hf]
  exact ht

end

/-- Settles O14. -/
theorem divide : Obligations.Divide := by
  refine ⟨fun e s hd => ?_, fun e s hd => ?_⟩
  · obtain ⟨d, s1, h1, hr⟩ := readPlace_of_ok byteSize_lawful hd
    exact ⟨d, s1, h1, fun h0 hq => divByte_ends (i := .divuEb e) rfl h1 hr (divUnsigned8_of_fits h0 hq),
      fun h0 hq1 hq2 hopen => divByte_ends (i := .divEb e) rfl h1 hr (divSigned8_of_fits h0 hq1 hq2 hopen)⟩
  · obtain ⟨d, s1, h1, hr⟩ := readPlace_of_ok wordSize_lawful hd
    exact ⟨d, s1, h1, fun h0 hq => divWord_ends (i := .divuEw e) rfl h1 hr (divUnsigned16_of_fits h0 hq),
      fun h0 hq1 hq2 hopen => divWord_ends (i := .divEw e) rfl h1 hr (divSigned16_of_fits h0 hq1 hq2 hopen)⟩

/-- Settles O15. -/
theorem divideErrors : Obligations.DivideError := by
  refine ⟨fun e s hd hok => ?_, fun e s hd hok => ?_⟩
  · obtain ⟨d, s1, h1, hr⟩ := readPlace_of_ok byteSize_lawful hd
    exact ⟨d, s1, h1, fun h => divByte_enters (i := .divuEb e) rfl h1 hr hok (if_pos h),
      fun h => divByte_enters (i := .divEb e) rfl h1 hr hok (if_pos h)⟩
  · obtain ⟨d, s1, h1, hr⟩ := readPlace_of_ok wordSize_lawful hd
    exact ⟨d, s1, h1, fun h => divWord_enters (i := .divuEw e) rfl h1 hr hok (if_pos h),
      fun h => divWord_enters (i := .divEw e) rfl h1 hr hok (if_pos h)⟩

end Sys2Proof.Machine


namespace Sys2Proof.Machine

-- Declarations are checked one after another, which keeps the memory of a compile bounded.
set_option Elab.async false

/-! ### Status flags of a word of flags, and registers through a change of them -/

theorem flagOf_statusWord_p (cy p ac z s v : Bool) : flagOf (statusWord cy p ac z s v) .p = p := by
  simp only [flagOf, Flag.bit, statusWord, getLsbD_putBit, Nat.reduceLT, reduceIte, reduceCtorEq, Nat.reduceEqDiff]

theorem flagOf_statusWord_ac (cy p ac z s v : Bool) : flagOf (statusWord cy p ac z s v) .ac = ac := by
  simp only [flagOf, Flag.bit, statusWord, getLsbD_putBit, Nat.reduceLT, reduceIte, reduceCtorEq, Nat.reduceEqDiff]

theorem flagOf_statusWord_z (cy p ac z s v : Bool) : flagOf (statusWord cy p ac z s v) .z = z := by
  simp only [flagOf, Flag.bit, statusWord, getLsbD_putBit, Nat.reduceLT, reduceIte, reduceCtorEq, Nat.reduceEqDiff]

theorem flagOf_statusWord_s (cy p ac z s v : Bool) : flagOf (statusWord cy p ac z s v) .s = s := by
  simp only [flagOf, Flag.bit, statusWord, getLsbD_putBit, Nat.reduceLT, reduceIte, reduceCtorEq, Nat.reduceEqDiff]

theorem flag_setStatus_status (s : State) (status : Word) {f : Flag} (hf : maskStatus.getLsbD f.bit = true) :
    (s.setStatus maskStatus status).flag f = flagOf status f := by
  rw [flag_setStatus, hf, if_pos rfl]

@[simp] theorem reg8_setStatus (s : State) (status : Word) (r : Reg8) : (s.setStatus maskStatus status).reg8 r = s.reg8 r :=
  State.reg8_withPsw (bank_setStatus s status) r

@[simp] theorem reg16_setStatus (s : State) (status : Word) (r : Reg16) : (s.setStatus maskStatus status).reg16 r = s.reg16 r :=
  State.reg16_withPsw (bank_setStatus s status) r

theorem reg16_aw_eq (s : State) : s.reg16 .aw = s.reg8 .ah ++ s.reg8 .al := rfl

/-! ### CVTBW, CVTWL, CVTBD, CVTDB -/

/-- A sign extension is the operand with copies of its sign on top. -/
theorem signs_append {w : Nat} (a : BitVec w) :
    ((if a.msb then BitVec.allOnes w else 0#w) ++ a : BitVec (w + w)) = a.signExtend (w + w) := by
  apply BitVec.eq_of_getLsbD_eq
  intro i hi
  rw [BitVec.getLsbD_append, BitVec.getLsbD_signExtend]
  by_cases h : i < w
  · simp [h, hi]
  · have h' : i - w < w := by omega
    cases hm : a.msb <;> simp [h, hi, h']

theorem frame_two_bytes (s : State) {r q : Reg8} (u v : Byte) :
    Frame s ((s.setReg8 r u).setReg8 q v) (byteSize.keys s r ++ byteSize.keys s q) 0 [] [] :=
  (frame_setReg8 s r u).then (frame_setReg8 (s.setReg8 r u) q v) (List.subset_append_left _ _) (List.subset_append_right _ _)

theorem keys_aw (s : State) : byteSize.keys s .ah ++ byteSize.keys s .al ⊆ wordSize.keys s .aw := by
  intro k hk
  simp only [byteSize, wordSize, List.mem_append, List.mem_cons, List.not_mem_nil, or_false] at hk ⊢
  exact hk.symm

theorem keys_aw' (s : State) : byteSize.keys s .al ++ byteSize.keys s .ah ⊆ wordSize.keys s .aw := by
  intro k hk
  simp only [byteSize, wordSize, List.mem_append, List.mem_cons, List.not_mem_nil, or_false] at hk ⊢
  exact hk

/-- A free value drawn, some registers written, then status flags set. -/
theorem frame_draw_regs_status {s u : State} {regs keys : List Nat} {n : Nat} {status : Word}
    (h : Frame (s.withDraws n) u keys 0 [] []) (hk : keys ⊆ regs) : Frame s (u.setStatus maskStatus status) regs maskStatus [] [] :=
  have f1 : Frame s u regs 0 [] [] := (frame_withDraws s n).then h (hr2 := hk)
  f1.then (frame_setStatus u maskStatus status)

theorem decimal_digits (a : Byte) :
    (BitVec.ofNat 8 (a.toNat / 10)).toNat * 10 + (BitVec.ofNat 8 (a.toNat % 10)).toNat = a.toNat ∧
      (BitVec.ofNat 8 (a.toNat % 10)).toNat < 10 := by
  have := a.isLt
  simp only [BitVec.toNat_ofNat]
  omega

theorem exec_cvtbd (s : State) : exec .cvtbd s = .next
    ((((s.withDraws (s.draws + 1)).setReg8 .ah (BitVec.ofNat 8 ((s.reg8 .al).toNat / 10))).setReg8 .al
      (BitVec.ofNat 8 ((s.reg8 .al).toNat % 10))).setStatus maskStatus
      (convertStatus (BitVec.ofNat 8 ((s.reg8 .al).toNat % 10)) (Config.freeWord s.draws))) := rfl

theorem exec_cvtdb (s : State) : exec .cvtdb s = .next
    ((((s.withDraws (s.draws + 1)).setReg8 .al (s.reg8 .ah * 10 + s.reg8 .al)).setReg8 .ah 0).setStatus maskStatus
      (convertStatus (s.reg8 .ah * 10 + s.reg8 .al) (Config.freeWord s.draws))) := rfl

/-- S, Z and P after CVTBD and CVTDB are those of the new AL. -/
theorem convertStatus_flags (u : State) (al : Byte) (free : Word) :
    (u.setStatus maskStatus (convertStatus al free)).flag .s = al.msb ∧
    (u.setStatus maskStatus (convertStatus al free)).flag .z = (al == 0) ∧
    (u.setStatus maskStatus (convertStatus al free)).flag .p = parity8 al := by
  refine ⟨?_, ?_, ?_⟩ <;> rw [flag_setStatus_status _ _ (by decide), convertStatus]
  · exact flagOf_statusWord_s ..
  · exact flagOf_statusWord_z ..
  · exact flagOf_statusWord_p ..

/-- Settles O16. -/
theorem conversions : Obligations.Conversions := by
  refine ⟨fun s => ⟨s.setReg8 .ah (if (s.reg8 .al).msb then 0xFF else 0x00), rfl, ?_, rfl, rfl, quiet_setReg8 _ _ _, frame_setReg8 _ _ _⟩,
    fun s => ⟨s.setReg16 .dw (if (s.reg16 .aw).msb then 0xFFFF else 0x0000), rfl, ?_, rfl, rfl, quiet_setReg16 _ _ _,
      frame_setReg16 _ _ _⟩,
    fun s => ⟨_, exec_cvtbd s, ?_⟩, fun s => ⟨_, exec_cvtdb s, ?_⟩⟩
  · rw [reg16_aw_eq, State.reg8_setReg8_same, State.reg8_setReg8_other _ _ (by decide)]
    exact signs_append _
  · rw [State.reg16_setReg16_same, State.reg16_setReg16_other _ _ (by decide)]
    exact signs_append _
  · obtain ⟨hsum, hlt⟩ := decimal_digits (s.reg8 .al)
    simp only [reg8_setStatus, State.reg8_setReg8_same, State.reg8_setReg8_other _ _ (show Reg8.al ≠ .ah by decide)]
    obtain ⟨hs, hz, hp⟩ := convertStatus_flags (((s.withDraws (s.draws + 1)).setReg8 .ah (BitVec.ofNat 8 ((s.reg8 .al).toNat / 10))).setReg8
      .al (BitVec.ofNat 8 ((s.reg8 .al).toNat % 10))) (BitVec.ofNat 8 ((s.reg8 .al).toNat % 10)) (Config.freeWord s.draws)
    exact ⟨hsum, hlt, hs, hz, hp, rfl, rfl, ⟨rfl, rfl, rfl, rfl, rfl⟩, frame_draw_regs_status (frame_two_bytes _ _ _) (keys_aw s)⟩
  · simp only [reg8_setStatus, State.reg8_setReg8_same, State.reg8_setReg8_other _ _ (show Reg8.ah ≠ .al by decide)]
    obtain ⟨hs, hz, hp⟩ := convertStatus_flags (((s.withDraws (s.draws + 1)).setReg8 .al (s.reg8 .ah * 10 + s.reg8 .al)).setReg8 .ah 0)
      (s.reg8 .ah * 10 + s.reg8 .al) (Config.freeWord s.draws)
    refine ⟨?_, trivial, hs, hz, hp, rfl, rfl, ⟨rfl, rfl, rfl, rfl, rfl⟩, frame_draw_regs_status (frame_two_bytes _ _ _) (keys_aw' s)⟩
    rw [BitVec.toNat_add, BitVec.toNat_mul, show (10 : Byte).toNat = 10 from rfl]
    omega

/-! ### ADJ4A, ADJ4S, ADJBA, ADJBS -/

theorem adjustPacked_ends (f : Byte → Bool → Bool → Byte × Bool × Bool) (s : State) :
    ∃ t, act (adjustPacked f) s = .next t ∧ t.reg8 .al = (f (s.reg8 .al) (s.flag .cy) (s.flag .ac)).1 ∧
      t.flag .ac = (f (s.reg8 .al) (s.flag .cy) (s.flag .ac)).2.2 ∧ t.flag .cy = (f (s.reg8 .al) (s.flag .cy) (s.flag .ac)).2.1 ∧
      t.flag .s = (t.reg8 .al).msb ∧ t.flag .z = (t.reg8 .al == 0) ∧ t.flag .p = parity8 (t.reg8 .al) ∧ t.pc = s.pc ∧
      t.events = s.events ∧ Quiet s t ∧ Frame s t (byteSize.keys s .al) maskStatus [] [] := by
  generalize hf : f (s.reg8 .al) (s.flag .cy) (s.flag .ac) = out
  refine ⟨((s.withDraws (s.draws + 1)).setReg8 .al out.1).setStatus maskStatus
    (packedStatus out.1 out.2.1 out.2.2 (Config.freeWord s.draws)), ?_, ?_⟩
  · rw [← hf]; rfl
  rw [reg8_setStatus, State.reg8_setReg8_same, flag_setStatus_status _ _ (by decide), flag_setStatus_status _ _ (by decide),
    flag_setStatus_status _ _ (by decide), flag_setStatus_status _ _ (by decide), flag_setStatus_status _ _ (by decide)]
  exact ⟨rfl, flagOf_statusWord_ac .., flagOf_statusWord_cy .., flagOf_statusWord_s .., flagOf_statusWord_z .., flagOf_statusWord_p ..,
    rfl, rfl, ⟨rfl, rfl, rfl, rfl, rfl⟩, frame_draw_regs_status (frame_setReg8 _ _ _) (List.Subset.refl _)⟩

theorem adjustUnpacked_ends (add : Bool) (s : State) :
    ∃ t, act (adjustUnpacked add) s = .next t ∧
      (let low : Bool := decide (9 < (s.reg8 .al).toNat % 16) || s.flag .ac
       t.reg8 .al = (if low then (if add then s.reg8 .al + 6 else s.reg8 .al - 6) else s.reg8 .al) &&& 0x0F ∧
       t.reg8 .ah = (if low then (if add then s.reg8 .ah + 1 else s.reg8 .ah - 1) else s.reg8 .ah) ∧
       t.flag .ac = low ∧ t.flag .cy = low) ∧ t.pc = s.pc ∧ t.events = s.events ∧ Quiet s t ∧
      Frame s t (wordSize.keys s .aw) maskStatus [] [] := by
  refine ⟨_, rfl, ⟨?_, ?_, ?_, ?_⟩, rfl, rfl, ⟨rfl, rfl, rfl, rfl, rfl⟩,
    frame_draw_regs_status (frame_two_bytes (s.withDraws (s.draws + 1)) _ _) (keys_aw' s)⟩
  · rw [reg8_setStatus, State.reg8_setReg8_other _ _ (by decide), State.reg8_setReg8_same]
  · rw [reg8_setStatus, State.reg8_setReg8_same]
  · rw [flag_setStatus_status _ _ (by decide)]
    exact flagOf_statusWord_ac ..
  · rw [flag_setStatus_status _ _ (by decide)]
    exact flagOf_statusWord_cy ..

/-- Settles O17. -/
theorem decimalAdjust : Obligations.DecimalAdjust := by
  intro s
  refine ⟨adjustPacked_ends packedAdd s, adjustPacked_ends packedSub s, ?_, ?_⟩
  · obtain ⟨t, ht, ⟨hal, hah, hac, hcy⟩, hrest⟩ := adjustUnpacked_ends true s
    exact ⟨t, ht, hal, hah, hac, hcy, hrest⟩
  · obtain ⟨t, ht, ⟨hal, hah, hac, hcy⟩, hrest⟩ := adjustUnpacked_ends false s
    exact ⟨t, ht, hal, hah, hac, hcy, hrest⟩

/-! ### Packed decimal sums and differences -/

theorem packedByte_toNat {k : Nat} (h : k < 100) : (packedByte k).toNat = k / 10 * 16 + k % 10 := by
  rw [packedByte, BitVec.toNat_ofNat]
  omega

theorem toNat_carry {w : Nat} (c : Bool) (hw : 0 < w) : ((BitVec.ofBool c).setWidth w).toNat = c.toNat := by
  cases c <;> simp [Nat.one_mod_two_pow hw]

theorem addResult_toNat (a b : Byte) (c : Bool) : (addResult a b c).toNat = (a.toNat + b.toNat + c.toNat) % 256 := by
  rw [addResult, BitVec.toNat_add, BitVec.toNat_add, toNat_carry c (by decide)]
  omega

theorem subResult_toNat (a b : Byte) (c : Bool) :
    (subResult a b c).toNat = (a.toNat + 512 - b.toNat - c.toNat) % 256 := by
  have hb := b.isLt
  have hc := c.toNat_le
  rw [subResult, BitVec.toNat_sub, BitVec.toNat_sub, toNat_carry c (by decide)]
  omega

theorem addStatus_carries (a b : Byte) (c : Bool) :
    flagOf (addStatus a b c) .cy = decide (256 ≤ a.toNat + b.toNat + c.toNat) ∧
    flagOf (addStatus a b c) .ac = decide (16 ≤ a.toNat % 16 + b.toNat % 16 + c.toNat) :=
  ⟨flagOf_statusWord_cy .., flagOf_statusWord_ac ..⟩

theorem subStatus_borrows (a b : Byte) (c : Bool) :
    flagOf (subStatus a b c) .cy = decide (a.toNat < b.toNat + c.toNat) ∧
    flagOf (subStatus a b c) .ac = decide (a.toNat % 16 < b.toNat % 16 + c.toNat) :=
  ⟨flagOf_statusWord_cy .., flagOf_statusWord_ac ..⟩

theorem toNat_adjust (p : Bool) (k : Byte) : (if p then k else 0 : Byte).toNat = if p then k.toNat else 0 := by
  cases p <;> rfl

/-- On two digits each: the low ones make a digit above 9 or carry exactly when they make 10 or more, and the whole sum is
above 99H or carries exactly when the numbers make 100 or more. -/
theorem sum_digits {a1 a0 b1 b0 c : Nat} (ha0 : a0 ≤ 9) (hb0 : b0 ≤ 9) (hc : c ≤ 1) :
    ((9 < (a1 * 16 + a0 + (b1 * 16 + b0) + c) % 256 % 16 ∨ 16 ≤ (a1 * 16 + a0) % 16 + (b1 * 16 + b0) % 16 + c) ↔
      10 ≤ a0 + b0 + c) ∧
    ((0x99 < (a1 * 16 + a0 + (b1 * 16 + b0) + c) % 256 ∨ 256 ≤ a1 * 16 + a0 + (b1 * 16 + b0) + c) ↔
      100 ≤ 10 * a1 + a0 + (10 * b1 + b0) + c) := by
  constructor
  · omega
  · rcases Nat.lt_or_ge (a1 * 16 + a0 + (b1 * 16 + b0) + c) 256 with h | h
    · rw [Nat.mod_eq_of_lt h]
      have htens : a1 + b1 ≤ 8 ∨ a1 + b1 = 9 ∨ 10 ≤ a1 + b1 := by omega
      rcases htens with h | h | h <;> omega
    · omega
/-- The same of differences: borrows instead of carries. -/
theorem difference_digits {a1 a0 b1 b0 c : Nat} (ha1 : a1 ≤ 9) (ha0 : a0 ≤ 9) (hb1 : b1 ≤ 9) (hb0 : b0 ≤ 9) (hc : c ≤ 1) :
    ((9 < (a1 * 16 + a0 + 512 - (b1 * 16 + b0) - c) % 256 % 16 ∨ (a1 * 16 + a0) % 16 < (b1 * 16 + b0) % 16 + c) ↔
      a0 < b0 + c) ∧
    ((0x99 < (a1 * 16 + a0 + 512 - (b1 * 16 + b0) - c) % 256 ∨ a1 * 16 + a0 < b1 * 16 + b0 + c) ↔
      10 * a1 + a0 < 10 * b1 + b0 + c) := by
  constructor
  · omega
  · rcases lt_trichotomy a1 b1 with h | h | h <;> omega

theorem packedAdd_of_packed {m n : Nat} (hm : m < 100) (hn : n < 100) (c : Bool) :
    let al := addResult (packedByte m) (packedByte n) c
    (decide (9 < al.toNat % 16) || flagOf (addStatus (packedByte m) (packedByte n) c) .ac) =
      decide (10 ≤ m % 10 + n % 10 + c.toNat) ∧
    (decide (0x99 < al.toNat) || flagOf (addStatus (packedByte m) (packedByte n) c) .cy) = decide (100 ≤ m + n + c.toNat) := by
  have hc := c.toNat_le
  obtain ⟨hcy, hac⟩ := addStatus_carries (packedByte m) (packedByte n) c
  simp only [hcy, hac, addResult_toNat, packedByte_toNat hm, packedByte_toNat hn, ← Bool.decide_or, decide_eq_decide]
  have hdigits := sum_digits (a1 := m / 10) (a0 := m % 10) (b1 := n / 10) (b0 := n % 10) (by omega) (by omega) hc
  rwa [Nat.div_add_mod m 10, Nat.div_add_mod n 10] at hdigits

theorem packedSub_of_packed {m n : Nat} (hm : m < 100) (hn : n < 100) (c : Bool) :
    let al := subResult (packedByte m) (packedByte n) c
    (decide (9 < al.toNat % 16) || flagOf (subStatus (packedByte m) (packedByte n) c) .ac) =
      decide (m % 10 < n % 10 + c.toNat) ∧
    (decide (0x99 < al.toNat) || flagOf (subStatus (packedByte m) (packedByte n) c) .cy) = decide (m < n + c.toNat) := by
  have hc := c.toNat_le
  obtain ⟨hcy, hac⟩ := subStatus_borrows (packedByte m) (packedByte n) c
  simp only [hcy, hac, subResult_toNat, packedByte_toNat hm, packedByte_toNat hn, ← Bool.decide_or, decide_eq_decide]
  have hdigits := difference_digits (a1 := m / 10) (a0 := m % 10) (b1 := n / 10) (b0 := n % 10) (by omega) (by omega)
    (by omega) (by omega) hc
  rwa [Nat.div_add_mod m 10, Nat.div_add_mod n 10] at hdigits

/-- Settles O18. -/
theorem adjustedSumsAreDecimal : Obligations.AdjustedSumsAreDecimal := by
  intro m n hm hn c
  have hc := c.toNat_le
  obtain ⟨hlow, hhigh⟩ := packedAdd_of_packed hm hn c
  obtain ⟨hlow', hhigh'⟩ := packedSub_of_packed hm hn c
  refine ⟨?_, hhigh, ?_, hhigh'⟩
  · simp only [packedAdd, hlow, hhigh]
    apply BitVec.eq_of_toNat_eq
    rw [BitVec.toNat_add, BitVec.toNat_add, toNat_adjust, toNat_adjust, addResult_toNat, packedByte_toNat hm, packedByte_toNat hn,
      packedByte_toNat (Nat.mod_lt _ (by decide))]
    simp only [decide_eq_true_eq, show (0x06 : Byte).toNat = 6 from rfl, show (0x60 : Byte).toNat = 96 from rfl]
    split <;> split <;> omega
  · simp only [packedSub, hlow', hhigh']
    apply BitVec.eq_of_toNat_eq
    rw [BitVec.toNat_sub, BitVec.toNat_sub, toNat_adjust, toNat_adjust, subResult_toNat, packedByte_toNat hm, packedByte_toNat hn,
      packedByte_toNat (Nat.mod_lt _ (by decide))]
    simp only [decide_eq_true_eq, show (0x06 : Byte).toNat = 6 from rfl, show (0x60 : Byte).toNat = 96 from rfl]
    split <;> split <;> omega

/-! ### ROL4 and ROR4 -/

theorem rotateDigit_ends {f : Byte → Byte → Byte × BitVec 4} {e : RM Reg8} {i : Instr} {s s1 : State} {a : Byte}
    (hi : exec i s = act (rotateDigit e f) s) (he : e ≠ .reg .al) (hd : byteSize.placeOk s (s.place e) = true)
    (h1 : readPlace byteOp (s.place e) s = .ok (a, s1)) (hr : ReadOnly s s1) :
    ∃ u t, writePlace byteOp (s.place e) (f a (s.reg8 .al)).1 s1 = .ok ((), u) ∧ exec i s = .next t ∧
      ∃ n, ∃ high : BitVec 4, u.draws ≤ n ∧ t = (u.withDraws n).setReg8 .al (high ++ (f a (s.reg8 .al)).2) := by
  obtain ⟨u, hu⟩ := writePlace_of_ok byteSize_lawful (by rw [SameMap.placeOk byteSize_lawful hr.sameMap, hd]) (f a (s.reg8 .al)).1
  refine ⟨u, _, hu, ?_, u.draws + 1, (Config.freeWord u.draws).extractLsb' 0 4, Nat.le_succ _, rfl⟩
  rw [← hr.reg8] at hu ⊢
  rw [hi, act_eq_next, rotateDigit, if_neg he, M.bind_reads, M.bind_of_ok h1, M.bind_reads,
    M.bind_of_ok (show writePlace byteOp _ _ _ = _ from hu)]
  rfl

theorem rotateDigit_al {f : Byte → Byte → Byte × BitVec 4} (s : State) : act (rotateDigit (.reg .al) f) s =
    .next ((s.withDraws (s.draws + 1)).setReg8 .al ((Config.freeWord s.draws).extractLsb' 0 8)) := rfl

/-- Settles O19. -/
theorem rotateDigits : Obligations.RotateDigits := by
  refine ⟨fun e s he hd => ?_, fun s => ⟨_, _, Nat.le_succ _, rotateDigit_al (f := rol4) s, rotateDigit_al (f := ror4) s⟩⟩
  obtain ⟨a, s1, h1, hr⟩ := readPlace_of_ok byteSize_lawful hd
  exact ⟨a, s1, h1, rotateDigit_ends (i := .rol4Eb e) rfl he hd h1 hr, rotateDigit_ends (i := .ror4Eb e) rfl he hd h1 hr⟩

theorem rotateDigit_frame {f : Byte → Byte → Byte × BitVec 4} {e : RM Reg8} {s t : State} (h : act (rotateDigit e f) s = .next t) :
    Quiet s t ∧ Frame s t (byteSize.placeKeys s (s.place e) ++ byteSize.keys s .al) 0 (byteSize.placeBytes (s.place e))
      (byteSize.placeBytes (s.place e)) := by
  by_cases he : e = .reg .al
  · subst he
    rw [rotateDigit_al] at h
    cases h
    exact ⟨⟨rfl, rfl, rfl, rfl, rfl⟩, (frame_withDraws s (s.draws + 1)).then (frame_setReg8 (s.withDraws (s.draws + 1)) .al _)
      (hr2 := List.subset_append_right _ _)⟩
  · rw [act_eq_next, rotateDigit, if_neg he, M.bind_reads] at h
    obtain ⟨a, s1, h1, h⟩ := M.bind_ok.1 h
    rw [M.bind_reads] at h
    obtain ⟨_, u, h2, h⟩ := M.bind_ok.1 h
    cases h
    obtain ⟨q, f1⟩ := frame_of_parts byteSize_lawful (mask := 0) (readPlace_frame byteSize_lawful h1) (.refl s1 _ _ _ _) (.refl s1)
      rfl (show writePlace byteSize.ops _ _ s1 = _ from h2)
    have f2 : Frame u (u.withDraws (u.draws + 1)) [] 0 [] [] := frame_withDraws u _
    have f3 : Frame (u.withDraws (u.draws + 1)) ((u.withDraws (u.draws + 1)).setReg8 .al
        ((Config.freeWord u.draws).extractLsb' 0 4 ++ (f a (s1.reg8 .al)).2)) (byteSize.keys s .al) 0 [] [] := by
      rw [← byteSize_lawful.keys_bank (f1.bank (by decide))]
      exact frame_setReg8 _ _ _
    have f23 : Frame u ((u.withDraws (u.draws + 1)).setReg8 .al
        ((Config.freeWord u.draws).extractLsb' 0 4 ++ (f a (s1.reg8 .al)).2)) (byteSize.keys s .al) 0 [] [] := f2.then f3
    exact ⟨q.trans ⟨rfl, rfl, rfl, rfl, rfl⟩, f1.then f23⟩

/-! ### What multiplication and division leave unchanged -/

/-- The operand read, then registers and status flags written. -/
theorem frame_read_regs_status {w : Nat} {ρ : Type} {z : Size w ρ} (hz : z.Lawful) {d : Place ρ} {b : BitVec w} {s s1 u : State}
    {regs : List Nat} {n : Nat} {status : Word} (h1 : readPlace z.ops d s = .ok (b, s1))
    (q : Quiet (s1.withDraws n) u) (f : Frame (s1.withDraws n) u regs 0 [] []) :
    Quiet s (u.setStatus maskStatus status) ∧ Frame s (u.setStatus maskStatus status) regs maskStatus (z.placeBytes d) [] := by
  obtain ⟨r1, f1⟩ := readPlace_frame hz h1
  exact ⟨(r1.quiet.trans (quiet_withDraws s1 n)).trans (q.trans (quiet_setStatus u _ _)),
    f1.then (frame_draw_regs_status f (List.Subset.refl _)) (hl1 := List.Subset.refl _)⟩

theorem frame_setTwoReg16 (s : State) (r q : Reg16) (u v : Word) :
    Frame s ((s.setReg16 r u).setReg16 q v) (wordSize.keys s r ++ wordSize.keys s q) 0 [] [] :=
  (frame_setReg16 s r u).then (frame_setReg16 (s.setReg16 r u) q v) (List.subset_append_left _ _) (List.subset_append_right _ _)

section
variable {s s1 t : State}

theorem mulByte_frame {f : Byte → Byte → Word × Bool} {e : RM Reg8} (h : act (mulByte f e) s = .next t) : Quiet s t ∧
    Frame s t (wordSize.keys s .aw) maskStatus (byteSize.placeBytes (s.place e)) [] := by
  obtain ⟨b, s1, h1, h2⟩ := M.bind_ok.1 (act_eq_next.1 h)
  cases h2
  refine frame_read_regs_status (n := s1.draws + 1) byteSize_lawful h1 (quiet_setReg16 _ _ _) ?_
  rw [← wordSize_lawful.keys_bank (readPlace_frame byteSize_lawful h1).1.bank]
  exact frame_setReg16 _ _ _

theorem mulWord_frame {f : Word → Word → BitVec 32 × Bool} {e : RM Reg16} (h : act (mulWord f e) s = .next t) : Quiet s t ∧
    Frame s t (wordSize.keys s .aw ++ wordSize.keys s .dw) maskStatus (wordSize.placeBytes (s.place e)) [] := by
  obtain ⟨b, s1, h1, h2⟩ := M.bind_ok.1 (act_eq_next.1 h)
  cases h2
  have hb := (readPlace_frame wordSize_lawful h1).1.bank
  refine frame_read_regs_status (n := s1.draws + 1) wordSize_lawful h1 ⟨rfl, rfl, rfl, rfl, rfl⟩ ?_
  rw [← wordSize_lawful.keys_bank hb, ← wordSize_lawful.keys_bank hb]
  exact frame_setTwoReg16 (s1.withDraws (s1.draws + 1)) _ _ _ _

theorem mulImm_frame {r : Reg16} {e : RM Reg16} {imm : Word} (h : act (mulImm r e imm) s = .next t) : Quiet s t ∧
    Frame s t (wordSize.keys s r) maskStatus (wordSize.placeBytes (s.place e)) [] := by
  obtain ⟨b, s1, h1, h2⟩ := M.bind_ok.1 (act_eq_next.1 h)
  cases h2
  refine frame_read_regs_status (n := s1.draws + 1) wordSize_lawful h1 (quiet_setReg16 _ _ _) ?_
  rw [← wordSize_lawful.keys_bank (readPlace_frame wordSize_lawful h1).1.bank]
  exact frame_setReg16 _ _ _

theorem divByte_frame {f : Word → Byte → Option (Byte × Byte)} {e : RM Reg8} {d : Byte}
    (h1 : readPlace byteOp (s.place e) s = .ok (d, s1)) (hf : f (s.reg16 .aw) d ≠ none) (h : act (divByte f e) s = .next t) :
    Quiet s t ∧ Frame s t (wordSize.keys s .aw) maskStatus (byteSize.placeBytes (s.place e)) [] := by
  have hr := (readPlace_frame byteSize_lawful (show readPlace byteSize.ops _ _ = _ from h1)).1
  obtain ⟨⟨q, m⟩, hq⟩ := Option.ne_none_iff_exists'.1 hf
  rw [act_eq_next, divByte_of_some h1 hr hq] at h
  cases h
  refine frame_read_regs_status (n := s1.draws + 1) byteSize_lawful h1 ⟨rfl, rfl, rfl, rfl, rfl⟩ ?_
  rw [← wordSize_lawful.keys_bank hr.bank]
  exact (frame_two_bytes (s1.withDraws (s1.draws + 1)) _ _).mono (keys_aw' _) (by simp) (by simp) (by simp)

theorem divWord_frame {f : BitVec 32 → Word → Option (Word × Word)} {e : RM Reg16} {d : Word}
    (h1 : readPlace wordOp (s.place e) s = .ok (d, s1)) (hf : f (s.reg16 .dw ++ s.reg16 .aw) d ≠ none)
    (h : act (divWord f e) s = .next t) : Quiet s t ∧
    Frame s t (wordSize.keys s .aw ++ wordSize.keys s .dw) maskStatus (wordSize.placeBytes (s.place e)) [] := by
  have hr := (readPlace_frame wordSize_lawful (show readPlace wordSize.ops _ _ = _ from h1)).1
  obtain ⟨⟨q, m⟩, hq⟩ := Option.ne_none_iff_exists'.1 hf
  rw [act_eq_next, divWord_of_some h1 hr hq] at h
  cases h
  refine frame_read_regs_status (n := s1.draws + 1) wordSize_lawful h1 ⟨rfl, rfl, rfl, rfl, rfl⟩ ?_
  rw [← wordSize_lawful.keys_bank hr.bank, ← wordSize_lawful.keys_bank hr.bank]
  exact frame_setTwoReg16 (s1.withDraws (s1.draws + 1)) _ _ _ _

end

/-- Settles O20. -/
theorem multiplyDivideFrame : Obligations.MultiplyDivideFrame := by
  refine ⟨?_, ?_, ?_, ?_, ?_, ?_⟩
  · rintro e s t (h | h)
    · exact mulByte_frame (f := mulUnsigned8) h
    · exact mulByte_frame (f := mulSigned8) h
  · rintro e s t (h | h)
    · exact mulWord_frame (f := mulUnsigned16) h
    · exact mulWord_frame (f := mulSigned16) h
  · rintro r e s t (⟨imm, h⟩ | ⟨imm, h⟩)
    · exact mulImm_frame (imm := imm) h
    · exact mulImm_frame (imm := imm.signExtend 16) h
  · rintro e s t d s1 h1 (⟨h, hf⟩ | ⟨h, hf⟩)
    · exact divByte_frame h1 hf h
    · exact divByte_frame h1 hf h
  · rintro e s t d s1 h1 (⟨h, hf⟩ | ⟨h, hf⟩)
    · exact divWord_frame h1 hf h
    · exact divWord_frame h1 hf h
  · rintro e s t (h | h)
    · exact rotateDigit_frame (f := rol4) h
    · exact rotateDigit_frame (f := ror4) h

end Sys2Proof.Machine


namespace Sys2Proof.Machine

-- Declarations are checked one after another, which keeps the memory of a compile bounded.
set_option Elab.async false

/-! ## Prefixes, CPU control, IDB and the step around an instruction (O31, O38, O59, O60) -/

/-! ### Prefixes -/

theorem act_segmentPrefix (sr : SReg) (s : State) :
    (s.pre.seg = none → act (segmentPrefix sr) s = .next (s.withPre { s.pre with seg := some sr })) ∧
    (s.pre.seg ≠ none → act (segmentPrefix sr) s = .refused .repeatedPrefix) := by
  have h : act (segmentPrefix sr) s = act (if s.pre.seg.isSome then refuses .repeatedPrefix
      else update fun s => s.withPre { s.pre with seg := some sr }) s := act_bind_reads _ _ _
  rw [h]
  constructor <;> intro hseg
  · rw [hseg]; rfl
  · rw [if_pos (Option.isSome_iff_ne_none.2 hseg)]; rfl

theorem act_repeatPrefix (p : Rep) (s : State) :
    (s.pre.rep = none → act (repeatPrefix p) s = .next (s.withPre { s.pre with rep := some p })) ∧
    (s.pre.rep ≠ none → act (repeatPrefix p) s = .refused .repeatedPrefix) := by
  have h : act (repeatPrefix p) s = act (if s.pre.rep.isSome then refuses .repeatedPrefix
      else update fun s => s.withPre { s.pre with rep := some p }) s := act_bind_reads _ _ _
  rw [h]
  constructor <;> intro hrep
  · rw [hrep]; rfl
  · rw [if_pos (Option.isSome_iff_ne_none.2 hrep)]; rfl

theorem act_lockPrefix (s : State) :
    (s.pre.lock = false → act lockPrefix s = .next (s.withPre { s.pre with lock := true })) ∧
    (s.pre.lock = true → act lockPrefix s = .refused .repeatedPrefix) := by
  have h : act lockPrefix s = act (if s.pre.lock then refuses .repeatedPrefix
      else update fun s => s.withPre { s.pre with lock := true }) s := act_bind_reads _ _ _
  rw [h]
  constructor <;> intro hlock <;> rw [hlock] <;> rfl

/-- Settles O60. -/
theorem prefixMarks : Obligations.PrefixMarks := by
  refine ⟨?_, ?_, act_lockPrefix, fun s sr d => ⟨fun h => by rw [State.segValue, h]; rfl, fun h => by rw [State.segValue, h]; rfl⟩⟩
  · simp only [segmentPrefixes, List.forall_mem_cons]
    exact ⟨act_segmentPrefix _, act_segmentPrefix _, act_segmentPrefix _, act_segmentPrefix _, by simp⟩
  · simp only [repeatPrefixes, List.forall_mem_cons]
    exact ⟨act_repeatPrefix _, act_repeatPrefix _, act_repeatPrefix _, act_repeatPrefix _, by simp⟩

/-! ### CPU control -/

theorem act_pollPin (s : State) : act pollPin s =
    act (if (Config.freeWord s.draws).getLsbD 0 then update fun s => s.withResume none
      else update fun s => (s.withResume (some .poll)).withTrace false) (s.withDraws (s.draws + 1)) := rfl

/-- Settles O59. -/
theorem cpuControl : Obligations.CpuControl := by
  refine ⟨fun _ => rfl, fun _ => rfl, fun _ => rfl, fun s => ⟨s.draws + 1, Nat.le_succ _, ?_⟩, fun _ => rfl, ?_, fun _ => rfl,
    fun _ => rfl, fun s f b => ⟨?_, rfl, fun i hi hne => ?_⟩⟩
  · rw [show exec .poll s = act pollPin s from rfl, act_pollPin]
    cases (Config.freeWord s.draws).getLsbD 0
    · exact .inr rfl
    · exact .inl rfl
  · simp only [flagSetters, List.forall_mem_cons]
    exact ⟨fun _ => rfl, fun _ => rfl, fun _ => rfl, fun _ => rfl, fun _ => rfl, by simp⟩
  · show (putBit s.psw f.bit b).getLsbD f.bit = b
    rw [getLsbD_putBit _ _ _ _ f.bit_lt, if_pos rfl]
  · show (putBit s.psw f.bit b).getLsbD i = _
    rw [getLsbD_putBit _ _ _ _ hi, if_neg hne.symm]

/-! ### The step around an instruction -/

theorem step_of_execute {s : State} (h : s.boundary = .execute) : step s = execute s := by
  rw [step, cycle, h]

theorem execute_of_resume {s : State} {r : Resume} (h : s.resume = some r) :
    execute s = runInstr s r.toInstr { s with hold := false, trace := s.flag .brk, resume := none } := by
  rw [execute, h]; rfl

theorem execute_of_fetch {s : State} {i : Instr} {n : Nat} (hr : s.resume = none) (hf : s.fetch = .ok (i, n)) :
    execute s = if s.pre.rep.isSome && !isPrefix i && !isBlock i then .refused .repeatOnNonBlock
      else runInstr s i (s.begin i n) := by
  rw [execute, hr]; dsimp only; rw [hf]

theorem execute_of_noFetch {s : State} (hr : s.resume = none) :
    (∀ r, s.fetch = .error (.refused r) → execute s = .refused r) ∧ (∀ f, s.fetch = .error (.fault f) → execute s = .fault f) := by
  constructor <;> intro e hf <;> (rw [execute, hr]; dsimp only; rw [hf])

theorem fetch_of_decode {s : State} {d : Decoded} (h : decodeWith s.stopOpcode (s.fetchBytes maxInstrBytes 0).1 = .ok d) :
    s.fetch = .ok (d.instr, d.length) := by
  rw [State.fetch, h]

theorem runInstr_spec (s : State) (i : Instr) (b : State) : (∀ t, exec i b = .next t → runInstr s i b = .next (s.finish i t)) ∧
    (∀ f, exec i b = .fault f → runInstr s i b = .fault f) ∧ (∀ r, exec i b = .refused r → runInstr s i b = .refused r) := by
  refine ⟨?_, ?_, ?_⟩ <;> intro x hx <;> rw [runInstr, hx]

theorem finish_spec (s : State) (i : Instr) (t : State) : (isPrefix i = true → s.finish i t = t) ∧
    (isPrefix i = false → t.resume = none → s.finish i t = { t with pre := Prefixes.none, area := t.idb }) ∧
    (isPrefix i = false → ∀ b, t.resume = some (.block b) → s.finish i t = { t with hold := s.hold }) ∧
    (isPrefix i = false → t.resume = some .poll → s.finish i t = t) := by
  refine ⟨fun h => by rw [State.finish, if_pos h], fun h hr => ?_, fun h b hr => ?_, fun h hr => ?_⟩
  · have e : s.finish i t = t.settle := by rw [State.finish, if_neg (by simp [h]), hr]
    exact e
  · have e : s.finish i t = t.withHold s.hold := by rw [State.finish, if_neg (by simp [h]), hr]
    exact e
  · rw [State.finish, if_neg (by simp [h]), hr]

theorem begin_spec (s : State) (i : Instr) (n : Nat) : ∃ d c, s.draws ≤ d ∧ s.begin i n =
    (let t := { s with pc := s.pc + BitVec.ofNat 16 n, pcHigh := c, draws := d,
                       start := if s.afterPrefix then s.start else s.pc }
     if isPrefix i then t else { t with hold := false, trace := s.flag .brk, resume := none }) := by
  refine ⟨if s.queueOld.isEmpty then s.draws else s.draws + maxInstrBytes, (s.advancePc n).pcHigh, ?_, rfl⟩
  split
  · exact le_refl _
  · exact Nat.le_add_right _ _

/-- Settles O31. -/
theorem stepRunsDecodedInstruction : Obligations.StepRunsDecodedInstruction := by
  intro s hb
  rw [step_of_execute hb]
  refine ⟨fun r hr => execute_of_resume hr, fun hr => ⟨fun d hd => ?_, fun hd => ?_, fun hd => ?_, fun f hd hf => ?_⟩,
    runInstr_spec s, begin_spec s, finish_spec s⟩
  · rw [execute_of_fetch hr (fetch_of_decode hd)]
    constructor
    · rintro (h | h | h) <;> rw [h] <;> simp
    · rintro ⟨h1, h2, h3⟩
      rw [Option.isSome_iff_ne_none.2 h1, h2, h3]; rfl
  · exact (execute_of_noFetch hr).1 _ (by rw [State.fetch, hd])
  · exact (execute_of_noFetch hr).1 _ (by rw [State.fetch, hd])
  · exact (execute_of_noFetch hr).2 _ (by rw [State.fetch, hd, hf]; rfl)

end Sys2Proof.Machine


namespace Sys2Proof.Machine

-- Declarations are checked one after another, which keeps the memory of a compile bounded.
set_option Elab.async false

/-! ## Data access, special function registers, storage (O34 to O38) -/

/-! ### Where an access goes -/

theorem State.inSfr_sfrAddr (s : State) (o : Byte) : s.inSfr (s.sfrAddr o) = true :=
  (State.inSfr_iff _ _).2 (by rw [State.sfrAddr_offset])

theorem State.inIram_iramAddr (s : State) (k : Byte) : s.inIram (s.iramAddr k) = true :=
  (State.inIram_iff _ _).2 (by rw [State.iramAddr_offset])

theorem State.inSfr_iramAddr (s : State) (k : Byte) : s.inSfr (s.iramAddr k) = false := by
  rw [State.inSfr, State.iramAddr, addr_page, Bool.and_eq_false_iff]
  exact .inr rfl

theorem State.iramAddr_ne_idb (s : State) (k : Byte) : s.iramAddr k ≠ 0xFFFFF#20 := by
  intro h
  have hp : (s.iramAddr k).extractLsb' 8 4 = 0xE#4 := addr_page _ _ _
  rw [h] at hp
  exact absurd hp (by decide)

theorem State.target_idb (s : State) : s.target 0xFFFFF#20 = .idbReg := if_pos rfl

theorem State.target_sfrAddr {s : State} {o : Byte} (h : s.sfrAddr o ≠ 0xFFFFF#20) : s.target (s.sfrAddr o) = .sfr o := by
  rw [State.target, if_neg h, if_pos (s.inSfr_sfrAddr o), State.sfrAddr_offset]

theorem State.target_iramAddr {s : State} (h : s.prc.getLsbD 6 = true) (k : Byte) : s.target (s.iramAddr k) = .iram k := by
  rw [State.target, if_neg (s.iramAddr_ne_idb k), if_neg (by rw [s.inSfr_iramAddr k]; decide),
    if_pos (by rw [s.inIram_iramAddr k, State.ramen, h]; rfl), State.iramAddr_offset]

theorem State.target_other {s : State} {a : PhysAddr} (h1 : a ≠ 0xFFFFF#20) (h2 : ∀ o, a ≠ s.sfrAddr o)
    (h3 : ∀ k, a = s.iramAddr k → s.prc.getLsbD 6 = false) : s.target a = .ext := by
  rw [State.target, if_neg h1, if_neg fun e => h2 _ ((State.inSfr_iff s a).1 e), if_neg fun e => ?_]
  obtain ⟨hi, hr⟩ := (Bool.and_eq_true _ _).mp e
  exact Bool.false_ne_true ((h3 _ ((State.inIram_iff s a).1 hi)).symm.trans hr)

/-! ### What a byte access is, by its target -/

theorem readByte_of_idb {s : State} {a : PhysAddr} (h : s.target a = .idbReg) : readByte a s = .ok (s.idb, s) := by
  simp only [readByte, M.bind_reads, h, M.reads_apply]

theorem writeByte_of_idb {s : State} {a : PhysAddr} (h : s.target a = .idbReg) (v : Byte) :
    writeByte a v s = .ok ((), s.withIdb v) := by
  simp only [writeByte, M.bind_reads, h, M.update_apply]

theorem readByte_of_sfr {s : State} {a : PhysAddr} {o : Byte} (h : s.target a = .sfr o) : readByte a s = readSfr o s := by
  simp only [readByte, M.bind_reads, h]

theorem writeByte_of_sfr {s : State} {a : PhysAddr} {o : Byte} (h : s.target a = .sfr o) (v : Byte) :
    writeByte a v s = writeSfr o v s := by
  simp only [writeByte, M.bind_reads, h]

theorem readByte_of_iram {s : State} {a : PhysAddr} {k : Byte} (h : s.target a = .iram k) :
    readByte a s = .ok (s.iram.read k.toNat, s) := by
  simp only [readByte, M.bind_reads, h, M.reads_apply]

theorem writeByte_of_iram {s : State} {a : PhysAddr} {k : Byte} (h : s.target a = .iram k) (v : Byte) :
    writeByte a v s = .ok ((), s.withIram (s.iram.write k.toNat v)) := by
  simp only [writeByte, M.bind_reads, h, M.update_apply]

theorem readByte_of_ext {s : State} {a : PhysAddr} (h : s.target a = .ext) : readByte a s = readExt a s := by
  simp only [readByte, M.bind_reads, h]

theorem writeByte_of_ext {s : State} {a : PhysAddr} (h : s.target a = .ext) (v : Byte) :
    writeByte a v s = writeExt a v s := by
  simp only [writeByte, M.bind_reads, h]

/-! ### External memory -/

theorem reservedData_eq {a : PhysAddr} (h : a ≠ 0xFFFFF#20) : reservedData a =
    (decide (0xFFF00 ≤ a.toNat ∧ a.toNat ≤ 0xFFFEF) || decide (0xFFFFC ≤ a.toNat)) := by
  have hlt := a.isLt
  have hne : a.toNat ≠ 0xFFFFF := fun e => h (BitVec.eq_of_toNat_eq e)
  have hle : (decide (0xFFFFC#20 ≤ a) && decide (a ≤ 0xFFFFE#20)) = decide (0xFFFFC ≤ a.toNat) := by
    rw [← Bool.decide_and, decide_eq_decide]
    simp only [BitVec.le_def, BitVec.toNat_ofNat]
    omega
  rw [reservedData, hle, ← Bool.decide_and]
  rfl

theorem readExt_of_reserved {s : State} {a : PhysAddr} (h : reservedData a = true) : readExt a s = .error (.fault .reservedData) :=
  if_pos h

theorem writeExt_of_reserved {s : State} {a : PhysAddr} (h : reservedData a = true) (v : Byte) :
    writeExt a v s = .error (.fault .reservedData) := if_pos h

theorem readExt_of_unmapped {s : State} {a : PhysAddr} (h : reservedData a = false) (hk : s.kindAt a = none) :
    readExt a s = .error (.fault .unmappedData) := by
  simp only [readExt, h, hk, Bool.false_eq_true, if_false]

theorem writeExt_of_unmapped {s : State} {a : PhysAddr} (h : reservedData a = false) (hk : s.kindAt a = none) (v : Byte) :
    writeExt a v s = .error (.fault .unmappedData) := by
  simp only [writeExt, h, hk, Bool.false_eq_true, if_false]

theorem readExt_of_mapped {s : State} {a : PhysAddr} {k : RegionKind} (h : reservedData a = false) (hk : s.kindAt a = some k) :
    readExt a s = .ok (s.ext.read a.toNat, s) := by
  simp only [readExt, h, hk, Bool.false_eq_true, if_false]

theorem writeExt_of_rom {s : State} {a : PhysAddr} (h : reservedData a = false) (hk : s.kindAt a = some .rom) (v : Byte) :
    writeExt a v s = .ok ((), s.record (.romWrite a v)) := by
  simp only [writeExt, h, hk, Bool.false_eq_true, if_false]

theorem writeExt_of_ram {s : State} {a : PhysAddr} (h : reservedData a = false) (hk : s.kindAt a = some .ram) (v : Byte) :
    writeExt a v s = .ok ((), s.storeExt a v) := by
  simp only [writeExt, h, hk, Bool.false_eq_true, if_false]

/-- Settles O34. -/
theorem dataAccess : Obligations.DataAccess := by
  intro s v
  refine ⟨⟨readByte_of_idb s.target_idb, writeByte_of_idb s.target_idb v⟩,
    fun o h => ⟨readByte_of_sfr (State.target_sfrAddr h), writeByte_of_sfr (State.target_sfrAddr h) v⟩,
    fun k h => ⟨readByte_of_iram (State.target_iramAddr h k), writeByte_of_iram (State.target_iramAddr h k) v⟩,
    fun a h1 h2 h3 => ?_⟩
  have ht := State.target_other h1 h2 h3
  rw [readByte_of_ext ht, writeByte_of_ext ht v]
  dsimp only
  rw [← reservedData_eq h1]
  exact ⟨fun h => ⟨readExt_of_reserved h, writeExt_of_reserved h v⟩,
    fun h hk => ⟨readExt_of_unmapped h hk, writeExt_of_unmapped h hk v⟩,
    fun h hk => ⟨readExt_of_mapped h hk, writeExt_of_rom h hk v⟩,
    fun h hk => ⟨readExt_of_mapped h hk, _, writeExt_of_ram h hk v⟩⟩

/-! ### Special function registers -/

theorem sfrByteKind_table (o : Byte) : sfrByteKind o =
    if o ∈ sfrReadWriteOffsets then .register .readWrite
    else if o ∈ sfrReadOnlyOffsets then .register .readOnly
    else if o ∈ sfrWriteOnlyOffsets then .register .writeOnly
    else if o ∈ sfrWordOnlyOffsets then .wordOnly
    else .reserved := by
  revert o; decide

theorem sfr16_table (o : Byte) : sfr16 o = decide (o ∈ sfrWordOffsets) := by
  revert o; decide

/-- The registers with rules of their own: STBC, FLAG, PRC, IDB. -/
def sfrSpecialOffsets : List Byte := [0xE0, 0xEA, 0xEB, 0xFF]

theorem not_special {o : Byte} (h : o ∉ sfrSpecialOffsets) : o ≠ sfrIdb ∧ o ≠ sfrPrc ∧ o ≠ sfrFlag ∧ o ≠ sfrStbc := by
  simp only [sfrSpecialOffsets, List.mem_cons, List.not_mem_nil, or_false, not_or] at h
  obtain ⟨hstbc, hflag, hprc, hidb⟩ := h
  exact ⟨hidb, hprc, hflag, hstbc⟩

/-- All four can be read and written. -/
theorem not_special_of_kind {o : Byte} (h : sfrByteKind o ≠ .register .readWrite) : o ∉ sfrSpecialOffsets := by
  revert h o; decide

section
variable {o : Byte} (ho : o ∉ sfrSpecialOffsets) (s : State) (v : Byte)
include ho

theorem readSfr_of_peripheral (hk : sfrByteKind o = .register .readWrite ∨ sfrByteKind o = .register .readOnly) :
    readSfr o s = readPeripheral o s := by
  obtain ⟨h1, h2, h3, h4⟩ := not_special ho
  rcases hk with hk | hk <;> simp only [readSfr, h1, h2, h3, h4, hk, if_false]

theorem writeSfr_of_peripheral (hk : sfrByteKind o = .register .readWrite ∨ sfrByteKind o = .register .writeOnly) :
    writeSfr o v s = writePeripheral o v s := by
  obtain ⟨h1, h2, h3, h4⟩ := not_special ho
  rcases hk with hk | hk <;> simp only [writeSfr, h1, h2, h3, h4, hk, if_false]

theorem readSfr_of_unreadable (hk : sfrByteKind o = .reserved ∨ sfrByteKind o = .register .writeOnly) :
    readSfr o s = drawByte s := by
  obtain ⟨h1, h2, h3, h4⟩ := not_special ho
  rcases hk with hk | hk <;> simp only [readSfr, h1, h2, h3, h4, hk, if_false]

theorem writeSfr_of_unwritable (hk : sfrByteKind o = .reserved ∨ sfrByteKind o = .register .readOnly) :
    writeSfr o v s = .ok ((), s) := by
  obtain ⟨h1, h2, h3, h4⟩ := not_special ho
  rcases hk with hk | hk <;> simp only [writeSfr, h1, h2, h3, h4, hk, if_false, M.pure_apply]

end

theorem readSfr_flag (s : State) : readSfr sfrFlag s =
    .ok (merge ((Config.freeWord s.draws).extractLsb' 0 8) maskFlag (s.psw.extractLsb' 0 8), s.withDraws (s.draws + 1)) := rfl

theorem sfr16_succ {o : Byte} (h : sfr16 o = true) : (o + 1).toNat = o.toNat + 1 := by
  revert h o; decide

theorem State.isSfrWord_sfrAddr (s : State) {o : Byte} (h : sfr16 o = true) : s.isSfrWord (s.sfrAddr o) = true := by
  rw [State.isSfrWord, s.inSfr_sfrAddr o, State.sfrAddr_offset, h]; rfl

theorem readWord_of_isSfrWord {s : State} {a : PhysAddr} (h : s.isSfrWord a = true) :
    readWord a s = readSfrWord (a.extractLsb' 0 8) s := by
  simp only [readWord, M.bind_reads, h, if_true]

theorem writeWord_of_isSfrWord {s : State} {a : PhysAddr} (h : s.isSfrWord a = true) (v : Word) :
    writeWord a v s = writeSfrWord (a.extractLsb' 0 8) v s := by
  simp only [writeWord, M.bind_reads, h, if_true]

/-- Settles O35. -/
theorem specialRegisters : Obligations.SpecialRegisters := by
  refine ⟨sfrByteKind_table, sfr16_table, fun s v => ⟨⟨rfl, rfl⟩, ⟨rfl, rfl⟩, ?_, ?_,
    ⟨⟨_, _, Nat.le_succ _, rfl⟩, rfl⟩, ?_, fun o hk => ⟨readSfr_wordOnly hk s, writeSfr_wordOnly hk v s⟩,
    fun o hk => ?_, fun o hk => ?_, fun o ho => ⟨fun hk => ?_, fun hk => ?_⟩, fun o w hw => ⟨?_, ?_⟩⟩⟩
  · refine ⟨_, _, Nat.le_succ _, readSfr_flag s, ?_, ?_⟩
    · rw [getLsbD_merge _ _ _ (by decide)]; simp [maskFlag, State.flag, flagOf, Flag.bit]
    · rw [getLsbD_merge _ _ _ (by decide)]; simp [maskFlag, State.flag, flagOf, Flag.bit]
  · refine ⟨merge s.psw (maskFlag.setWidth 16) (v.setWidth 16), rfl, ?_, ?_, fun i hi h3 h5 => ?_⟩
    · rw [getLsbD_merge _ _ _ (by decide)]; simp [maskFlag]
    · rw [getLsbD_merge _ _ _ (by decide)]; simp [maskFlag]
    · have hmask : ∀ j : Fin 16, j.val ≠ 3 → j.val ≠ 5 → (maskFlag.setWidth 16 : Word).getLsbD j.val = false := by decide
      rw [getLsbD_merge _ _ _ hi, hmask ⟨i, hi⟩ h3 h5]; rfl
  · intro o hk
    have ho := not_special_of_kind (o := o) (by rw [hk]; decide)
    exact ⟨writeSfr_of_unwritable ho s v (.inl hk), _, _, Nat.le_succ _,
      (readSfr_of_unreadable ho s (.inl hk)).trans (M.drawByte_apply s)⟩
  · exact writeSfr_of_unwritable (not_special_of_kind (by rw [hk]; decide)) s v (.inr hk)
  · exact ⟨_, _, Nat.le_succ _,
      (readSfr_of_unreadable (not_special_of_kind (by rw [hk]; decide)) s (.inr hk)).trans (M.drawByte_apply s)⟩
  · exact ⟨_, _, Nat.le_succ _, readSfr_of_peripheral ho s hk⟩
  · exact writeSfr_of_peripheral ho s v hk
  · refine ⟨_, ?_, rfl⟩
    rw [writeWord_of_isSfrWord (s.isSfrWord_sfrAddr hw), State.sfrAddr_offset, ← sfr16_succ hw]; rfl
  · refine ⟨Config.freeWord s.draws, s.draws + 1, Nat.le_succ _, ?_⟩
    rw [readWord_of_isSfrWord (s.isSfrWord_sfrAddr hw), State.sfrAddr_offset, ← sfr16_succ hw]; rfl

/-! ### Plain storage -/

/-- What a byte of storage holds. -/
def State.storedByte (s : State) (a : PhysAddr) : Byte :=
  match s.target a with
  | .iram k => s.iram.read k.toNat
  | _ => s.ext.read a.toNat

/-- A byte of storage written. -/
def State.storeByte (s : State) (a : PhysAddr) (v : Byte) : State :=
  match s.target a with
  | .iram k => s.withIram (s.iram.write k.toNat v)
  | _ => s.storeExt a v

theorem State.storageAt_cases {s : State} {a : PhysAddr} (h : s.storageAt a = true) :
    (∃ k, s.target a = .iram k) ∨ (s.target a = .ext ∧ s.ramAt a = true) := by
  unfold State.storageAt at h
  cases ht : s.target a with
  | idbReg => rw [ht] at h; cases h
  | sfr o => rw [ht] at h; cases h
  | iram k => exact .inl ⟨k, rfl⟩
  | ext => rw [ht] at h; exact .inr ⟨rfl, h⟩

theorem State.storedByte_of_iram {s : State} {a : PhysAddr} {k : Byte} (h : s.target a = .iram k) :
    s.storedByte a = s.iram.read k.toNat := by rw [State.storedByte, h]

theorem State.storedByte_of_ext {s : State} {a : PhysAddr} (h : s.target a = .ext) :
    s.storedByte a = s.ext.read a.toNat := by rw [State.storedByte, h]

theorem State.storeByte_of_iram {s : State} {a : PhysAddr} {k : Byte} (h : s.target a = .iram k) (v : Byte) :
    s.storeByte a v = s.withIram (s.iram.write k.toNat v) := by rw [State.storeByte, h]

theorem State.storeByte_of_ext {s : State} {a : PhysAddr} (h : s.target a = .ext) (v : Byte) :
    s.storeByte a v = s.storeExt a v := by rw [State.storeByte, h]

theorem readByte_storage {s : State} {a : PhysAddr} (h : s.storageAt a = true) : readByte a s = .ok (s.storedByte a, s) := by
  rcases State.storageAt_cases h with ⟨k, ht⟩ | ⟨ht, hr⟩
  · rw [readByte_of_iram ht, State.storedByte_of_iram ht]
  · rw [readByte_mem (State.memAt_of_ramAt hr), State.storedByte_of_ext ht]

theorem writeByte_storage {s : State} {a : PhysAddr} (h : s.storageAt a = true) (v : Byte) :
    writeByte a v s = .ok ((), s.storeByte a v) := by
  rcases State.storageAt_cases h with ⟨k, ht⟩ | ⟨ht, hr⟩
  · rw [writeByte_of_iram ht, State.storeByte_of_iram ht]
  · rw [writeByte_ram hr, State.storeByte_of_ext ht]

theorem sameMap_storeByte (s : State) (a : PhysAddr) (v : Byte) : SameMap s (s.storeByte a v) := by
  unfold State.storeByte
  split <;> exact ⟨rfl, rfl, rfl⟩

theorem SameMap.storageAt {s t : State} (h : SameMap s t) (a : PhysAddr) : t.storageAt a = s.storageAt a := by
  simp only [State.storageAt, h.target, h.ramAt]

theorem SameMap.storageWordAt {s t : State} (h : SameMap s t) (a : PhysAddr) : t.storageWordAt a = s.storageWordAt a := by
  simp only [State.storageWordAt, h.storageAt]

/-- A byte of storage written is what it holds afterwards; every other holds what it held. -/
theorem State.storedByte_storeByte (s : State) {a b : PhysAddr} (v : Byte) (ha : s.storageAt a = true)
    (hb : s.storageAt b = true) : (s.storeByte a v).storedByte b = if b = a then v else s.storedByte b := by
  have htb := (sameMap_storeByte s a v).target b
  rcases State.storageAt_cases ha with ⟨k, ht⟩ | ⟨ht, -⟩ <;> rcases State.storageAt_cases hb with ⟨j, hj⟩ | ⟨hj, -⟩
  · rw [State.storedByte_of_iram (htb.trans hj), State.storedByte_of_iram hj, State.storeByte_of_iram ht]
    show Memory.read (Memory.write _ _ _) _ = _
    rw [Memory.read_write]
    have hiff : k.toNat = j.toNat ↔ b = a := by
      rw [State.target_iram ht, State.target_iram hj]
      exact ⟨fun e => by rw [BitVec.eq_of_toNat_eq e], fun e => by
        rw [← s.iramAddr_offset k, ← e, s.iramAddr_offset j]⟩
    simp only [hiff]
  · rw [State.storedByte_of_ext (htb.trans hj), State.storedByte_of_ext hj, State.storeByte_of_iram ht, if_neg]
    · rfl
    · rintro rfl; rw [ht] at hj; cases hj
  · rw [State.storedByte_of_iram (htb.trans hj), State.storedByte_of_iram hj, State.storeByte_of_ext ht, if_neg]
    · rfl
    · rintro rfl; rw [ht] at hj; cases hj
  · rw [State.storedByte_of_ext (htb.trans hj), State.storedByte_of_ext hj, State.storeByte_of_ext ht]
    show Memory.read (Memory.write _ _ _) _ = _
    rw [Memory.read_write]
    have hiff : a.toNat = b.toNat ↔ b = a := ⟨fun e => (BitVec.eq_of_toNat_eq e).symm, fun e => by rw [e]⟩
    simp only [hiff]

theorem State.isSfrWord_of_storage {s : State} {a : PhysAddr} (h : s.storageAt a = true) : s.isSfrWord a = false := by
  rcases State.storageAt_cases h with ⟨k, ht⟩ | ⟨-, hr⟩
  · rw [State.isSfrWord, State.target_iram ht, s.inSfr_iramAddr]; rfl
  · exact State.isSfrWord_of_memAt (State.memAt_of_ramAt hr)

theorem readWord_bytes {s : State} {a : PhysAddr} (h : s.isSfrWord a = false) :
    readWord a s = (readByte a >>= fun lo => readByte (a + 1) >>= fun hi => pure (hi ++ lo)) s := by
  rw [readWord, M.bind_reads, if_neg (by rw [h]; decide)]

theorem writeWord_bytes {s : State} {a : PhysAddr} (h : s.isSfrWord a = false) (v : Word) :
    writeWord a v s = (writeByte a (v.extractLsb' 0 8) >>= fun _ => writeByte (a + 1) (v.extractLsb' 8 8)) s := by
  rw [writeWord, M.bind_reads, if_neg (by rw [h]; decide)]

section
variable {s : State} {a : PhysAddr} (h : s.storageWordAt a = true)
include h

theorem storageWordAt_bytes : s.storageAt a = true ∧ s.storageAt (a + 1) = true := by
  simpa only [State.storageWordAt, Bool.and_eq_true] using h

theorem readWord_storage : readWord a s = .ok (s.storedByte (a + 1) ++ s.storedByte a, s) := by
  obtain ⟨h0, h1⟩ := storageWordAt_bytes h
  rw [readWord_bytes (State.isSfrWord_of_storage h0), M.bind_of_ok (readByte_storage h0), M.bind_of_ok (readByte_storage h1)]
  rfl

theorem writeWord_storage (v : Word) : writeWord a v s =
    .ok ((), (s.storeByte a (v.extractLsb' 0 8)).storeByte (a + 1) (v.extractLsb' 8 8)) := by
  obtain ⟨h0, h1⟩ := storageWordAt_bytes h
  rw [writeWord_bytes (State.isSfrWord_of_storage h0), M.bind_of_ok (writeByte_storage h0 _), writeByte_storage]
  rwa [(sameMap_storeByte _ _ _).storageAt]

theorem State.storedByte_storeTwo (x y : Byte) {b : PhysAddr} (hb : s.storageAt b = true) :
    ((s.storeByte a x).storeByte (a + 1) y).storedByte b = if b = a + 1 then y else if b = a then x else s.storedByte b := by
  obtain ⟨h0, h1⟩ := storageWordAt_bytes h
  have m := sameMap_storeByte s a x
  rw [State.storedByte_storeByte _ _ (by rwa [m.storageAt]) (by rwa [m.storageAt]), State.storedByte_storeByte _ _ h0 hb]

end

/-- Settles O36. -/
theorem readAfterWrite : Obligations.ReadAfterWrite := by
  refine ⟨fun s a v h => ⟨_, writeByte_storage h v, ?_, fun b hne hb => ⟨_, readByte_storage hb, ?_⟩⟩,
    fun s a v h => ⟨_, writeWord_storage h v, ?_, ?_, ?_, fun b h0 h1 hb => ⟨_, readByte_storage hb, ?_⟩⟩⟩
  · rw [readByte_storage (by rwa [(sameMap_storeByte s a v).storageAt]), State.storedByte_storeByte s v h h, if_pos rfl]
  · rw [readByte_storage (by rwa [(sameMap_storeByte s a v).storageAt]), State.storedByte_storeByte s v h hb, if_neg hne]
  all_goals
    have m := (sameMap_storeByte s a (v.extractLsb' 0 8)).trans (sameMap_storeByte _ (a + 1) (v.extractLsb' 8 8))
    obtain ⟨hlo, hhi⟩ := storageWordAt_bytes h
  · rw [readWord_storage (by rwa [m.storageWordAt]), State.storedByte_storeTwo h _ _ hhi, State.storedByte_storeTwo h _ _ hlo,
      if_pos rfl, if_neg (addr_succ_ne a).symm, if_pos rfl, word_split]
  · rw [readByte_storage (by rwa [m.storageAt]), State.storedByte_storeTwo h _ _ hlo, if_neg (addr_succ_ne a).symm, if_pos rfl]
  · rw [readByte_storage (by rwa [m.storageAt]), State.storedByte_storeTwo h _ _ hhi, if_pos rfl]
  · rw [readByte_storage (by rwa [m.storageAt]), State.storedByte_storeTwo h _ _ hb, if_neg h1, if_neg h0]

end Sys2Proof.Machine


namespace Sys2Proof.Machine

-- Declarations are checked one after another, which keeps the memory of a compile bounded.
set_option Elab.async false

/-! ## Registers as on-chip RAM, and IDB (O37, O38) -/

/-! ### The address of a register -/

theorem State.iramAddr_toNat (s : State) (k : Byte) : (s.iramAddr k).toNat = s.area.toNat * 4096 + 0xE00 + k.toNat := by
  rw [State.iramAddr, BitVec.toNat_append, BitVec.toNat_append, ← Nat.shiftLeft_add_eq_or_of_lt k.isLt,
    ← Nat.shiftLeft_add_eq_or_of_lt (0xE#4).isLt, Nat.shiftLeft_eq, Nat.shiftLeft_eq]
  show (s.area.toNat * 16 + 14) * 256 + k.toNat = _
  omega

/-- The physical address of a byte of the current bank. -/
def State.bankAddr (s : State) (off : Nat) : PhysAddr := s.iramAddr (BitVec.ofNat 8 (bankKey s.bank off))

theorem toNat_bankKey (b : BitVec 3) {off : Nat} (h : off < 32) : (BitVec.ofNat 8 (bankKey b off)).toNat = bankKey b off := by
  rw [BitVec.toNat_ofNat]
  exact Nat.mod_eq_of_lt (bankKey_lt b h)

theorem State.bankAddr_eq (s : State) {off : Nat} (h : off < 32) :
    BitVec.ofNat 20 (s.area.toNat * 4096 + 0xE00 + 32 * s.bank.toNat + off) = s.bankAddr off := by
  have hk := bankKey_lt s.bank h
  have ha := s.area.isLt
  apply BitVec.eq_of_toNat_eq
  rw [State.bankAddr, State.iramAddr_toNat, toNat_bankKey _ h, BitVec.toNat_ofNat]
  unfold bankKey at hk ⊢
  omega

theorem State.bankAddr_succ (s : State) {off : Nat} (h : off + 1 < 32) : s.bankAddr off + 1 = s.bankAddr (off + 1) := by
  rw [← s.bankAddr_eq (Nat.lt_of_succ_lt h), ← s.bankAddr_eq h, ← Nat.add_assoc]
  exact (BitVec.ofNat_add _ 1).symm

theorem State.isSfrWord_bankAddr (s : State) (off : Nat) : s.isSfrWord (s.bankAddr off) = false := by
  rw [State.isSfrWord, State.bankAddr, s.inSfr_iramAddr]; rfl

section
variable {s : State} (hram : s.prc.getLsbD 6 = true) {off : Nat}
include hram

theorem readByte_bankAddr (h : off < 32) : readByte (s.bankAddr off) s = .ok (s.bankByte s.bank off, s) := by
  rw [State.bankAddr, readByte_of_iram (State.target_iramAddr hram _), toNat_bankKey _ h]
  rfl

theorem writeByte_bankAddr (h : off < 32) (v : Byte) : writeByte (s.bankAddr off) v s = .ok ((), s.setBankByte s.bank off v) := by
  rw [State.bankAddr, writeByte_of_iram (State.target_iramAddr hram _), toNat_bankKey _ h]
  rfl

theorem readWord_bankAddr (h : off + 1 < 32) : readWord (s.bankAddr off) s = .ok (s.bankWord s.bank off, s) := by
  rw [readWord_bytes (s.isSfrWord_bankAddr off), M.bind_of_ok (readByte_bankAddr hram (Nat.lt_of_succ_lt h)), s.bankAddr_succ h,
    M.bind_of_ok (readByte_bankAddr hram h)]
  rfl

theorem writeWord_bankAddr (h : off + 1 < 32) (v : Word) :
    writeWord (s.bankAddr off) v s = .ok ((), s.setBankWord s.bank off v) := by
  rw [writeWord_bytes (s.isSfrWord_bankAddr off), M.bind_of_ok (writeByte_bankAddr hram (Nat.lt_of_succ_lt h) _), s.bankAddr_succ h,
    State.setBankWord_eq]
  exact writeByte_bankAddr (s := s.setBankByte s.bank off (v.extractLsb' 0 8)) hram h _

end

/-- Settles O37. -/
theorem registersAreOnChipRam : Obligations.RegistersAreOnChipRam := by
  refine ⟨fun s hram => ⟨fun r v => ?_, fun r v => ?_, fun r v => ?_⟩, fun s => ⟨rfl, rfl, rfl, rfl⟩,
    fun s r v => ⟨s.reg8_setReg8_same r v, fun q h => s.reg8_setReg8_other v h.symm, fun q => s.sreg_setReg8 r q v⟩,
    fun s r v => ⟨s.reg16_setReg16_same r v, fun q h => s.reg16_setReg16_other v h.symm, fun q => s.sreg_setReg16 r q v⟩,
    fun s r v => ⟨s.sreg_setSreg_same r v, fun q h => s.sreg_setSreg_other v h.symm, fun q => s.reg16_setSreg r q v⟩,
    fun s c k hc hk => ⟨fun r v => ?_, fun r v => ?_, fun r v => ?_⟩⟩
  · have hr := (offReg8_range r).2
    dsimp only
    rw [s.bankAddr_eq hr]
    exact ⟨readByte_bankAddr hram hr, writeByte_bankAddr hram hr v⟩
  · have hr := (offReg16_range r).2
    dsimp only
    rw [s.bankAddr_eq (Nat.lt_of_succ_lt hr)]
    exact ⟨readWord_bankAddr hram hr, writeWord_bankAddr hram hr v⟩
  · have hr : offSReg r + 1 < 32 := Nat.lt_trans (offSReg_range r).2 (by decide)
    dsimp only
    rw [s.bankAddr_eq (Nat.lt_of_succ_lt hr)]
    exact ⟨readWord_bankAddr hram hr, writeWord_bankAddr hram hr v⟩
  · exact s.bankByte_setBankWord_other v (offReg16_range r).2 hk (.inl hc.symm)
  · exact (s.bankByte_setBankByte s.bank c v (offReg8_range r).2 hk).trans (if_neg fun e => hc e.1.symm)
  · exact s.bankByte_setBankWord_other v (Nat.lt_trans (offSReg_range r).2 (by decide)) hk (.inl hc.symm)

/-! ### IDB -/

theorem isPrefix_iff (i : Instr) : isPrefix i = true ↔
    (∃ p ∈ segmentPrefixes, i = p.2) ∨ (∃ p ∈ repeatPrefixes, i = p.2) ∨ i = .prefixBuslock := by
  constructor
  · intro h
    unfold isPrefix at h
    split at h
    case h_10 => exact absurd h Bool.false_ne_true
    all_goals simp [segmentPrefixes, repeatPrefixes]
  · rintro (⟨p, hp, rfl⟩ | ⟨p, hp, rfl⟩ | rfl)
    · revert p; decide
    · revert p; decide
    · rfl

/-- Prefixes leave a mark. -/
theorem pre_ne_none_of_isPrefix {i : Instr} {s t : State} (hi : isPrefix i = true) (h : exec i s = .next t) :
    t.pre ≠ Prefixes.none := by
  obtain ⟨hseg, hrep, hlock, -⟩ := prefixMarks
  rcases (isPrefix_iff i).1 hi with ⟨p, hp, rfl⟩ | ⟨p, hp, rfl⟩ | rfl
  · obtain ⟨h1, h2⟩ := hseg p hp s
    by_cases he : s.pre.seg = none
    · rw [h1 he] at h
      cases h
      exact fun e => by cases congrArg Prefixes.seg e
    · rw [h2 he] at h; cases h
  · obtain ⟨h1, h2⟩ := hrep p hp s
    by_cases he : s.pre.rep = none
    · rw [h1 he] at h
      cases h
      exact fun e => by cases congrArg Prefixes.rep e
    · rw [h2 he] at h; cases h
  · obtain ⟨h1, h2⟩ := hlock s
    cases he : s.pre.lock
    · rw [h1 he] at h
      cases h
      exact fun e => by cases congrArg Prefixes.lock e
    · rw [h2 he] at h; cases h

theorem runInstr_next {s b u : State} {i : Instr} (h : runInstr s i b = .next u) : ∃ t, exec i b = .next t ∧ u = s.finish i t := by
  unfold runInstr at h
  split at h
  · next t ht => cases h; exact ⟨t, ht, rfl⟩
  · cases h
  · cases h

/-- An instruction that ends has its IDB in force. -/
theorem area_of_runInstr {s b u : State} {i : Instr} (h : runInstr s i b = .next u) (hr : u.resume = none)
    (hp : u.pre = Prefixes.none) : u.area = u.idb := by
  obtain ⟨t, ht, rfl⟩ := runInstr_next h
  obtain ⟨hpre, hend, hblock, hpoll⟩ := finish_spec s i t
  cases hi : isPrefix i
  · cases hres : t.resume with
    | none => rw [hend hi hres]
    | some r =>
      cases r with
      | block b => rw [hblock hi b hres] at hr; exact absurd (hres.symm.trans hr) (by simp)
      | poll => rw [hpoll hi hres] at hr; exact absurd (hres.symm.trans hr) (by simp)
  · rw [hpre hi] at hp
    exact absurd hp (pre_ne_none_of_isPrefix hi ht)

/-- A step that runs an instruction is `runInstr` of one. -/
theorem execute_next {s u : State} (h : execute s = .next u) : ∃ i b, runInstr s i b = .next u := by
  unfold execute at h
  split at h
  · exact ⟨_, _, h⟩
  · split at h
    · cases h
    · cases h
    · split at h
      · cases h
      · exact ⟨_, _, h⟩

theorem writeByte_idb_sfr (s : State) (v : Byte) : writeByte (s.sfrAddr 0xFF) v s = .ok ((), s.withIdb v) := by
  by_cases h : s.sfrAddr 0xFF = 0xFFFFF#20
  · rw [h]; exact writeByte_of_idb s.target_idb v
  · rw [writeByte_of_sfr (State.target_sfrAddr h)]; rfl

/-- Settles O38. -/
theorem idbMovesInternalArea : Obligations.IdbMovesInternalArea := by
  refine ⟨fun s v => ⟨writeByte_of_idb s.target_idb v, writeByte_idb_sfr s v⟩, fun i s t h => (exec_evolves h).area,
    fun s t hb h hr hp => ?_⟩
  rw [step_of_execute hb] at h
  obtain ⟨i, b, h⟩ := execute_next h
  exact area_of_runInstr h hr hp

end Sys2Proof.Machine


namespace Sys2Proof.Machine

-- Declarations are checked one after another, which keeps the memory of a compile bounded.
set_option Elab.async false

/-! ## Laws of the flags and of the shifts (O39, O41) -/

/-! ### Sums and differences -/

/-- The signed overflow of a sum, from its carries. `ma`, `mb`, `mr` are the top bits, `A`, `B`, `R` what lies below them. -/
theorem sum_overflow {H A B R C : Nat} {ma mb mr cy : Bool} (hA : A < H) (hB : B < H) (hR : R < H) (hC : C ≤ 1)
    (h : R + H * mr.toNat + 2 * (H * cy.toNat) = A + H * ma.toNat + (B + H * mb.toNat) + C) :
    ((ma ^^ mr) && (mb ^^ mr)) = (cy ^^ decide (H ≤ A + B + C)) ∧
    (((ma ^^ mr) && (mb ^^ mr)) = true ↔
      (R : Int) - H * mr.toNat ≠ ((A : Int) - H * ma.toNat) + ((B : Int) - H * mb.toNat) + C) := by
  cases ma <;> cases mb <;> cases mr <;> cases cy <;> simp at h ⊢ <;> omega

/-- The signed overflow of a difference, from its borrows. -/
theorem difference_overflow {H A B R C : Nat} {ma mb mr cy : Bool} (hA : A < H) (hB : B < H) (hR : R < H) (hC : C ≤ 1)
    (h : R + H * mr.toNat + (B + H * mb.toNat) + C = A + H * ma.toNat + 2 * (H * cy.toNat)) :
    ((ma ^^ mb) && (ma ^^ mr)) = (cy ^^ decide (A < B + C)) ∧
    (((ma ^^ mb) && (ma ^^ mr)) = true ↔
      (R : Int) - H * mr.toNat ≠ ((A : Int) - H * ma.toNat) - ((B : Int) - H * mb.toNat) - C) := by
  cases ma <;> cases mb <;> cases mr <;> cases cy <;> simp at h ⊢ <;> omega

section
variable {n : Nat}

/-- A number is its top bit and what lies below it. -/
theorem toNat_msb_split (x : BitVec (n + 1)) : x.toNat = x.toNat % 2 ^ n + 2 ^ n * x.msb.toNat := by
  have hlt := x.isLt
  rw [Nat.pow_succ] at hlt
  rw [BitVec.msb_eq_decide, Nat.add_sub_cancel]
  by_cases h : 2 ^ n ≤ x.toNat
  · rw [decide_eq_true h, Nat.mod_eq_sub_mod h, Nat.mod_eq_of_lt (by omega), Bool.toNat_true]; omega
  · rw [decide_eq_false h, Nat.mod_eq_of_lt (by omega), Bool.toNat_false]; omega

theorem toInt_msb_split (x : BitVec (n + 1)) : x.toInt = ((x.toNat % 2 ^ n : Nat) : Int) - (2 ^ n : Nat) * x.msb.toNat := by
  have h := toNat_msb_split x
  rw [BitVec.toInt_eq_msb_cond]
  generalize x.toNat % 2 ^ n = low at h ⊢
  cases hm : x.msb <;> rw [hm] at h <;> simp at h ⊢
  · rw [h]
  · rw [h]; push_cast; ring

theorem addResult_exact (a b : BitVec (n + 1)) (c : Bool) : (addResult a b c).toNat +
    2 ^ (n + 1) * (decide (2 ^ (n + 1) ≤ a.toNat + b.toNat + c.toNat)).toNat = a.toNat + b.toNat + c.toNat := by
  have ha := a.isLt
  have hb := b.isLt
  have hc := c.toNat_le
  rw [addResult, BitVec.toNat_add, BitVec.toNat_add, toNat_carry c (Nat.succ_pos n), Nat.mod_add_mod]
  by_cases h : 2 ^ (n + 1) ≤ a.toNat + b.toNat + c.toNat
  · rw [decide_eq_true h, Nat.mod_eq_sub_mod h, Nat.mod_eq_of_lt (by omega), Bool.toNat_true]; omega
  · rw [decide_eq_false h, Nat.mod_eq_of_lt (by omega), Bool.toNat_false]; omega

theorem subResult_exact (a b : BitVec (n + 1)) (c : Bool) : (subResult a b c).toNat + b.toNat + c.toNat =
    a.toNat + 2 ^ (n + 1) * (decide (a.toNat < b.toNat + c.toNat)).toNat := by
  have ha := a.isLt
  have hb := b.isLt
  have hc := c.toNat_le
  have hadd : addResult (subResult a b c) b c = a := by
    unfold addResult subResult
    grind
  have hr := addResult_exact (subResult a b c) b c
  have hlt := (subResult a b c).isLt
  rw [hadd] at hr
  by_cases h : a.toNat < b.toNat + c.toNat
  · rw [decide_eq_true h, Bool.toNat_true]
    by_cases h' : 2 ^ (n + 1) ≤ (subResult a b c).toNat + b.toNat + c.toNat
    · rw [decide_eq_true h', Bool.toNat_true] at hr; omega
    · rw [decide_eq_false h', Bool.toNat_false] at hr; omega
  · rw [decide_eq_false h, Bool.toNat_false]
    by_cases h' : 2 ^ (n + 1) ≤ (subResult a b c).toNat + b.toNat + c.toNat
    · rw [decide_eq_true h', Bool.toNat_true] at hr; omega
    · rw [decide_eq_false h', Bool.toNat_false] at hr; omega

theorem parity8_eq {w : Nat} (r : BitVec w) : parity8 r = decide (((List.range 8).countP fun k => r.getLsbD k) % 2 = 0) := by
  have h8 (b0 b1 b2 b3 b4 b5 b6 b7 : Bool) : (!(b0 ^^ b1 ^^ b2 ^^ b3 ^^ b4 ^^ b5 ^^ b6 ^^ b7)) =
      decide ([b0, b1, b2, b3, b4, b5, b6, b7].countP id % 2 = 0) := by
    revert b0 b1 b2 b3 b4 b5 b6 b7; decide
  have hmap : (List.range 8).countP (fun k => r.getLsbD k) = ((List.range 8).map fun k => r.getLsbD k).countP id := by
    rw [List.countP_map]; rfl
  rw [parity8, h8, hmap]
  rfl

theorem addStatus_laws (a b : BitVec (n + 1)) (c : Bool) : let r := addResult a b c; let st := addStatus a b c
    r.toNat + 2 ^ (n + 1) * (flagOf st .cy).toNat = a.toNat + b.toNat + c.toNat ∧
    (flagOf st .v = true ↔ r.toInt ≠ a.toInt + b.toInt + (c.toNat : Int)) ∧
    flagOf st .v = (decide (2 ^ (n + 1) ≤ a.toNat + b.toNat + c.toNat) ^^
      decide (2 ^ n ≤ a.toNat % 2 ^ n + b.toNat % 2 ^ n + c.toNat)) ∧
    flagOf st .v = ((a ^^^ r) &&& (b ^^^ r)).msb ∧
    flagOf st .ac = decide (16 ≤ a.toNat % 16 + b.toNat % 16 + c.toNat) ∧ flagOf st .z = decide (r = 0) ∧
    flagOf st .s = r.getLsbD n ∧ flagOf st .p = decide (((List.range 8).countP fun k => r.getLsbD k) % 2 = 0) := by
  have hcy : flagOf (addStatus a b c) .cy = decide (2 ^ (n + 1) ≤ a.toNat + b.toNat + c.toNat) := flagOf_statusWord_cy ..
  have hv : flagOf (addStatus a b c) .v = ((a ^^^ addResult a b c) &&& (b ^^^ addResult a b c)).msb := flagOf_statusWord_v ..
  have hexact := addResult_exact a b c
  have hpos : 0 < 2 ^ n := Nat.two_pow_pos n
  obtain ⟨hcarry, hsigned⟩ := sum_overflow (H := 2 ^ n) (Nat.mod_lt a.toNat hpos) (Nat.mod_lt b.toNat hpos)
    (Nat.mod_lt (addResult a b c).toNat hpos) c.toNat_le (ma := a.msb) (mb := b.msb) (mr := (addResult a b c).msb)
    (cy := decide (2 ^ (n + 1) ≤ a.toNat + b.toNat + c.toNat)) (by
      rw [← toNat_msb_split, ← toNat_msb_split, ← toNat_msb_split, ← Nat.mul_assoc, Nat.mul_comm 2, ← Nat.pow_succ]
      exact hexact)
  rw [← toInt_msb_split, ← toInt_msb_split, ← toInt_msb_split] at hsigned
  refine ⟨by rw [hcy, hexact], ?_, ?_, hv, flagOf_statusWord_ac .., flagOf_statusWord_z .., ?_, ?_⟩
  · rw [hv, BitVec.msb_and, BitVec.msb_xor, BitVec.msb_xor]; exact hsigned
  · rw [hv, BitVec.msb_and, BitVec.msb_xor, BitVec.msb_xor]; exact hcarry
  · exact (flagOf_statusWord_s ..).trans (BitVec.msb_eq_getLsbD_last _)
  · exact (flagOf_statusWord_p ..).trans (parity8_eq _)

theorem subStatus_laws (a b : BitVec (n + 1)) (c : Bool) : let r := subResult a b c; let st := subStatus a b c
    r.toNat + b.toNat + c.toNat = a.toNat + 2 ^ (n + 1) * (flagOf st .cy).toNat ∧
    (flagOf st .v = true ↔ r.toInt ≠ a.toInt - b.toInt - (c.toNat : Int)) ∧
    flagOf st .v = (decide (a.toNat < b.toNat + c.toNat) ^^ decide (a.toNat % 2 ^ n < b.toNat % 2 ^ n + c.toNat)) ∧
    flagOf st .v = ((a ^^^ b) &&& (a ^^^ r)).msb ∧
    flagOf st .ac = decide (a.toNat % 16 < b.toNat % 16 + c.toNat) ∧ flagOf st .z = decide (r = 0) ∧
    flagOf st .s = r.getLsbD n ∧ flagOf st .p = decide (((List.range 8).countP fun k => r.getLsbD k) % 2 = 0) := by
  have hcy : flagOf (subStatus a b c) .cy = decide (a.toNat < b.toNat + c.toNat) := flagOf_statusWord_cy ..
  have hv : flagOf (subStatus a b c) .v = ((a ^^^ b) &&& (a ^^^ subResult a b c)).msb := flagOf_statusWord_v ..
  have hexact := subResult_exact a b c
  have hpos : 0 < 2 ^ n := Nat.two_pow_pos n
  obtain ⟨hborrow, hsigned⟩ := difference_overflow (H := 2 ^ n) (Nat.mod_lt a.toNat hpos) (Nat.mod_lt b.toNat hpos)
    (Nat.mod_lt (subResult a b c).toNat hpos) c.toNat_le (ma := a.msb) (mb := b.msb) (mr := (subResult a b c).msb)
    (cy := decide (a.toNat < b.toNat + c.toNat)) (by
      rw [← toNat_msb_split, ← toNat_msb_split, ← toNat_msb_split, ← Nat.mul_assoc, Nat.mul_comm 2, ← Nat.pow_succ]
      exact hexact)
  rw [← toInt_msb_split, ← toInt_msb_split, ← toInt_msb_split] at hsigned
  refine ⟨by rw [hcy, hexact], ?_, ?_, hv, flagOf_statusWord_ac .., flagOf_statusWord_z .., ?_, ?_⟩
  · rw [hv, BitVec.msb_and, BitVec.msb_xor, BitVec.msb_xor]; exact hsigned
  · rw [hv, BitVec.msb_and, BitVec.msb_xor, BitVec.msb_xor]; exact hborrow
  · exact (flagOf_statusWord_s ..).trans (BitVec.msb_eq_getLsbD_last _)
  · exact (flagOf_statusWord_p ..).trans (parity8_eq _)

/-! ### Logical operations -/

theorem logicStatus_laws (r : BitVec (n + 1)) (free : Word) : let st := logicStatus r free
    flagOf st .cy = false ∧ flagOf st .v = false ∧ flagOf st .z = decide (r = 0) ∧ flagOf st .s = r.getLsbD n ∧
    flagOf st .p = decide (((List.range 8).countP fun k => r.getLsbD k) % 2 = 0) :=
  ⟨flagOf_statusWord_cy .., flagOf_statusWord_v .., flagOf_statusWord_z ..,
    (flagOf_statusWord_s ..).trans (BitVec.msb_eq_getLsbD_last r), (flagOf_statusWord_p ..).trans (parity8_eq r)⟩

theorem status_of_logical {op : AluOp} (h : op.isLogical = true) {w : Nat} (a b : BitVec w) (c : Bool) (free : Word) :
    op.status a b c free = logicStatus (op.result a b c) free := by
  cases op with
  | and => rfl
  | or => rfl
  | xor => rfl
  | test => rfl
  | add => cases h
  | addc => cases h
  | sub => cases h
  | subc => cases h
  | cmp => cases h

theorem result_bits_of_logical {op : AluOp} (h : op.isLogical = true) {w : Nat} (a b : BitVec w) (c : Bool) (k : Nat) :
    (op.result a b c).getLsbD k = op.onBits (a.getLsbD k) (b.getLsbD k) := by
  cases op with
  | and => exact BitVec.getLsbD_and
  | test => exact BitVec.getLsbD_and
  | or => exact BitVec.getLsbD_or
  | xor => exact BitVec.getLsbD_xor
  | _ => cases h

theorem logical_laws {op : AluOp} (h : op.isLogical = true) (a b : BitVec (n + 1)) (c : Bool) (free : Word) :
    let r := op.result a b c; let st := op.status a b c free
    (∀ k, k < n + 1 → r.getLsbD k = op.onBits (a.getLsbD k) (b.getLsbD k)) ∧
    flagOf st .cy = false ∧ flagOf st .v = false ∧ flagOf st .z = decide (r = 0) ∧ flagOf st .s = r.getLsbD n ∧
    flagOf st .p = decide (((List.range 8).countP fun k => r.getLsbD k) % 2 = 0) := by
  refine ⟨fun k _ => result_bits_of_logical h a b c k, ?_⟩
  rw [status_of_logical h]
  exact logicStatus_laws _ free

end

/-- Settles O39. -/
theorem sumAndDifferenceFlags : Obligations.SumAndDifferenceFlags :=
  ⟨addStatus_laws, addStatus_laws, subStatus_laws, subStatus_laws, fun _ h => logical_laws h, fun _ h => logical_laws h⟩

end Sys2Proof.Machine


namespace Sys2Proof.Machine

-- Declarations are checked one after another, which keeps the memory of a compile bounded.
set_option Elab.async false

/-! ## What repeated one-bit shift and rotate steps come to (O41) -/

/-! ### Repetition -/

theorem ShiftOp.steps_succ {w : Nat} (op : ShiftOp) (c : Nat) (x : BitVec w × Bool) :
    op.steps (c + 1) x = op.step (op.steps c x).1 (op.steps c x).2 := by
  induction c generalizing x with
  | zero => rfl
  | succ c ih => exact ih _

/-- A form that holds after one step and is kept by every step holds after any number of them. -/
theorem ShiftOp.steps_eq {w : Nat} {op : ShiftOp} {x : BitVec w} {cy : Bool} (form : Nat → BitVec w × Bool)
    (first : op.step x cy = form 1) (next : ∀ c, 1 ≤ c → op.step (form c).1 (form c).2 = form (c + 1)) (c : Nat) (hc : 1 ≤ c) :
    op.steps c (x, cy) = form c := by
  induction c, hc using Nat.le_induction with
  | base => exact first
  | succ c hc ih => rw [ShiftOp.steps_succ, ih, next c hc]

section
variable {n : Nat}

/-! ### Shifts -/

theorem steps_shl (x : BitVec (n + 1)) (cy : Bool) (c : Nat) (hc : 1 ≤ c) :
    ShiftOp.shl.steps c (x, cy) = (x <<< c, decide (c ≤ n + 1) && x.getLsbD (n + 1 - c)) := by
  refine ShiftOp.steps_eq (fun c => (x <<< c, decide (c ≤ n + 1) && x.getLsbD (n + 1 - c))) ?_ (fun c _ => ?_) c hc
  · simp [ShiftOp.step, BitVec.msb_eq_getLsbD_last]
  · refine Prod.ext (BitVec.shiftLeft_add x c 1).symm ?_
    show (x <<< c).msb = _
    rw [BitVec.msb_eq_getLsbD_last, BitVec.getLsbD_shiftLeft]
    by_cases h : c ≤ n <;> simp [h]

theorem steps_shr (x : BitVec (n + 1)) (cy : Bool) (c : Nat) (hc : 1 ≤ c) :
    ShiftOp.shr.steps c (x, cy) = (x >>> c, x.getLsbD (c - 1)) := by
  refine ShiftOp.steps_eq (fun c => (x >>> c, x.getLsbD (c - 1))) rfl (fun c _ => ?_) c hc
  refine Prod.ext (BitVec.shiftRight_add x c 1).symm ?_
  exact BitVec.getLsbD_ushiftRight ..

theorem steps_shra (x : BitVec (n + 1)) (cy : Bool) (c : Nat) (hc : 1 ≤ c) :
    ShiftOp.shra.steps c (x, cy) = (x.sshiftRight c, (x.sshiftRight (c - 1)).getLsbD 0) := by
  refine ShiftOp.steps_eq (fun c => (x.sshiftRight c, (x.sshiftRight (c - 1)).getLsbD 0)) ?_ (fun c _ => ?_) c hc
  · simp [ShiftOp.step]
  · exact Prod.ext BitVec.sshiftRight_add.symm rfl

/-! ### Rotates -/

theorem succ_mod (c : Nat) : (c % (n + 1) < n ∧ (c + 1) % (n + 1) = c % (n + 1) + 1) ∨ (c % (n + 1) = n ∧ (c + 1) % (n + 1) = 0) := by
  have hlt : c % (n + 1) < n + 1 := Nat.mod_lt c (Nat.succ_pos n)
  rw [Nat.add_mod c 1]
  rcases Nat.lt_or_ge (c % (n + 1)) n with h | h
  · refine .inl ⟨h, ?_⟩
    rw [Nat.mod_eq_of_lt (a := 1) (by omega)]
    exact Nat.mod_eq_of_lt (by omega)
  · have he : c % (n + 1) = n := by omega
    refine .inr ⟨he, ?_⟩
    rw [he, Nat.add_mod_mod, Nat.mod_self]

/-- One more place to the left: the top bit comes in at the bottom. -/
theorem getLsbD_rotateLeft_succ (x : BitVec (n + 1)) (c : Nat) {i : Nat} (hi : i < n + 1) :
    (x.rotateLeft (c + 1)).getLsbD i = if i = 0 then (x.rotateLeft c).msb else (x.rotateLeft c).getLsbD (i - 1) := by
  rw [BitVec.msb_eq_getLsbD_last]
  simp only [BitVec.getLsbD_rotateLeft, Bool.cond_decide]
  rcases succ_mod (n := n) c with ⟨hlt, hs⟩ | ⟨he, hs⟩
  · rw [hs]
    generalize c % (n + 1) = m at hlt
    simp only [hi, show i - 1 < n + 1 by omega, show n + 1 - 1 < n + 1 by omega, decide_true, Bool.true_and]
    split_ifs <;> congr 1 <;> omega
  · rw [hs, he]
    simp only [hi, show i - 1 < n + 1 by omega, show n + 1 - 1 < n + 1 by omega, decide_true, Bool.true_and]
    split_ifs <;> congr 1 <;> omega

/-- One more place to the right: the bottom bit comes in at the top. -/
theorem getLsbD_rotateRight_succ (x : BitVec (n + 1)) (c : Nat) {i : Nat} (hi : i < n + 1) :
    (x.rotateRight (c + 1)).getLsbD i = if i = n then (x.rotateRight c).getLsbD 0 else (x.rotateRight c).getLsbD (i + 1) := by
  simp only [BitVec.getLsbD_rotateRight, Bool.cond_decide]
  rcases Nat.lt_or_ge i n with hin | hin
  · simp only [hi, Nat.ne_of_lt hin, Nat.succ_lt_succ hin, decide_true, Bool.true_and, if_false]
    rcases succ_mod (n := n) c with ⟨hlt, hs⟩ | ⟨he, hs⟩
    · rw [hs]; split_ifs <;> congr 1 <;> omega
    · rw [hs, he]; split_ifs <;> congr 1 <;> omega
  · obtain rfl : i = n := by omega
    simp only [hi, Nat.succ_pos i, decide_true, Bool.true_and, if_true]
    rcases succ_mod (n := i) c with ⟨hlt, hs⟩ | ⟨he, hs⟩
    · rw [hs]; split_ifs <;> congr 1 <;> omega
    · rw [hs, he]; split_ifs <;> congr 1 <;> omega

theorem putBit_shiftLeft_one (t : BitVec (n + 1)) (b : Bool) {i : Nat} (hi : i < n + 1) :
    (putBit (t <<< 1) 0 b).getLsbD i = if i = 0 then b else t.getLsbD (i - 1) := by
  rw [getLsbD_putBit _ _ _ _ hi, BitVec.getLsbD_shiftLeft]
  rcases Nat.eq_zero_or_pos i with rfl | h
  · rfl
  · simp [hi, Nat.ne_of_gt h, (Nat.ne_of_gt h).symm, Nat.not_lt.2 h]

theorem putBit_shiftRight_one (t : BitVec (n + 1)) (b : Bool) {i : Nat} (hi : i < n + 1) :
    (putBit (t >>> 1) n b).getLsbD i = if i = n then b else t.getLsbD (i + 1) := by
  rw [getLsbD_putBit _ _ _ _ hi, BitVec.getLsbD_ushiftRight, Nat.add_comm 1 i]
  simp only [eq_comm]

theorem rotateLeft_succ_eq (x : BitVec (n + 1)) (c : Nat) :
    putBit ((x.rotateLeft c) <<< 1) 0 (x.rotateLeft c).msb = x.rotateLeft (c + 1) := by
  apply BitVec.eq_of_getLsbD_eq
  intro i hi
  rw [putBit_shiftLeft_one _ _ hi, getLsbD_rotateLeft_succ _ _ hi]

theorem rotateRight_succ_eq (x : BitVec (n + 1)) (c : Nat) :
    putBit ((x.rotateRight c) >>> 1) n ((x.rotateRight c).getLsbD 0) = x.rotateRight (c + 1) := by
  apply BitVec.eq_of_getLsbD_eq
  intro i hi
  rw [putBit_shiftRight_one _ _ hi, getLsbD_rotateRight_succ _ _ hi]

theorem rotateLeft_zero (x : BitVec (n + 1)) : x.rotateLeft 0 = x := by
  exact BitVec.eq_of_getLsbD_eq fun i hi => by simp [hi]

theorem rotateRight_zero (x : BitVec (n + 1)) : x.rotateRight 0 = x := by
  exact BitVec.eq_of_getLsbD_eq fun i hi => by simp [hi]

theorem steps_rol (x : BitVec (n + 1)) (cy : Bool) (c : Nat) (hc : 1 ≤ c) :
    ShiftOp.rol.steps c (x, cy) = (x.rotateLeft c, (x.rotateLeft c).getLsbD 0) := by
  have step (c : Nat) : (putBit ((x.rotateLeft c) <<< 1) 0 (x.rotateLeft c).msb, (x.rotateLeft c).msb) =
      (x.rotateLeft (c + 1), (x.rotateLeft (c + 1)).getLsbD 0) := by
    rw [rotateLeft_succ_eq, getLsbD_rotateLeft_succ _ _ (Nat.succ_pos n), if_pos rfl]
  refine ShiftOp.steps_eq (op := .rol) (fun c => (x.rotateLeft c, (x.rotateLeft c).getLsbD 0)) ?_ (fun c _ => step c) c hc
  have h := step 0
  rwa [rotateLeft_zero] at h

theorem steps_ror (x : BitVec (n + 1)) (cy : Bool) (c : Nat) (hc : 1 ≤ c) :
    ShiftOp.ror.steps c (x, cy) = (x.rotateRight c, (x.rotateRight c).msb) := by
  have step (c : Nat) : (putBit ((x.rotateRight c) >>> 1) n ((x.rotateRight c).getLsbD 0), (x.rotateRight c).getLsbD 0) =
      (x.rotateRight (c + 1), (x.rotateRight (c + 1)).msb) := by
    rw [rotateRight_succ_eq, BitVec.msb_eq_getLsbD_last, getLsbD_rotateRight_succ _ _ (by omega), if_pos (by omega)]
  refine ShiftOp.steps_eq (op := .ror) (fun c => (x.rotateRight c, (x.rotateRight c).msb)) ?_ (fun c _ => step c) c hc
  have h := step 0
  rwa [rotateRight_zero] at h

/-! ### Rotates of the operand with CY on top of it -/

theorem step_rolc (t : BitVec (n + 1)) (cy : Bool) : ShiftOp.rolc.step t cy = (putBit (t <<< 1) 0 cy, t.msb) := rfl

theorem step_rorc (t : BitVec (n + 1)) (cy : Bool) : ShiftOp.rorc.step t cy = (putBit (t >>> 1) n cy, t.getLsbD 0) := rfl

theorem rotateLeftCarry_step (y : BitVec (n + 1 + 1)) (c : Nat) :
    ShiftOp.rolc.step ((y.rotateLeft c).extractLsb' 0 (n + 1)) (y.rotateLeft c).msb =
      ((y.rotateLeft (c + 1)).extractLsb' 0 (n + 1), (y.rotateLeft (c + 1)).msb) := by
  rw [step_rolc]
  refine Prod.ext (BitVec.eq_of_getLsbD_eq fun i hi => ?_) ?_ <;> dsimp only
  · rw [putBit_shiftLeft_one _ _ hi, BitVec.getLsbD_extractLsb', BitVec.getLsbD_extractLsb', Nat.zero_add, Nat.zero_add,
      getLsbD_rotateLeft_succ _ _ (Nat.lt_succ_of_lt hi)]
    simp only [hi, show i - 1 < n + 1 by omega, decide_true, Bool.true_and]
  · rw [BitVec.msb_eq_getLsbD_last, BitVec.msb_eq_getLsbD_last, getLsbD_rotateLeft_succ _ _ (by omega),
      BitVec.getLsbD_extractLsb', if_neg (by omega)]
    simp

theorem rotateRightCarry_step (y : BitVec (n + 1 + 1)) (c : Nat) :
    ShiftOp.rorc.step ((y.rotateRight c).extractLsb' 0 (n + 1)) (y.rotateRight c).msb =
      ((y.rotateRight (c + 1)).extractLsb' 0 (n + 1), (y.rotateRight (c + 1)).msb) := by
  rw [step_rorc]
  refine Prod.ext (BitVec.eq_of_getLsbD_eq fun i hi => ?_) ?_ <;> dsimp only
  · rw [putBit_shiftRight_one _ _ hi, BitVec.getLsbD_extractLsb', BitVec.getLsbD_extractLsb', Nat.zero_add, Nat.zero_add,
      getLsbD_rotateRight_succ _ _ (Nat.lt_succ_of_lt hi), BitVec.msb_eq_getLsbD_last]
    rcases Nat.lt_or_ge i n with hin | hin
    · simp [hi, hin, Nat.ne_of_lt hin, Nat.ne_of_lt hi]
    · obtain rfl : i = n := by omega
      simp
  · rw [BitVec.msb_eq_getLsbD_last, getLsbD_rotateRight_succ _ _ (by omega), BitVec.getLsbD_extractLsb', if_pos (by omega)]
    simp

theorem steps_rolc (x : BitVec (n + 1)) (cy : Bool) (c : Nat) (y : BitVec (n + 1 + 1)) (hx : y.extractLsb' 0 (n + 1) = x)
    (hcy : y.msb = cy) (hc : 1 ≤ c) :
    ShiftOp.rolc.steps c (x, cy) = ((y.rotateLeft c).extractLsb' 0 (n + 1), (y.rotateLeft c).msb) := by
  refine ShiftOp.steps_eq (fun c => ((y.rotateLeft c).extractLsb' 0 (n + 1), (y.rotateLeft c).msb)) ?_
    (fun c _ => rotateLeftCarry_step y c) c hc
  have h := rotateLeftCarry_step y 0
  rwa [rotateLeft_zero, hx, hcy] at h

theorem steps_rorc (x : BitVec (n + 1)) (cy : Bool) (c : Nat) (y : BitVec (n + 1 + 1)) (hx : y.extractLsb' 0 (n + 1) = x)
    (hcy : y.msb = cy) (hc : 1 ≤ c) :
    ShiftOp.rorc.steps c (x, cy) = ((y.rotateRight c).extractLsb' 0 (n + 1), (y.rotateRight c).msb) := by
  refine ShiftOp.steps_eq (fun c => ((y.rotateRight c).extractLsb' 0 (n + 1), (y.rotateRight c).msb)) ?_
    (fun c _ => rotateRightCarry_step y c) c hc
  have h := rotateRightCarry_step y 0
  rwa [rotateRight_zero, hx, hcy] at h

end

theorem msb_carry_append {w : Nat} (cy : Bool) (x : BitVec w) : (BitVec.ofBool cy ++ x).msb = cy := by
  rw [BitVec.msb_append]
  cases cy <;> rfl

/-- Settles O41. -/
theorem shiftClosedForms : Obligations.ShiftClosedForms :=
  ⟨fun x cy c hc => ⟨steps_shl x cy c hc, steps_shr x cy c hc, steps_shra x cy c hc, steps_rol x cy c hc, steps_ror x cy c hc,
      steps_rolc x cy c (BitVec.ofBool cy ++ x : BitVec 9) BitVec.extractLsb'_append_eq_right (msb_carry_append cy x) hc,
      steps_rorc x cy c (BitVec.ofBool cy ++ x : BitVec 9) BitVec.extractLsb'_append_eq_right (msb_carry_append cy x) hc⟩,
    fun x cy c hc => ⟨steps_shl x cy c hc, steps_shr x cy c hc, steps_shra x cy c hc, steps_rol x cy c hc, steps_ror x cy c hc,
      steps_rolc x cy c (BitVec.ofBool cy ++ x : BitVec 17) BitVec.extractLsb'_append_eq_right (msb_carry_append cy x) hc,
      steps_rorc x cy c (BitVec.ofBool cy ++ x : BitVec 17) BitVec.extractLsb'_append_eq_right (msb_carry_append cy x) hc⟩⟩

end Sys2Proof.Machine


namespace Sys2Proof.Machine

-- Declarations are checked one after another, which keeps the memory of a compile bounded.
set_option Elab.async false

/-! ## Popping from plain memory, RETI, register banks, breaks (O43 to O45) -/

/-! ### A chain of pops -/

theorem State.holdsWords_get {s : State} {n : Nat} (h : s.holdsWords n = true) {i : Nat} (hi : i < n) :
    s.memWordAt (s.above (2 * i)) = true := by
  simp only [State.holdsWords, List.all_eq_true, List.mem_range] at h
  exact h i hi

/-- What lies `i` bytes above the top of the stack once it has been raised by `k`. -/
theorem State.above_raised {s t : State} (hs : t.sreg .ss = s.sreg .ss) {k : Nat}
    (hp : t.reg16 .sp = s.reg16 .sp + BitVec.ofNat 16 k) (i : Nat) : t.above i = s.above (k + i) := by
  unfold State.above
  rw [hs, hp, BitVec.add_assoc, ← BitVec.ofNat_add]

/-- `t` is `s` with `k` bytes popped and perhaps registers of `regs` written: memory, the segment registers and everything
else is as before. -/
structure Popped (k : Nat) (regs : List Nat) (s t : State) : Prop where
  sp : t.reg16 .sp = s.reg16 .sp + BitVec.ofNat 16 k
  sreg : ∀ r, t.sreg r = s.sreg r
  ext : t.ext = s.ext
  psw : t.psw = s.psw
  pc : t.pc = s.pc
  events : t.events = s.events
  sameMap : SameMap s t
  quiet : Quiet s t
  frame : Frame s t regs 0 [] []

theorem Popped.refl (regs : List Nat) (s : State) : Popped 0 regs s s :=
  ⟨by simp, fun _ => rfl, rfl, rfl, rfl, rfl, .refl s, .refl s, .refl s _ _ _ _⟩

theorem Popped.bank {k : Nat} {regs : List Nat} {s t : State} (h : Popped k regs s t) : t.bank = s.bank :=
  congrArg bankOf h.psw

/-- A pop in a chain of pops: the word `k` bytes above where the chain began; no register but SP changes. -/
theorem Popped.pop16 {k : Nat} {regs : List Nat} {s u : State} (h : Popped k regs s u) (hsp : bankKeys s.bank (offReg16 .sp) ⊆ regs)
    (hm : s.memWordAt (s.above k) = true) : ∃ t, pop16 u = .ok (s.extWord (s.above k), t) ∧ Popped (k + 2) regs s t ∧
      ∀ r, r ≠ .sp → t.reg16 r = u.reg16 r := by
  have ha : u.above 0 = s.above k := State.above_raised (h.sreg .ss) h.sp 0
  have hpop := pop16_mem (s := u) (by rwa [ha, h.sameMap.memWordAt])
  have hf := frame_setReg16 u .sp (u.reg16 .sp + 2)
  rw [h.bank] at hf
  rw [ha, State.extWord, h.ext] at hpop
  refine ⟨_, hpop, ⟨?_, fun r => by rw [State.sreg_setReg16, h.sreg], h.ext, h.psw, h.pc, h.events,
    h.sameMap.trans (sameMap_setReg16 _ _ _), h.quiet.trans (quiet_setReg16 _ _ _),
    h.frame.trans (hf.mono hsp (by simp) (by simp) (by simp))⟩, fun r hr => State.reg16_setReg16_other _ _ (Ne.symm hr)⟩
  rw [State.reg16_setReg16_same, h.sp, BitVec.add_assoc, show (2 : Word) = BitVec.ofNat 16 2 from rfl, ← BitVec.ofNat_add]

/-! ### RETI -/

/-- What RETI makes of a stack in plain memory: three pops, then the image of the PSW decides. -/
theorem returnFromInterrupt_apply {s : State} (h : s.holdsWords 3 = true) :
    ∃ u, Popped 6 (bankKeys s.bank (offReg16 .sp)) s u ∧ returnFromInterrupt s =
      (if bit15 (s.extWord (s.above 4)) then
        update fun t => ((t.setSreg .ps (s.extWord (s.above 2))).withPsw (s.extWord (s.above 4))).loadPc (s.extWord (s.above 0))
      else refuses .psw15Zero) u := by
  obtain ⟨u1, e1, p1, -⟩ := (Popped.refl _ s).pop16 (List.Subset.refl _) (s.holdsWords_get h (i := 0) (by decide))
  obtain ⟨u2, e2, p2, -⟩ := p1.pop16 (List.Subset.refl _) (s.holdsWords_get h (i := 1) (by decide))
  obtain ⟨u3, e3, p3, -⟩ := p2.pop16 (List.Subset.refl _) (s.holdsWords_get h (i := 2) (by decide))
  refine ⟨u3, p3, ?_⟩
  rw [returnFromInterrupt, M.bind_of_ok e1, M.bind_of_ok e2, M.bind_of_ok e3]

/-- RETI on plain memory with a PSW image that has bit 15 = 1. -/
theorem exec_reti {s : State} (h : s.holdsWords 3 = true) (hb : bit15 (s.extWord (s.above 4)) = true) :
    ∃ u, Popped 6 (bankKeys s.bank (offReg16 .sp)) s u ∧ exec .reti s =
      .next (((u.setSreg .ps (s.extWord (s.above 2))).withPsw (s.extWord (s.above 4))).loadPc (s.extWord (s.above 0))) := by
  obtain ⟨u, hu, he⟩ := returnFromInterrupt_apply h
  rw [if_pos hb] at he
  exact ⟨u, hu, act_of_ok he⟩

theorem exec_reti_refused {s : State} (h : s.holdsWords 3 = true) (hb : bit15 (s.extWord (s.above 4)) = false) :
    exec .reti s = .refused .psw15Zero := by
  obtain ⟨u, -, he⟩ := returnFromInterrupt_apply h
  rw [if_neg (by rw [hb]; decide)] at he
  exact act_of_refused he

theorem State.holdsWords_of_roomFor {s t : State} {n : Nat} (m : SameMap s t) (h : s.roomFor n = true)
    (ha : ∀ i, i < n → t.above (2 * i) = s.below (2 * (n - i))) : t.holdsWords n = true := by
  simp only [State.holdsWords, List.all_eq_true, List.mem_range]
  intro i hi
  have hr := s.roomFor_get h (i := n - i - 1) (by omega)
  rw [show n - i - 1 + 1 = n - i by omega, State.ramWordAt, Bool.and_eq_true] at hr
  rw [ha i hi, m.memWordAt, State.memWordAt, State.memAt_of_ramAt hr.1, State.memAt_of_ramAt hr.2]
  rfl

theorem frame_setSreg_of_bank {s u : State} (h : u.bank = s.bank) (r : SReg) (v : Word) :
    Frame u (u.setSreg r v) (sregKeys s r) 0 [] [] := by
  rw [sregKeys, ← h]
  exact frame_setSreg u r v

theorem frame_setReg16_of_bank {s u : State} (h : u.bank = s.bank) (r : Reg16) (v : Word) :
    Frame u (u.setReg16 r v) (bankKeys s.bank (offReg16 r)) 0 [] [] := by
  rw [← h]
  exact frame_setReg16 u r v

theorem frame_loadPc (s : State) (v : Word) : Frame s (s.loadPc v) [] 0 [] [] := by
  constructor <;> intros <;> rfl

theorem quiet_loadPc (s : State) (v : Word) : Quiet s (s.loadPc v) := ⟨rfl, rfl, rfl, rfl, rfl⟩

theorem quiet_withPsw (s : State) (v : Word) : Quiet s (s.withPsw v) := ⟨rfl, rfl, rfl, rfl, rfl⟩

/-- A change of the PSW changes the bits in which the two values differ. -/
theorem frame_withPsw (s : State) {v mask : Word}
    (h : ∀ i, i < 16 → mask.getLsbD i = false → v.getLsbD i = s.psw.getLsbD i) : Frame s (s.withPsw v) [] mask [] [] := by
  constructor <;> intros <;> try rfl
  next i hi hm _ => exact h i hi hm

theorem getLsbD_allOnes_ne {i : Nat} (hi : i < 16) : (0xFFFF : Word).getLsbD i ≠ false := by
  have h : ∀ j : Fin 16, (0xFFFF : Word).getLsbD j.val ≠ false := by decide
  exact h ⟨i, hi⟩

/-- Settles O43. -/
theorem returnUndoesEntry : Obligations.ReturnUndoesEntry := by
  refine ⟨fun v ret s h h15 => ?_, fun s h hb => ?_, fun s h hb => exec_reti_refused h hb⟩
  · have hroom : s.roomFor 3 = true := by
      simp only [State.entryOk, Bool.and_eq_true] at h
      exact h.1.1
    obtain ⟨u, saved, hr⟩ := raise_completes h ret
    generalize ht : ((u.setSreg .ps (u.extWord (vectorAddr v + 2))).loadPc (u.extWord (vectorAddr v))).entered = t at hr
    have hsp : t.reg16 .sp = s.reg16 .sp - 6 := by subst ht; exact (State.reg16_setSreg u .ps .sp _).trans saved.sp
    have hss : t.sreg .ss = s.sreg .ss := by
      subst ht; exact (State.sreg_setSreg_other u _ (by decide)).trans (saved.sreg .ss)
    have hext (a : PhysAddr) : t.extWord a = u.extWord a := by subst ht; rfl
    have hmap : SameMap s t := by subst ht; exact saved.sameMap.trans ⟨rfl, rfl, rfl⟩
    have habove (i : Nat) (hi : i < 3) : t.above (2 * i) = s.below (2 * (3 - i)) := by
      rw [State.above, State.below, hss, hsp]
      congr 1
      have h3 : i = 0 ∨ i = 1 ∨ i = 2 := by omega
      rcases h3 with rfl | rfl | rfl <;> bv_omega
    have h0 := habove 0 (by decide)
    have h2 := habove 1 (by decide)
    have h4 := habove 2 (by decide)
    have hb : bit15 (t.extWord (t.above 4)) = true := by rw [h4, hext]; exact (congrArg bit15 saved.savedPsw).trans h15
    obtain ⟨w, popped, hw⟩ := exec_reti (State.holdsWords_of_roomFor hmap hroom habove) hb
    rw [h0, h2, h4, hext, hext, hext] at hw
    have hbank : bankOf (u.extWord (s.below 2)) = (w.setSreg .ps (u.extWord (s.below 4))).bank := by
      rw [State.bank_setSreg, popped.bank, saved.savedPsw]
      subst ht
      exact saved.bank.symm
    refine ⟨t, _, hr, hw, saved.savedPsw, saved.savedPc, ?_, ?_, rfl⟩
    · exact (State.sreg_withPsw hbank .ps).trans ((State.sreg_setSreg_same _ _ _).trans saved.savedPs)
    · refine (State.reg16_withPsw hbank .sp).trans ?_
      rw [State.reg16_setSreg, popped.sp, hsp]
      bv_omega
  · obtain ⟨u, popped, he⟩ := exec_reti h hb
    have hf := frame_setSreg_of_bank popped.bank .ps (s.extWord (s.above 2))
    refine ⟨_, u.setSreg .ps (s.extWord (s.above 2)), he, rfl, rfl, rfl, State.sreg_setSreg_same _ _ _,
      (State.reg16_setSreg u .ps .sp _).trans popped.sp, popped.events, popped.quiet.trans ⟨rfl, rfl, rfl, rfl, rfl⟩, ?_⟩
    have hps : Frame s (u.setSreg .ps (s.extWord (s.above 2))) (bankKeys s.bank (offReg16 .sp) ++ sregKeys s .ps) 0 [] [] :=
      popped.frame.then hf
    have hpsw := frame_withPsw (u.setSreg .ps (s.extWord (s.above 2))) (v := s.extWord (s.above 4)) (mask := 0xFFFF)
      fun i hi hm => absurd hm (getLsbD_allOnes_ne hi)
    have hboth : Frame s _ (bankKeys s.bank (offReg16 .sp) ++ sregKeys s .ps) 0xFFFF [] [] := hps.then hpsw
    exact hboth.then (frame_loadPc _ _)

/-! ### Register banks -/

theorem getLsbD_withBank (psw : Word) (n : BitVec 3) {i : Nat} (hi : i < 16) :
    (withBank psw n).getLsbD i = if 12 ≤ i ∧ i < 15 then n.getLsbD (i - 12) else psw.getLsbD i := by
  rw [withBank, BitVec.getLsbD_append, BitVec.getLsbD_append, BitVec.getLsbD_extractLsb', BitVec.getLsbD_extractLsb', Nat.zero_add]
  by_cases h12 : i < 12
  · simp [h12, Nat.not_le.2 h12]
  · by_cases h15 : i < 15
    · have h3 : i - 12 < 3 := by omega
      simp [h12, h3, Nat.not_lt.1 h12, h15]
    · obtain rfl : i = 15 := by omega
      simp

theorem bankOf_withBank (psw : Word) (n : BitVec 3) : bankOf (withBank psw n) = n := by
  apply BitVec.eq_of_getLsbD_eq
  intro i hi
  have h3 : 12 + i - 12 = i := by omega
  rw [bankOf, BitVec.getLsbD_extractLsb', getLsbD_withBank _ _ (by omega), if_pos (by omega), h3]
  simp [hi]

/-- The state after a switch to another bank. -/
def State.switched (s : State) (n : BitVec 3) (ret : Word) : State :=
  (((s.setBankWord n offPswSave s.psw).setBankWord n offPcSave ret).withPsw (withBank s.psw n)).loadPc (s.bankWord n offVectorPc)

section
variable {n : BitVec 3} (ret : Word) (s : State)

theorem switchTo_other (h : n ≠ s.bank) : switchTo n ret s = .ok ((), s.switched n ret) := by
  have hvec : ((s.setBankWord n offPswSave s.psw).setBankWord n offPcSave ret).bankWord n offVectorPc = s.bankWord n offVectorPc := by
    rw [State.bankWord_setBankWord_other _ _ (by decide) (by decide) (.inr (by decide)),
      State.bankWord_setBankWord_other _ _ (by decide) (by decide) (.inr (by decide))]
  rw [switchTo, M.bind_reads, if_neg h, State.switched, ← hvec]
  rfl

theorem switchTo_current (h : n = s.bank) : switchTo n ret s = .error (.refused .switchToCurrentBank) := by
  rw [switchTo, M.bind_reads, if_pos h]
  rfl

theorem switched_frame : Frame s (s.switched n ret) (bankKeys n offPswSave ++ bankKeys n offPcSave) 0x7000 [] [] := by
  have hsave : Frame s ((s.setBankWord n offPswSave s.psw).setBankWord n offPcSave ret)
      (bankKeys n offPswSave ++ bankKeys n offPcSave) 0 [] [] :=
    (frame_setBankWord s n offPswSave s.psw).then (frame_setBankWord _ n offPcSave ret)
  have hmask : ∀ j : Fin 16, (0x7000 : Word).getLsbD j.val = false → ¬ (12 ≤ j.val ∧ j.val < 15) := by decide
  have hpsw := frame_withPsw ((s.setBankWord n offPswSave s.psw).setBankWord n offPcSave ret) (v := withBank s.psw n)
    (mask := 0x7000) fun i hi hm => by rw [getLsbD_withBank _ _ hi, if_neg (hmask ⟨i, hi⟩ hm)]; rfl
  have hboth : Frame s _ (bankKeys n offPswSave ++ bankKeys n offPcSave) 0x7000 [] [] := hsave.then hpsw
  exact hboth.then (frame_loadPc _ _)

theorem switched_spec : Switched n ret 0x7000 s (s.switched n ret) where
  savedPsw := (State.bankWord_setBankWord_other _ _ (by decide) (by decide) (.inr (by decide))).trans
    (State.bankWord_setBankWord_same _ _ _ (by decide))
  savedPc := State.bankWord_setBankWord_same _ _ _ (by decide)
  bank := bankOf_withBank _ _
  pc := rfl
  queue := rfl
  frame := switched_frame ret s

/-- The same with IE and BRK cleared after the switch. -/
theorem switched_clearIeBrk_spec {t : State} (h : Switched n ret 0x7000 s t) : Switched n ret 0x7300 s t.clearIeBrk where
  savedPsw := h.savedPsw
  savedPc := h.savedPc
  bank := t.bank_clearIeBrk.trans h.bank
  pc := h.pc
  queue := h.queue
  frame := h.frame.then (frame_clearIeBrk t)

theorem flag_clearIeBrk (s : State) : s.clearIeBrk.flag .ie = false ∧ s.clearIeBrk.flag .brk = false := by
  simp [State.clearIeBrk, flag_setFlag]

/-- What of a state a switch to a bank reads. -/
theorem Switched.congr {mask : Word} {t u : State} (h : Switched n ret mask s t) (hi : u.iram = t.iram) (hp : u.psw = t.psw)
    (hpc : u.pc = t.pc) (hq : u.queueOld = t.queueOld) (hf : Frame t u [] 0 [] []) : Switched n ret mask s u where
  savedPsw := by rw [← h.savedPsw]; simp only [State.bankWord, State.bankByte, hi]
  savedPc := by rw [← h.savedPc]; simp only [State.bankWord, State.bankByte, hi]
  bank := (congrArg bankOf hp).trans h.bank
  pc := hpc.trans h.pc
  queue := hq.trans h.queue
  frame := h.frame.then hf

theorem bankEntry_spec (h : n ≠ s.bank) : ∃ t, bankEntry n ret s = .ok ((), t) ∧ Switched n ret 0x7300 s t ∧ t.flag .ie = false ∧
    t.flag .brk = false ∧ t.run = .running ∧ t.resume = none := by
  obtain ⟨hie, hbrk⟩ := flag_clearIeBrk (s.switched n ret)
  refine ⟨(s.switched n ret).clearIeBrk.entered, ?_,
    (switched_clearIeBrk_spec ret s (switched_spec ret s)).congr ret s rfl rfl rfl rfl ?_, hie, hbrk, rfl, rfl⟩
  · rw [bankEntry, M.bind_of_ok (switchTo_other ret s h)]; rfl
  · constructor <;> intros <;> rfl

end

theorem exec_retrbi {s : State} (h : bit15 (s.bankWord s.bank offPswSave) = true) : exec .retrbi s =
    .next ((s.withPsw (s.bankWord s.bank offPswSave)).loadPc (s.bankWord s.bank offPcSave)) := by
  refine act_of_ok ?_
  rw [returnFromBank, M.bind_reads, M.bind_reads, if_pos h]
  rfl

theorem exec_retrbi_refused {s : State} (h : bit15 (s.bankWord s.bank offPswSave) = false) :
    exec .retrbi s = .refused .psw15Zero := by
  refine act_of_refused ?_
  rw [returnFromBank, M.bind_reads, M.bind_reads, if_neg (by rw [h]; decide)]
  rfl

theorem exec_movspa (s : State) : exec .movspa s = .next (s.copyStackFrom (bankOf (s.bankWord s.bank offPswSave))) := rfl

theorem copyStackFrom_eq (s : State) (o : BitVec 3) : s.copyStackFrom o =
    (s.setSreg .ss (s.bankWord o (offSReg .ss))).setReg16 .sp (s.bankWord o (offReg16 .sp)) := by
  have h : (s.setSreg .ss (s.bankWord o (offSReg .ss))).bankWord o (offReg16 .sp) = s.bankWord o (offReg16 .sp) :=
    State.bankWord_setBankWord_other _ _ (by decide) (by decide) (.inr (by decide))
  rw [State.copyStackFrom, ← h]

theorem exec_movspb (r : Reg16) (s : State) :
    exec (.movspbReg16 r) s = .next (s.copyStackTo ((s.reg16 r).extractLsb' 0 3)) := by
  show act (bankNumber r >>= fun n => update fun s => s.copyStackTo n) s = _
  rw [bankNumber, act_bind_reads]
  rfl

theorem copyStackTo_eq (s : State) (n : BitVec 3) : s.copyStackTo n =
    (s.setBankWord n (offSReg .ss) (s.sreg .ss)).setBankWord n (offReg16 .sp) (s.reg16 .sp) := by
  have h : (s.setBankWord n (offSReg .ss) (s.sreg .ss)).reg16 .sp = s.reg16 .sp :=
    State.bankWord_setBankWord_other _ _ (by decide) (by decide) (.inr (by decide))
  rw [State.copyStackTo, ← h]

/-- Settles O44. -/
theorem bankSwitching : Obligations.BankSwitching := by
  refine ⟨fun n ret s => bankEntry_spec ret s, fun r s h => ⟨?_, ?_⟩, fun r s h => ⟨?_, ?_⟩, fun s => exec_retrbi,
    fun s => exec_retrbi_refused, fun n ret mask s t h15 h => ?_, fun s => ?_, fun r s => ?_⟩
  · obtain ⟨hie, hbrk⟩ := flag_clearIeBrk (s.switched ((s.reg16 r).extractLsb' 0 3) s.pc)
    refine ⟨(s.switched ((s.reg16 r).extractLsb' 0 3) s.pc).clearIeBrk.withTrace false, ?_,
      (switched_clearIeBrk_spec s.pc s (switched_spec s.pc s)).congr s.pc s rfl rfl rfl rfl ?_, hie, hbrk, rfl, rfl, rfl, rfl, rfl⟩
    · rw [exec_brkcs]
      refine act_of_ok ?_
      rw [M.bind_of_ok (switchTo_other s.pc s h)]; rfl
    · constructor <;> intros <;> rfl
  · refine ⟨_, ?_, switched_spec s.pc s, ⟨rfl, rfl, rfl, rfl, rfl⟩⟩
    rw [exec_tsksw]
    exact act_of_ok (switchTo_other s.pc s h)
  · rw [exec_brkcs]
    exact act_of_refused (bind_of_error (switchTo_current s.pc s h))
  · rw [exec_tsksw]
    exact act_of_refused (switchTo_current s.pc s h)
  · have hpsw : t.bankWord t.bank offPswSave = s.psw := by rw [h.bank, h.savedPsw]
    have hpc : t.bankWord t.bank offPcSave = ret := by rw [h.bank, h.savedPc]
    have he := exec_retrbi (s := t) (by rw [hpsw]; exact h15)
    rw [hpsw, hpc] at he
    exact ⟨_, he, rfl, rfl, rfl⟩
  · refine ⟨_, exec_movspa s, ?_⟩
    rw [copyStackFrom_eq]
    have hss := frame_setSreg s .ss (s.bankWord (bankOf (s.bankWord s.bank offPswSave)) (offSReg .ss))
    exact ⟨⟨(State.sreg_setReg16 _ _ _ _).trans (State.sreg_setSreg_same _ _ _), State.reg16_setReg16_same _ _ _⟩, rfl,
      (quiet_setSreg _ _ _).trans (quiet_setReg16 _ _ _),
      hss.then (frame_setReg16 (s.setSreg .ss _) .sp _) (hr1 := List.subset_append_left _ _)
        (hr2 := List.subset_append_right _ _)⟩
  · refine ⟨_, exec_movspb r s, ?_⟩
    rw [copyStackTo_eq]
    have hss := frame_setBankWord s ((s.reg16 r).extractLsb' 0 3) (offSReg .ss) (s.sreg .ss)
    exact ⟨⟨(State.bankWord_setBankWord_other _ _ (by decide) (by decide) (.inr (by decide))).trans
        (State.bankWord_setBankWord_same _ _ _ (by decide)), State.bankWord_setBankWord_same _ _ _ (by decide),
        hss.then (frame_setBankWord _ _ _ _)⟩, rfl, ⟨rfl, rfl, rfl, rfl, rfl⟩⟩

/-! ### Breaks -/

theorem act_bind_of_ok {α : Type} {x : M α} {f : α → M Unit} {s t : State} {a : α} (h : x s = .ok (a, t)) :
    act (x >>= f) s = act (f a) t := by
  unfold act
  rw [M.bind_of_ok h]

theorem exec_chkind (r : Reg16) (m : MemOp) (s : State) : exec (.chkind r m) s =
    act (readPair (s.memSeg m) (s.ea m) >>= fun bounds => reads (fun s => s.reg16 r) >>= fun x =>
      if x.toInt < bounds.1.toInt ∨ bounds.2.toInt < x.toInt then trapPc Config.chkindSavesNext >>= raise 5 else pure ()) s := by
  show act (checkIndex r m) s = _
  rw [checkIndex, act_bind_reads, act_bind_reads]

/-- CHKIND once its bounds are read. -/
theorem exec_chkind_of_ok {r : Reg16} {m : MemOp} {s s1 : State} {p : Word × Word}
    (h : readPair (s.memSeg m) (s.ea m) s = .ok (p, s1)) : exec (.chkind r m) s =
    act (if (s.reg16 r).toInt < p.1.toInt ∨ p.2.toInt < (s.reg16 r).toInt then raise 5 (if Config.chkindSavesNext then s.pc else s.start)
      else pure ()) s1 := by
  have hr := (readPair_frame h).1
  rw [exec_chkind, ← hr.reg16, ← hr.pc, ← hr.start, act_bind_of_ok h, act_bind_reads]
  by_cases hout : (s1.reg16 r).toInt < p.1.toInt ∨ p.2.toInt < (s1.reg16 r).toInt
  · rw [if_pos hout, if_pos hout, trapPc, act_bind_reads]
  · rw [if_neg hout, if_neg hout]

theorem exec_brk3 (s : State) : exec .brk3 s = act (raise 3 s.pc) s :=
  show act (reads State.pc >>= raise 3) s = _ from act_bind_reads _ _ _

theorem exec_brkImm8 (v : Byte) (s : State) : exec (.brkImm8 v) s = act (raise v s.pc) s :=
  show act (reads State.pc >>= raise v) s = _ from act_bind_reads _ _ _

theorem exec_brkv (s : State) : exec .brkv s = act (if s.flag .v = true then raise 4 s.pc else pure ()) s := by
  show act (reads (fun s => s.flag .v) >>= fun b => if b = true then reads State.pc >>= raise 4 else pure ()) s = _
  rw [act_bind_reads]
  by_cases hv : s.flag .v = true
  · rw [if_pos hv, if_pos hv, act_bind_reads]
  · rw [if_neg hv, if_neg hv]

theorem act_floatingPointTrap (s : State) :
    act floatingPointTrap s = act (raise 7 (if Config.fpoSavesNext then s.pc else s.start)) s := by
  rw [floatingPointTrap, trapPc, act_bind_reads]

theorem exec_fpo1 (op reg : BitVec 3) (e : RM Reg16) (s : State) :
    exec (.fpo1 op reg e) s = act (raise 7 (if Config.fpoSavesNext then s.pc else s.start)) s := act_floatingPointTrap s

theorem exec_fpo2 (op : BitVec 1) (reg : BitVec 3) (e : RM Reg16) (s : State) :
    exec (.fpo2 op reg e) s = act (raise 7 (if Config.fpoSavesNext then s.pc else s.start)) s := act_floatingPointTrap s

/-- Settles O45. -/
theorem breakInstructions : Obligations.BreakInstructions := by
  refine ⟨fun s h => entered_of_exec (exec_brk3 s) h, fun v s h => entered_of_exec (exec_brkImm8 v s) h, fun s hv h => ?_, fun s hv => ?_,
    fun r m s h => ?_, fun r m s h => ?_, fun op reg e s h => entered_of_exec (exec_fpo1 op reg e s) h,
    fun op reg e s h => entered_of_exec (exec_fpo2 op reg e s) h⟩
  · exact entered_of_exec ((exec_brkv s).trans (by rw [if_pos hv])) h
  · rw [exec_brkv, if_neg (by rw [hv]; decide)]
    rfl
  · obtain ⟨p, s1, h1, hr⟩ := readPair_of_ok h
    refine ⟨p, s1, h1, hr.quiet, (readPair_frame h1).2, fun hlo hhi => ?_, fun hout hok => ?_⟩
    · rw [exec_chkind_of_ok h1, if_neg (not_or.2 ⟨Int.not_lt.2 hlo, Int.not_lt.2 hhi⟩)]
      rfl
    · exact entered_of_exec ((exec_chkind_of_ok h1).trans (by rw [if_pos hout])) (by rw [hr.entryOk, hok])
  · rw [exec_chkind]
    exact act_of_refused (bind_of_error (readPair_refused h s))

end Sys2Proof.Machine


namespace Sys2Proof.Machine

-- Declarations are checked one after another, which keeps the memory of a compile bounded.
set_option Elab.async false

/-! ## Control transfer and the stack (O54, O55, O56, O58) -/

/-! ### PC through an access -/

theorem writeSfr_pc {o v : Byte} {s t : State} (h : writeSfr o v s = .ok ((), t)) : t.pc = s.pc := by
  by_cases ho : o ∈ sfrSpecialOffsets
  · simp only [sfrSpecialOffsets, List.mem_cons, List.not_mem_nil, or_false] at ho
    rcases ho with rfl | rfl | rfl | rfl <;> cases h <;> rfl
  · cases hk : sfrByteKind o with
    | wordOnly => rw [writeSfr_wordOnly hk] at h; cases h
    | reserved => rw [writeSfr_of_unwritable ho s v (.inl hk)] at h; cases h; rfl
    | register access =>
      cases access with
      | readOnly => rw [writeSfr_of_unwritable ho s v (.inr hk)] at h; cases h; rfl
      | readWrite => rw [writeSfr_of_peripheral ho s v (.inl hk)] at h; cases h; rfl
      | writeOnly => rw [writeSfr_of_peripheral ho s v (.inr hk)] at h; cases h; rfl

theorem writeExt_pc {a : PhysAddr} {v : Byte} {s t : State} (h : writeExt a v s = .ok ((), t)) : t.pc = s.pc := by
  unfold writeExt at h
  repeat' split at h
  all_goals cases h
  all_goals rfl

theorem writeByte_pc {a : PhysAddr} {v : Byte} {s t : State} (h : writeByte a v s = .ok ((), t)) : t.pc = s.pc := by
  cases hg : s.target a with
  | idbReg => rw [writeByte_of_idb hg] at h; cases h; rfl
  | sfr o => rw [writeByte_of_sfr hg] at h; exact writeSfr_pc h
  | iram k => rw [writeByte_of_iram hg] at h; cases h; rfl
  | ext => rw [writeByte_of_ext hg] at h; exact writeExt_pc h

theorem writeWord_pc {a : PhysAddr} {v : Word} {s t : State} (h : writeWord a v s = .ok ((), t)) : t.pc = s.pc := by
  cases hw : s.isSfrWord a
  · rw [writeWord_bytes hw] at h
    obtain ⟨_, u, h1, h2⟩ := M.bind_ok.1 h
    exact (writeByte_pc h2).trans (writeByte_pc h1)
  · rw [writeWord_of_isSfrWord hw] at h; cases h; rfl

theorem push16_pc {v : Word} {s t : State} (h : push16 v s = .ok ((), t)) : t.pc = s.pc := by
  unfold push16 at h
  rw [M.bind_update, M.bind_reads, M.bind_reads] at h
  exact (writeWord_pc (show writeWord _ v _ = _ from h)).trans rfl

/-! ### Branches -/

theorem act_branchIf (taken : State → Bool) (disp : Byte) (s : State) : act (reads taken >>= fun b => branchIf b disp) s =
    .next (if taken s then s.loadPc (s.pc + disp.signExtend 16) else s) := by
  rw [act_bind_reads, branchIf]
  cases taken s <;> rfl

theorem act_branchIf_of_eq {taken cond : State → Bool} (h : ∀ s, taken s = cond s) (disp : Byte) (s : State) :
    act (reads taken >>= fun b => branchIf b disp) s = .next (if cond s then s.loadPc (s.pc + disp.signExtend 16) else s) := by
  rw [act_branchIf, h]

theorem exec_branches : ∀ p ∈ branches, ∀ (disp : Byte) (s : State),
    exec (p.2 disp) s = .next (if p.1 s then s.loadPc (s.pc + disp.signExtend 16) else s) := by
  simp only [branches, List.forall_mem_cons]
  refine ⟨act_branchIf fun s => s.flag .v, act_branchIf fun s => !s.flag .v,
    act_branchIf fun s => s.flag .cy, act_branchIf fun s => !s.flag .cy, act_branchIf fun s => s.flag .z, act_branchIf fun s => !s.flag .z,
    act_branchIf fun s => s.flag .cy || s.flag .z, act_branchIf fun s => !(s.flag .cy || s.flag .z),
    act_branchIf fun s => s.flag .s, act_branchIf fun s => !s.flag .s, act_branchIf fun s => s.flag .p, act_branchIf fun s => !s.flag .p,
    act_branchIf fun s => s.flag .s ^^ s.flag .v,
    act_branchIf_of_eq (taken := fun s => !(s.flag .s ^^ s.flag .v)) fun s => ?_,
    act_branchIf fun s => (s.flag .s ^^ s.flag .v) || s.flag .z,
    act_branchIf_of_eq (taken := fun s => !((s.flag .s ^^ s.flag .v) || s.flag .z)) fun s => ?_, by simp⟩
  · cases s.flag .s <;> cases s.flag .v <;> rfl
  · cases s.flag .s <;> cases s.flag .v <;> cases s.flag .z <;> rfl

theorem act_loopIf (cond : State → Bool) (hc : ∀ (s : State) v, cond (s.setReg16 .cw v) = cond s) (disp : Byte) (s : State) :
    act (loopIf cond disp) s = .next (if s.reg16 .cw - 1 ≠ 0 ∧ cond s = true then
      (s.setReg16 .cw (s.reg16 .cw - 1)).loadPc (s.pc + disp.signExtend 16) else s.setReg16 .cw (s.reg16 .cw - 1)) := by
  rw [loopIf, act_bind_update, act_branchIf, State.reg16_setReg16_same, hc]
  simp only [Bool.and_eq_true, bne_iff_ne]
  rfl

theorem exec_loops : ∀ p ∈ loops, ∀ (disp : Byte) (s : State), exec (p.2 disp) s =
    .next (if s.reg16 .cw - 1 ≠ 0 ∧ p.1 s = true then
      (s.setReg16 .cw (s.reg16 .cw - 1)).loadPc (s.pc + disp.signExtend 16) else s.setReg16 .cw (s.reg16 .cw - 1)) := by
  intro p hp
  simp only [loops, List.mem_cons, List.not_mem_nil, or_false] at hp
  rcases hp with rfl | rfl | rfl
  · exact act_loopIf (fun s => !s.flag .z) fun _ _ => rfl
  · exact act_loopIf (fun s => s.flag .z) fun _ _ => rfl
  · exact act_loopIf (fun _ => true) fun _ _ => rfl

theorem exec_brEw (e : RM Reg16) (s : State) :
    exec (.brEw e) s = act (readRM wordOp e >>= fun target => update fun s => s.loadPc target) s := rfl

theorem exec_brMem32 (m : MemOp) (s : State) : exec (.brMem32 m) s =
    act (readPair (s.memSeg m) (s.ea m) >>= fun target => update fun s => (s.setSreg .ps target.2).loadPc target.1) s := rfl

theorem exec_btclr (sfr imm disp : Byte) (s : State) : exec (.btclr sfr imm disp) s =
    act (readByte (s.sfrAddr sfr) >>= fun t => if t.getLsbD (imm.toNat % 8) then
      (writeByte (s.sfrAddr sfr) (putBit t (imm.toNat % 8) false) >>= fun _ => branchShort disp) else pure ()) s := by
  show act (reads (fun s => s.area ++ 0xF#4 ++ sfr) >>= _) s = _
  rw [act_bind_reads]
  rfl

/-- BTCLR once its register is read. -/
theorem exec_btclr_of_ok {sfr imm disp v : Byte} {s u : State} (h : readByte (s.sfrAddr sfr) s = .ok (v, u)) :
    exec (.btclr sfr imm disp) s = act (if v.getLsbD (imm.toNat % 8) then
      (writeByte (s.sfrAddr sfr) (putBit v (imm.toNat % 8) false) >>= fun _ => branchShort disp) else pure ()) u := by
  rw [exec_btclr, act_bind_of_ok h]

/-- Settles O54. -/
theorem branchesEnd : Obligations.Branches := by
  refine ⟨exec_branches, exec_loops, fun disp s => ?_, fun _ _ => rfl, fun _ _ => rfl,
    fun _ _ _ => rfl, fun e s hd => ?_, fun m s h => ?_, fun m s h => ?_, fun sfr imm disp s h => ?_, fun s x => ⟨rfl, rfl, rfl⟩⟩
  · refine (act_branchIf (fun s => s.reg16 .cw == 0) disp s).trans ?_
    simp only [beq_iff_eq]
  · obtain ⟨v, u, h1, -⟩ := readPlace_of_ok wordSize_lawful hd
    refine ⟨v, u, h1, ?_⟩
    rw [exec_brEw, act_bind_of_ok (show readRM wordOp e s = _ from h1)]
    rfl
  · obtain ⟨p, u, h1, -⟩ := readPair_of_ok h
    refine ⟨p, u, h1, ?_⟩
    rw [exec_brMem32, act_bind_of_ok h1]
    rfl
  · rw [exec_brMem32]
    exact act_of_refused (bind_of_error (readPair_refused h s))
  · obtain ⟨v, u, h1, hr⟩ := readByte_of_ok h
    obtain ⟨t, ht⟩ := writeByte_of_ok (s := u) (a := s.sfrAddr sfr) (by rw [hr.sameMap.byteOk, h]) (putBit v (imm.toNat % 8) false)
    refine ⟨v, u, h1, putBit v (imm.toNat % 8) false, t, fun j hj => ?_, ht, ?_⟩
    · rw [getLsbD_putBit _ _ _ _ hj]
      by_cases hne : imm.toNat % 8 = j
      · simp [hne]
      · simp [hne, Ne.symm hne]
    · rw [exec_btclr_of_ok h1]
      by_cases hbit : v.getLsbD (imm.toNat % 8) = true
      · rw [if_pos hbit, if_pos hbit, act_bind_of_ok ht, ← hr.pc, ← writeByte_pc ht]
        rfl
      · rw [if_neg hbit, if_neg hbit]
        rfl

end Sys2Proof.Machine


namespace Sys2Proof.Machine

-- Declarations are checked one after another, which keeps the memory of a compile bounded.
set_option Elab.async false

/-! ## Calls, returns, pushes and pops (O55, O56, O58) -/

/-! ### The stack of a state reached by reads -/

theorem ReadOnly.below {s t : State} (h : ReadOnly s t) (k : Nat) : t.below k = s.below k := by
  rw [State.below, h.sreg, h.reg16, State.below]

theorem ReadOnly.above {s t : State} (h : ReadOnly s t) (k : Nat) : t.above k = s.above k := by
  rw [State.above, h.sreg, h.reg16, State.above]

theorem ReadOnly.roomFor {s t : State} (h : ReadOnly s t) (n : Nat) : t.roomFor n = s.roomFor n := by
  simp only [State.roomFor, h.below, h.sameMap.ramWordAt]

theorem ReadOnly.pushBytes {s t : State} (h : ReadOnly s t) (n : Nat) : t.pushBytes n = s.pushBytes n := by
  simp only [State.pushBytes, h.below]

/-! ### A push, by the instruction that does it -/

section
variable {i : Instr} {s t : State} {v : Word}

theorem pushes_of_ok (h : s.wordOk (s.below 2) = true) (v : Word) : ∃ t, Pushes v s t ∧ push16 v s = .ok ((), t) :=
  push16_of_ok h v

theorem pushes_of_exec (hi : exec i s = act (push16 v) s) (h : s.wordOk (s.below 2) = true) :
    ∃ t, Pushes v s t ∧ exec i s = .next t := by
  obtain ⟨t, ht, hp⟩ := pushes_of_ok h v
  exact ⟨t, ht, hi.trans (act_of_ok hp)⟩

theorem pushFrame_of_ok (h : push16 v s = .ok ((), t)) :
    Quiet s t ∧ Frame s t (wordSize.keys s .sp) 0 [] (s.pushBytes 1) := push16_frame h

theorem pushFrame_of_exec (hi : exec i s = act (push16 v) s) (h : exec i s = .next t) :
    Quiet s t ∧ Frame s t (wordSize.keys s .sp) 0 [] (s.pushBytes 1) := pushFrame_of_ok (act_eq_next.1 (hi.symm.trans h))

end

section
variable (s : State)

theorem act_pushRm_reg {r : Reg16} (h : r ≠ .sp) : act (pushRm (.reg r)) s = act (push16 (s.reg16 r)) s := by
  rw [pushRm, if_neg (fun e => h (RM.reg.inj e))]
  rfl

theorem act_pushRm_sp :
    act (pushRm (.reg .sp)) s = act (push16 (if Config.pushSpStoresNew then s.reg16 .sp - 2 else s.reg16 .sp)) s := by
  rw [pushRm, if_pos rfl, act_bind_reads]

theorem act_pushRm_mem (m : MemOp) : act (pushRm (.mem m)) s = act (readWord (phys (s.memSeg m) (s.ea m)) >>= push16) s := by
  rw [pushRm, if_neg (fun e => by cases e)]
  rfl

theorem exec_sregPushes : ∀ p ∈ sregPushes, ∀ s, exec p.2 s = act (push16 (s.sreg p.1)) s := by
  intro p hp s
  have h (r : SReg) : act (pushSreg r) s = act (push16 (s.sreg r)) s := by rw [pushSreg, act_bind_reads]
  simp only [sregPushes, List.mem_cons, List.not_mem_nil, or_false] at hp
  rcases hp with rfl | rfl | rfl | rfl <;> exact h _

theorem exec_pushReg16 (r : Reg16) : exec (.pushReg16 r) s = act (pushRm (.reg r)) s := rfl
theorem exec_pushEw (e : RM Reg16) : exec (.pushEw e) s = act (pushRm e) s := rfl
theorem exec_pushImm16 (imm : Word) : exec (.pushImm16 imm) s = act (push16 imm) s := rfl
theorem exec_pushImm8 (imm : Byte) : exec (.pushImm8 imm) s = act (push16 (imm.signExtend 16)) s := rfl
theorem exec_pushPsw : exec .pushPsw s = act (push16 s.psw) s :=
  show act (reads State.psw >>= push16) s = _ from act_bind_reads _ _ _

/-- A push of a register stores some word. -/
theorem exec_pushReg16_some (r : Reg16) : ∃ v, exec (.pushReg16 r) s = act (push16 v) s := by
  by_cases h : r = .sp
  · subst h; exact ⟨_, act_pushRm_sp s⟩
  · exact ⟨_, act_pushRm_reg s h⟩

/-! ### A pop -/

/-- What a pop that completes has done. -/
theorem pops_of_pop16 {s t : State} {v : Word} (h : pop16 s = .ok (v, t)) :
    ∃ u, ReadOnly s u ∧ readWord (s.above 0) s = .ok (v, u) ∧ t = u.setReg16 .sp (s.reg16 .sp + 2) := by
  unfold pop16 at h
  rw [M.bind_reads, M.bind_reads] at h
  obtain ⟨v', u, h1, h2⟩ := M.bind_ok.1 h
  cases h2
  have hr := (readWord_frame (show readWord _ s = _ from h1)).1
  exact ⟨u, hr, by rw [State.above_zero]; exact h1, congrArg (fun x => u.setReg16 .sp (x + 2)) (hr.reg16 .sp)⟩

theorem pops_of_ok {s : State} (h : s.wordOk (s.above 0) = true) : ∃ v u, Pops s v u ∧ pop16 s = .ok (v, u) := by
  obtain ⟨v, s1, h1, hr, hp⟩ := pop16_of_ok h
  exact ⟨v, _, ⟨s1, h1, rfl⟩, by rw [hp, hr.reg16]⟩

theorem exec_popReg16 (r : Reg16) : exec (.popReg16 r) s = act (pop16 >>= fun v => update fun s => s.setReg16 r v) s := rfl

theorem exec_sregPops : ∀ p ∈ sregPops, ∀ s, exec p.2 s =
    act (pop16 >>= fun v => update fun s => (s.setSreg p.1 v).protectBoundary) s := by
  intro p hp s
  simp only [sregPops, List.mem_cons, List.not_mem_nil, or_false] at hp
  rcases hp with rfl | rfl | rfl <;> rfl

theorem exec_popEw (e : RM Reg16) : exec (.popEw e) s = act (pop16 >>= fun v => writePlace wordOp (s.place e) v) s :=
  show act (reads (fun s => s.place e) >>= fun d => pop16 >>= fun v => writePlace wordOp d v) s = _ from act_bind_reads _ _ _

theorem exec_popPsw : exec .popPsw s = act (pop16 >>= fun image => if bit15 image then
    update fun s => s.withPsw (popImage s.psw image) else refuses .psw15Zero) s := rfl

theorem exec_dispose : exec .dispose s =
    act (pop16 >>= fun v => update fun s => s.setReg16 .bp v) (s.setReg16 .sp (s.reg16 .bp)) :=
  show act (update (fun s => s.setReg16 .sp (s.reg16 .bp)) >>= fun _ => pop16 >>= fun v => setReg wordOp .bp v) s = _ from
    act_bind_update _ _ _

end

theorem SameMap.placeOk_word {s t : State} (h : SameMap s t) (p : Place Reg16) : wordSize.placeOk t p = wordSize.placeOk s p :=
  h.placeOk wordSize_lawful p

/-- Settles O56. -/
theorem pushAndPop : Obligations.PushAndPop := by
  refine ⟨fun s h => ⟨fun r hr => ?_, ?_, fun p hp => pushes_of_exec (exec_sregPushes p hp s) h,
    fun imm => pushes_of_exec (exec_pushImm16 s imm) h, fun imm => pushes_of_exec (exec_pushImm8 s imm) h,
    pushes_of_exec (exec_pushPsw s) h, fun m hm => ?_⟩, fun s h => ⟨fun r => ?_, fun p hp => ?_, fun e he => ?_⟩,
    fun s h => ⟨fun hb => ?_, fun hb => ?_⟩, fun s h => ?_⟩
  · obtain ⟨t, ht, hp⟩ := pushes_of_ok h (s.reg16 r)
    have he := (act_pushRm_reg s hr).trans (act_of_ok hp)
    exact ⟨t, ht, he, he⟩
  · obtain ⟨t, ht, hp⟩ := pushes_of_ok h (if Config.pushSpStoresNew then s.reg16 .sp - 2 else s.reg16 .sp)
    have he := (act_pushRm_sp s).trans (act_of_ok hp)
    exact ⟨t, ht, he, he⟩
  · obtain ⟨v, u, h1, hr⟩ := readWord_of_ok hm
    obtain ⟨t, ht, hp⟩ := pushes_of_ok (s := u) (by rw [hr.below, hr.sameMap.wordOk, h]) v
    exact ⟨v, u, t, h1, ht, by rw [exec_pushEw, act_pushRm_mem, act_bind_of_ok h1]; exact act_of_ok hp⟩
  · obtain ⟨v, u, hp, he⟩ := pops_of_ok h
    exact ⟨v, u, hp, by rw [exec_popReg16, act_bind_of_ok he]; rfl⟩
  · obtain ⟨v, u, hp', he⟩ := pops_of_ok h
    exact ⟨v, u, hp', by rw [exec_sregPops p hp, act_bind_of_ok he]; rfl⟩
  · obtain ⟨v, s1, h1, hr, hp⟩ := pop16_of_ok h
    have m := hr.sameMap.trans (sameMap_setReg16 s1 .sp (s.reg16 .sp + 2))
    obtain ⟨t, ht⟩ := writePlace_of_ok wordSize_lawful (s := s1.setReg16 .sp (s.reg16 .sp + 2)) (p := s.place e)
      (by rw [m.placeOk_word, he]) v
    exact ⟨v, _, t, ⟨s1, h1, by rw [hr.reg16]⟩, ht, by rw [exec_popEw, act_bind_of_ok hp]; exact act_of_ok ht⟩
  · rw [exec_popPsw, act_bind_of_ok (pop16_mem h), if_pos hb]
    rfl
  · rw [exec_popPsw, act_bind_of_ok (pop16_mem h), if_neg (by rw [hb]; decide)]
    rfl
  · have h0 : (s.setReg16 .sp (s.reg16 .bp)).above 0 = phys (s.sreg .ss) (s.reg16 .bp) := by
      rw [State.above_zero, State.sreg_setReg16, State.reg16_setReg16_same]
    obtain ⟨v, u, hp, he⟩ := pops_of_ok (s := s.setReg16 .sp (s.reg16 .bp))
      (by rw [h0, (sameMap_setReg16 _ _ _).wordOk, h])
    exact ⟨v, u, hp, by rw [exec_dispose, act_bind_of_ok he]; rfl⟩

/-! ### Calls and returns -/

section
variable (s : State)

theorem exec_callNear (disp : Word) : exec (.callNear disp) s =
    act (push16 s.pc >>= fun _ => update fun t => t.loadPc (s.pc + disp)) s :=
  show act (reads State.pc >>= fun next => push16 next >>= fun _ => update fun t => t.loadPc (next + disp)) s = _ from
    act_bind_reads _ _ _

theorem exec_callEw (e : RM Reg16) : exec (.callEw e) s =
    act (readRM wordOp e >>= fun v => reads State.pc >>= fun next => push16 next >>= fun _ => update fun t => t.loadPc v) s := rfl

/-- CALL through an operand once the operand is read. -/
theorem exec_callEw_of_ok {e : RM Reg16} {v : Word} {s u : State} (h : readPlace wordOp (s.place e) s = .ok (v, u)) :
    exec (.callEw e) s = act (push16 s.pc >>= fun _ => update fun t => t.loadPc v) u := by
  have hr := (readPlace_frame wordSize_lawful (show readPlace wordSize.ops _ _ = _ from h)).1
  rw [exec_callEw, act_bind_of_ok (show readRM wordOp e s = _ from h), act_bind_reads, hr.pc]

theorem exec_callFar (off seg : Word) : exec (.callFar off seg) s = act (callFarTo seg off) s := rfl

theorem exec_callMem32 (m : MemOp) : exec (.callMem32 m) s =
    act (readPair (s.memSeg m) (s.ea m) >>= fun target => callFarTo target.2 target.1) s := rfl

theorem exec_retNear : exec .retNear s = act (pop16 >>= fun v => update fun s => s.loadPc v) s := rfl

theorem exec_retNearPop (imm : Word) : exec (.retNearPop imm) s =
    act (pop16 >>= fun v => discard imm >>= fun _ => update fun s => s.loadPc v) s := rfl

theorem exec_retFar : exec .retFar s = act (pop16 >>= fun off => pop16 >>= fun seg => jumpFar seg off) s := rfl

theorem exec_retFarPop (imm : Word) : exec (.retFarPop imm) s =
    act (pop16 >>= fun off => pop16 >>= fun seg => discard imm >>= fun _ => jumpFar seg off) s := rfl

theorem State.pushBytes_two : s.pushBytes 2 = [s.below 2, s.below 2 + 1, s.below 4, s.below 4 + 1] := rfl

end

/-- A far call on a stack in plain memory. -/
theorem callFarTo_spec {s : State} (h : s.roomFor 2 = true) (seg off : Word) : ∃ t, callFarTo seg off s = .ok ((), t) ∧
    FarCalled seg off s t ∧ Quiet s t ∧ Frame s t (wordSize.keys s .sp ++ sregKeys s .ps) 0 [] (s.pushBytes 2) := by
  obtain ⟨t1, p1, m1, psw1, bank1, pc1, sreg1, -, sp1, w1, -⟩ :=
    push16_chain (s := s) (u := s) (k := 0) (by decide) (.refl s) rfl (by simp) (s.roomFor_get h (i := 0) (by decide)) (s.sreg .ps)
  obtain ⟨q1, f1⟩ := pushFrame_of_ok p1
  obtain ⟨t2, p2, m2, psw2, bank2, pc2, sreg2, -, sp2, w2, keep2⟩ := push16_chain (s := s) (u := t1) (k := 2)
    (by decide) m1 (sreg1 .ss) sp1 (s.roomFor_get h (i := 1) (by decide)) s.pc
  have f2 := push16_chain_frame bank1 (sreg1 .ss) sp1 p2
  have f3 := frame_setSreg_of_bank (s := s) (bank2.trans bank1) .ps seg
  refine ⟨(t2.setSreg .ps seg).loadPc off, ?_, ⟨?_, w2, (State.reg16_setSreg _ _ _ _).trans sp2, State.sreg_setSreg_same _ _ _,
    rfl, rfl⟩, (q1.trans (push16_frame p2).1).trans ⟨rfl, rfl, rfl, rfl, rfl⟩, ?_⟩
  · rw [callFarTo, M.bind_reads, M.bind_of_ok p1, M.bind_reads, pc1, M.bind_of_ok p2]
    rfl
  · exact (keep2 2 (by decide) (by decide)).trans w1
  · rw [State.pushBytes_two]
    have f12 : Frame s t2 (wordSize.keys s .sp) 0 [] [s.below 2, s.below 2 + 1, s.below 4, s.below 4 + 1] :=
      f1.then f2 (hr2 := List.Subset.refl _) (hs1 := by simp [State.pushBytes])
    have f123 : Frame s (t2.setSreg .ps seg) (wordSize.keys s .sp ++ sregKeys s .ps) 0 []
      [s.below 2, s.below 2 + 1, s.below 4, s.below 4 + 1] := f12.then f3
    exact f123.then (frame_loadPc _ _)

/-- Settles O55. -/
theorem callsAndReturns : Obligations.CallsAndReturns := by
  refine ⟨fun disp s h => ?_, fun e s hd h => ?_, fun off seg s h => ?_, fun m s hp h => ?_, fun m s h => ?_, fun s h => ?_,
    fun imm s h => ?_, fun s h => ?_, fun imm s h => ?_⟩
  · obtain ⟨t, ht, hp⟩ := pushes_of_ok h s.pc
    exact ⟨t, ht, by rw [exec_callNear, act_bind_of_ok hp]; rfl⟩
  · obtain ⟨v, u, h1, hr⟩ := readPlace_of_ok wordSize_lawful hd
    obtain ⟨t, ht, hp⟩ := pushes_of_ok (s := u) (by rw [hr.below, hr.sameMap.wordOk, h]) s.pc
    exact ⟨v, u, t, h1, ht, by rw [exec_callEw_of_ok h1, act_bind_of_ok hp]; rfl⟩
  · obtain ⟨t, ht, hc, -⟩ := callFarTo_spec h seg off
    exact ⟨t, act_of_ok ht, hc⟩
  · obtain ⟨p, u, h1, hr⟩ := readPair_of_ok hp
    obtain ⟨t, ht, hc, -⟩ := callFarTo_spec (s := u) (by rw [hr.roomFor, h]) p.2 p.1
    exact ⟨p, u, t, h1, by rw [exec_callMem32, act_bind_of_ok h1]; exact act_of_ok ht, hc⟩
  · rw [exec_callMem32]
    exact act_of_refused (bind_of_error (readPair_refused h s))
  · obtain ⟨v, u, hp, he⟩ := pops_of_ok h
    exact ⟨v, u, hp, by rw [exec_retNear, act_bind_of_ok he]; rfl⟩
  · obtain ⟨v, u, hp, he⟩ := pops_of_ok h
    exact ⟨v, u, hp, by rw [exec_retNearPop, act_bind_of_ok he]; rfl⟩
  · obtain ⟨u1, e1, p1, -⟩ := (Popped.refl _ s).pop16 (List.Subset.refl _) (s.holdsWords_get h (i := 0) (by decide))
    obtain ⟨u2, e2, p2, -⟩ := p1.pop16 (List.Subset.refl _) (s.holdsWords_get h (i := 1) (by decide))
    refine ⟨(u2.setSreg .ps (s.extWord (s.above 2))).loadPc (s.extWord (s.above 0)),
      by rw [exec_retFar, act_bind_of_ok e1, act_bind_of_ok e2]; rfl, rfl, State.sreg_setSreg_same _ _ _,
      (State.reg16_setSreg _ _ _ _).trans p2.sp, rfl⟩
  · obtain ⟨u1, e1, p1, -⟩ := (Popped.refl _ s).pop16 (List.Subset.refl _) (s.holdsWords_get h (i := 0) (by decide))
    obtain ⟨u2, e2, p2, -⟩ := p1.pop16 (List.Subset.refl _) (s.holdsWords_get h (i := 1) (by decide))
    refine ⟨((u2.setReg16 .sp (u2.reg16 .sp + imm)).setSreg .ps (s.extWord (s.above 2))).loadPc (s.extWord (s.above 0)),
      by rw [exec_retFarPop, act_bind_of_ok e1, act_bind_of_ok e2]; rfl, rfl, State.sreg_setSreg_same _ _ _, ?_, rfl⟩
    refine (State.reg16_setSreg _ _ _ _).trans ?_
    rw [State.reg16_setReg16_same, p2.sp]
    rfl

/-! ### What they leave unchanged -/

/-- A read, then a push of a word and perhaps a load of PC. -/
theorem readThenPush_frame {s u t : State} {v : Word} {loaded : List PhysAddr} (hr : ReadOnly s u) (f1 : Frame s u [] 0 loaded [])
    (h : push16 v u = .ok ((), t)) : Quiet s t ∧ Frame s t (wordSize.keys s .sp) 0 loaded (s.pushBytes 1) := by
  obtain ⟨q2, f2⟩ := pushFrame_of_ok h
  rw [wordSize_lawful.keys_bank hr.bank, hr.pushBytes] at f2
  exact ⟨hr.quiet.trans q2, f1.then f2 (hr2 := List.Subset.refl _) (hl1 := List.Subset.refl _) (hs2 := List.Subset.refl _)⟩

theorem writePlace_pc {p : Place Reg16} {v : Word} {s t : State} (h : writePlace wordOp p v s = .ok ((), t)) : t.pc = s.pc := by
  cases p with
  | reg r => cases h; rfl
  | mem seg off => exact writeWord_pc (show writeWord _ v s = _ from h)

/-- A pop loads the word on top of the stack and raises SP. -/
theorem popFrame_of_ok {s t : State} {v : Word} (h : pop16 s = .ok (v, t)) :
    Quiet s t ∧ Frame s t (wordSize.keys s .sp) 0 (wordSize.span (s.above 0)) [] := pop16_frame h

theorem pop16_bank {s t : State} {v : Word} (h : pop16 s = .ok (v, t)) : t.bank = s.bank := by
  obtain ⟨u, hr, -, rfl⟩ := pops_of_pop16 h
  exact hr.bank

theorem pop16_pc {s t : State} {v : Word} (h : pop16 s = .ok (v, t)) : t.pc = s.pc := by
  obtain ⟨u, hr, -, rfl⟩ := pops_of_pop16 h
  exact hr.pc

theorem pop16_above {s t : State} {v : Word} (h : pop16 s = .ok (v, t)) (k : Nat) : t.above k = s.above (2 + k) := by
  obtain ⟨u, hr, -, rfl⟩ := pops_of_pop16 h
  exact State.above_raised ((State.sreg_setReg16 _ _ _ _).trans (hr.sreg .ss)) (State.reg16_setReg16_same _ _ _) k

/-- Two pops, of the words on top of the stack. -/
theorem popTwo_frame {s u t : State} {v w : Word} (h1 : pop16 s = .ok (v, u)) (h2 : pop16 u = .ok (w, t)) :
    Quiet s t ∧ Frame s t (wordSize.keys s .sp) 0 (wordSize.span (s.above 0) ++ wordSize.span (s.above 2)) [] := by
  obtain ⟨q1, f1⟩ := popFrame_of_ok h1
  obtain ⟨q2, f2⟩ := popFrame_of_ok h2
  rw [wordSize_lawful.keys_bank (pop16_bank h1), pop16_above h1] at f2
  exact ⟨q1.trans q2, f1.then f2 (hr1 := List.Subset.refl _) (hr2 := List.Subset.refl _) (hl1 := List.subset_append_left _ _)
    (hl2 := List.subset_append_right _ _)⟩

/-- A far return, from the state the pops and the discarding of arguments left. -/
theorem returnFar_frame {s u : State} {seg off : Word} {loaded : List PhysAddr} (hb : u.bank = s.bank)
    (h : Quiet s u ∧ Frame s u (wordSize.keys s .sp) 0 loaded []) : Quiet s ((u.setSreg .ps seg).loadPc off) ∧
    Frame s ((u.setSreg .ps seg).loadPc off) (wordSize.keys s .sp ++ sregKeys s .ps) 0 loaded [] := by
  obtain ⟨q, f⟩ := h
  have f1 : Frame s (u.setSreg .ps seg) (wordSize.keys s .sp ++ sregKeys s .ps) 0 loaded [] :=
    f.then (frame_setSreg_of_bank hb .ps seg) (hl1 := List.Subset.refl _)
  exact ⟨q.trans ⟨rfl, rfl, rfl, rfl, rfl⟩, f1.then (frame_loadPc _ _) (hr1 := List.Subset.refl _) (hl1 := List.Subset.refl _)⟩

/-- SP written once more by an instruction that writes it. -/
theorem discard_frame {s u : State} {loaded : List PhysAddr} (v : Word) (hb : u.bank = s.bank)
    (h : Quiet s u ∧ Frame s u (wordSize.keys s .sp) 0 loaded []) :
    Quiet s (u.setReg16 .sp v) ∧ Frame s (u.setReg16 .sp v) (wordSize.keys s .sp) 0 loaded [] :=
  ⟨h.1.trans (quiet_setReg16 _ _ _), h.2.then (frame_setReg16_of_bank hb .sp v) (hr1 := List.Subset.refl _)
    (hr2 := List.Subset.refl _) (hl1 := List.Subset.refl _)⟩

theorem loadPc_frame {s u : State} {regs : List Nat} {mask : Word} {loaded stored : List PhysAddr} (v : Word)
    (h : Quiet s u ∧ Frame s u regs mask loaded stored) :
    Quiet s (u.loadPc v) ∧ Frame s (u.loadPc v) regs mask loaded stored :=
  ⟨h.1.trans (quiet_loadPc _ _), h.2.trans ((frame_loadPc u v).mono (by simp) (by simp) (by simp) (by simp))⟩

theorem getLsbD_popImage {psw image : Word} {i : Nat} (hi : i < 16) (hm : (0x0FFF : Word).getLsbD i = false) :
    (popImage psw image).getLsbD i = psw.getLsbD i := by
  have h12 : ∀ j : Fin 16, (0x0FFF : Word).getLsbD j.val = false → ¬ j.val < 12 := by decide
  have hn : ¬ i < 12 := h12 ⟨i, hi⟩ hm
  have h4 : i - 12 < 4 := by omega
  have e : 12 + (i - 12) = i := by omega
  simp only [popImage, BitVec.getLsbD_append, BitVec.getLsbD_extractLsb', hn, h4, e, if_false, decide_true, Bool.true_and]

theorem pushShape_frame {s t : State} (h : (∃ disp, exec (.callNear disp) s = .next t) ∨ (∃ r, exec (.pushReg16 r) s = .next t) ∨
      (∃ p ∈ sregPushes, exec p.2 s = .next t) ∨ (∃ imm, exec (.pushImm16 imm) s = .next t) ∨
      (∃ imm, exec (.pushImm8 imm) s = .next t) ∨ exec .pushPsw s = .next t) :
    Quiet s t ∧ Frame s t (wordSize.keys s .sp) 0 [] (s.pushBytes 1) := by
  rcases h with ⟨disp, h⟩ | ⟨r, h⟩ | ⟨p, hp, h⟩ | ⟨imm, h⟩ | ⟨imm, h⟩ | h
  · rw [exec_callNear, act_eq_next] at h
    obtain ⟨_, u, h1, h2⟩ := M.bind_ok.1 h
    cases h2
    exact loadPc_frame _ (pushFrame_of_ok h1)
  · obtain ⟨v, hv⟩ := exec_pushReg16_some s r
    exact pushFrame_of_exec hv h
  · exact pushFrame_of_exec (exec_sregPushes p hp s) h
  · exact pushFrame_of_exec (exec_pushImm16 s imm) h
  · exact pushFrame_of_exec (exec_pushImm8 s imm) h
  · exact pushFrame_of_exec (exec_pushPsw s) h

theorem pushEw_frame {e : RM Reg16} {s t : State} (h : exec (.pushEw e) s = .next t) :
    Quiet s t ∧ Frame s t (wordSize.keys s .sp) 0 (wordSize.placeBytes (s.place e)) (s.pushBytes 1) := by
  cases e with
  | reg r => exact pushShape_frame (.inr (.inl ⟨r, h⟩))
  | mem m =>
    rw [exec_pushEw, act_pushRm_mem, act_eq_next] at h
    obtain ⟨v, u, h1, h2⟩ := M.bind_ok.1 h
    obtain ⟨hr, f1⟩ := readWord_frame h1
    exact readThenPush_frame hr f1 h2

theorem btclr_frame {sfr imm disp : Byte} {s t : State} (h : exec (.btclr sfr imm disp) s = .next t) :
    Quiet s t ∧ Frame s t [] 0 [s.sfrAddr sfr] [s.sfrAddr sfr] := by
  rw [exec_btclr, act_eq_next] at h
  obtain ⟨v, u, h1, h2⟩ := M.bind_ok.1 h
  obtain ⟨hr, f1⟩ := readByte_frame h1
  by_cases hb : v.getLsbD (imm.toNat % 8) = true
  · rw [if_pos hb] at h2
    obtain ⟨_, w, hw, h3⟩ := M.bind_ok.1 h2
    cases h3
    obtain ⟨q2, f2, -⟩ := writeByte_frame hw
    exact loadPc_frame _ ⟨hr.quiet.trans q2, f1.then f2⟩
  · rw [if_neg hb] at h2
    cases h2
    exact ⟨hr.quiet, f1.mono (by simp) (by simp) (by simp) (by simp)⟩

/-- Settles O58. -/
theorem controlAndStackFrame : Obligations.ControlAndStackFrame := by
  refine ⟨fun e s t h => ?_, fun m s t h => ?_, fun sfr imm disp s t => btclr_frame, fun s t => pushShape_frame, ?_,
    fun off seg s t hroom h => ?_, fun m s t hroom h => ?_, ?_, ?_, fun r s t h => ?_, fun p hp s t h => ?_, fun e s t h => ?_,
    fun s t h => ?_, fun s t h => ?_⟩
  · rw [exec_brEw, act_eq_next] at h
    obtain ⟨v, u, h1, h2⟩ := M.bind_ok.1 h
    cases h2
    obtain ⟨hr, f1⟩ := readPlace_frame wordSize_lawful (show readPlace wordSize.ops (s.place e) s = _ from h1)
    exact loadPc_frame _ ⟨hr.quiet, f1⟩
  · rw [exec_brMem32, act_eq_next] at h
    obtain ⟨p, u, h1, h2⟩ := M.bind_ok.1 h
    cases h2
    obtain ⟨hr, f1⟩ := readPair_frame h1
    exact loadPc_frame _ ⟨hr.quiet.trans (quiet_setSreg _ _ _),
      f1.then (frame_setSreg_of_bank hr.bank .ps p.2) (hr2 := List.Subset.refl _) (hl1 := List.Subset.refl _)⟩
  · rintro e s t (h | h)
    · rw [exec_callEw, act_eq_next] at h
      obtain ⟨v, u, h1, h2⟩ := M.bind_ok.1 h
      rw [M.bind_reads] at h2
      obtain ⟨_, w, hw, h3⟩ := M.bind_ok.1 h2
      cases h3
      obtain ⟨hr, f1⟩ := readPlace_frame wordSize_lawful (show readPlace wordSize.ops (s.place e) s = _ from h1)
      exact loadPc_frame _ (readThenPush_frame hr f1 hw)
    · exact pushEw_frame h
  · obtain ⟨t', ht, -, hq, hf⟩ := callFarTo_spec hroom seg off
    rw [exec_callFar, act_of_ok ht] at h
    cases h
    exact ⟨hq, hf⟩
  · rw [exec_callMem32, act_eq_next] at h
    obtain ⟨p, u, h1, h2⟩ := M.bind_ok.1 h
    obtain ⟨hr, f1⟩ := readPair_frame h1
    obtain ⟨t', ht, -, hq, f2⟩ := callFarTo_spec (s := u) (by rw [hr.roomFor, hroom]) p.2 p.1
    rw [ht] at h2
    cases h2
    rw [wordSize_lawful.keys_bank hr.bank, hr.pushBytes, sregKeys, hr.bank] at f2
    exact ⟨hr.quiet.trans hq, f1.then f2 (hr2 := List.Subset.refl _) (hl1 := List.Subset.refl _) (hs2 := List.Subset.refl _)⟩
  · rintro s t (h | ⟨imm, h⟩)
    · rw [exec_retNear, act_eq_next] at h
      obtain ⟨v, u, h1, h2⟩ := M.bind_ok.1 h
      cases h2
      exact loadPc_frame _ (popFrame_of_ok h1)
    · rw [exec_retNearPop, act_eq_next] at h
      obtain ⟨v, u, h1, h2⟩ := M.bind_ok.1 h
      cases h2
      exact loadPc_frame _ (discard_frame _ (pop16_bank h1) (popFrame_of_ok h1))
  · rintro s t (h | ⟨imm, h⟩)
    · rw [exec_retFar, act_eq_next] at h
      obtain ⟨off, u, h1, h2⟩ := M.bind_ok.1 h
      obtain ⟨seg, w, hw, h3⟩ := M.bind_ok.1 h2
      cases h3
      exact returnFar_frame ((pop16_bank hw).trans (pop16_bank h1)) (popTwo_frame h1 hw)
    · rw [exec_retFarPop, act_eq_next] at h
      obtain ⟨off, u, h1, h2⟩ := M.bind_ok.1 h
      obtain ⟨seg, w, hw, h3⟩ := M.bind_ok.1 h2
      cases h3
      have hb := (pop16_bank hw).trans (pop16_bank h1)
      exact returnFar_frame (u := w.setReg16 .sp (w.reg16 .sp + imm)) hb (discard_frame _ hb (popTwo_frame h1 hw))
  · rw [exec_popReg16, act_eq_next] at h
    obtain ⟨v, u, h1, h2⟩ := M.bind_ok.1 h
    cases h2
    obtain ⟨q1, f1⟩ := popFrame_of_ok h1
    exact ⟨show u.pc = s.pc from pop16_pc h1, q1.trans (quiet_setReg16 _ _ _), f1.then (frame_setReg16_of_bank (pop16_bank h1) r v)
      (hr2 := List.subset_append_right _ _) (hl1 := List.Subset.refl _)⟩
  · rw [exec_sregPops p hp, act_eq_next] at h
    obtain ⟨v, u, h1, h2⟩ := M.bind_ok.1 h
    cases h2
    obtain ⟨q1, f1⟩ := popFrame_of_ok h1
    have f2 : Frame s (u.setSreg p.1 v) (wordSize.keys s .sp ++ sregKeys s p.1) 0 (wordSize.span (s.above 0)) [] :=
      f1.then (frame_setSreg_of_bank (pop16_bank h1) p.1 v) (hl1 := List.Subset.refl _)
    refine ⟨show u.pc = s.pc from pop16_pc h1, q1.run, q1.pre, q1.resume, f2.trans ?_⟩
    constructor <;> intros <;> rfl
  · rw [exec_popEw, act_eq_next] at h
    obtain ⟨v, u, h1, h2⟩ := M.bind_ok.1 h
    obtain ⟨q1, f1⟩ := popFrame_of_ok h1
    obtain ⟨q2, f2⟩ := writePlace_frame wordSize_lawful (show writePlace wordSize.ops (s.place e) v u = _ from h2)
    rw [placeKeys_bank wordSize_lawful (pop16_bank h1)] at f2
    exact ⟨(writePlace_pc h2).trans (pop16_pc h1), q1.trans q2, f1.then f2 (hl1 := List.Subset.refl _) (hs2 := List.Subset.refl _)⟩
  · rw [exec_popPsw, act_eq_next] at h
    obtain ⟨v, u, h1, h2⟩ := M.bind_ok.1 h
    obtain ⟨q1, f1⟩ := popFrame_of_ok h1
    by_cases hb : bit15 v = true
    · rw [if_pos hb] at h2
      cases h2
      have f2 := frame_withPsw u (v := popImage u.psw v) (mask := 0x0FFF) fun i hi hm => getLsbD_popImage hi hm
      exact ⟨show u.pc = s.pc from pop16_pc h1, q1.trans (quiet_withPsw _ _),
        f1.then f2 (hr1 := List.Subset.refl _) (hl1 := List.Subset.refl _)⟩
    · rw [if_neg hb] at h2
      cases h2
  · rw [exec_dispose, act_eq_next] at h
    obtain ⟨v, u, h1, h2⟩ := M.bind_ok.1 h
    cases h2
    obtain ⟨q1, f1⟩ := popFrame_of_ok h1
    have hb : u.bank = s.bank := (pop16_bank h1).trans rfl
    have hpc : u.pc = s.pc := (pop16_pc h1).trans rfl
    rw [State.above_zero, State.sreg_setReg16, State.reg16_setReg16_same, wordSize_lawful.keys_bank (State.bank_setReg16 s .sp _)] at f1
    have f0 : Frame s u (wordSize.keys s .sp) 0 (wordSize.span (phys (s.sreg .ss) (s.reg16 .bp))) [] :=
      (wordSize_lawful.setReg_frame s .sp (s.reg16 .bp)).then f1 (hr1 := List.Subset.refl _) (hr2 := List.Subset.refl _)
        (hl2 := List.Subset.refl _)
    exact ⟨hpc, ((quiet_setReg16 _ _ _).trans q1).trans (quiet_setReg16 _ _ _),
      f0.then (frame_setReg16_of_bank hb .bp v) (hr2 := List.subset_append_right _ _) (hl1 := List.Subset.refl _)⟩

end Sys2Proof.Machine


namespace Sys2Proof.Machine

-- Declarations are checked one after another, which keeps the memory of a compile bounded.
set_option Elab.async false

/-! ## PUSH R, POP R and PREPARE (O57) -/

/-! ### A chain of pushes -/

theorem State.pushBytes_succ (s : State) (n : Nat) :
    s.pushBytes (n + 1) = s.pushBytes n ++ [s.below (2 * (n + 1)), s.below (2 * (n + 1)) + 1] := by
  simp [State.pushBytes, List.range_succ, List.flatMap_append]

theorem State.pushBytes_mono (s : State) {m n : Nat} (h : m ≤ n) : s.pushBytes m ⊆ s.pushBytes n := by
  induction n, h using Nat.le_induction with
  | base => exact List.Subset.refl _
  | succ n _ ih => rw [s.pushBytes_succ]; exact List.Subset.trans ih (List.subset_append_left _ _)

/-- `u` is `s` with the words `vs` pushed on plain memory, the last one on top, and perhaps registers of `regs` written. -/
structure Pushed (vs : List Word) (regs : List Nat) (s u : State) : Prop where
  words : ∀ i v, vs[i]? = some v → u.extWord (s.below (2 * (i + 1))) = v
  sp : u.reg16 .sp = s.reg16 .sp - BitVec.ofNat 16 (2 * vs.length)
  sreg : ∀ r, u.sreg r = s.sreg r
  psw : u.psw = s.psw
  pc : u.pc = s.pc
  events : u.events = s.events
  sameMap : SameMap s u
  quiet : Quiet s u
  frame : Frame s u regs 0 [] (s.pushBytes vs.length)

theorem Pushed.nil (regs : List Nat) (s : State) : Pushed [] regs s s :=
  ⟨fun i v h => by simp at h, by simp, fun _ => rfl, rfl, rfl, rfl, .refl s, .refl s, .refl s _ _ _ _⟩

section
variable {vs : List Word} {regs : List Nat} {s u : State}

theorem Pushed.bank (h : Pushed vs regs s u) : u.bank = s.bank := congrArg bankOf h.psw

/-- One more word pushed; no register but SP changes. -/
theorem Pushed.push16 (h : Pushed vs regs s u) (hsp : wordSize.keys s .sp ⊆ regs) {n : Nat} (hroom : s.roomFor n = true)
    (hlen : vs.length < n) (hn : n ≤ 0x2000) (v : Word) : ∃ t, push16 v u = .ok ((), t) ∧ Pushed (vs ++ [v]) regs s t ∧
      ∀ r, r ≠ .sp → t.reg16 r = u.reg16 r := by
  obtain ⟨t, p, m, psw, bank, pc, sreg, reg, sp, top, keep⟩ := push16_chain (s := s) (u := u) (k := 2 * vs.length) (by omega)
    h.sameMap (h.sreg .ss) h.sp (s.roomFor_get hroom hlen) v
  have f := push16_chain_frame h.bank (h.sreg .ss) h.sp p
  have hev : t.events = u.events :=
    push16_chain_events h.sameMap (h.sreg .ss) h.sp (s.roomFor_get hroom hlen) p
  have hlen' : (vs ++ [v]).length = vs.length + 1 := by simp
  refine ⟨t, p, ⟨fun i w hi => ?_, ?_, fun r => (sreg r).trans (h.sreg r), psw.trans h.psw, pc.trans h.pc, hev.trans h.events, m,
    h.quiet.trans (push16_frame p).1, ?_⟩, reg⟩
  · rcases Nat.lt_or_ge i vs.length with hlt | hge
    · rw [List.getElem?_append_left hlt] at hi
      rw [keep _ (by omega) (by omega)]
      exact h.words i w hi
    · have hi' : i < (vs ++ [v]).length := List.getElem?_eq_some_iff.1 hi |>.1
      obtain rfl : i = vs.length := by omega
      rw [List.getElem?_append_right (Nat.le_refl _), Nat.sub_self] at hi
      cases hi
      exact top
  · rw [hlen']; exact sp
  · rw [hlen', s.pushBytes_succ]
    exact h.frame.then f (hr1 := List.Subset.refl _) (hr2 := hsp) (hs2 := List.subset_append_right _ _)

theorem Pushed.setReg16 (h : Pushed vs regs s u) {r : Reg16} (hr : r ≠ .sp) (hregs : wordSize.keys s r ⊆ regs) (v : Word) :
    Pushed vs regs s (u.setReg16 r v) where
  words := h.words
  sp := (State.reg16_setReg16_other _ _ hr).trans h.sp
  sreg q := (State.sreg_setReg16 _ _ _ _).trans (h.sreg q)
  psw := h.psw
  pc := h.pc
  events := h.events
  sameMap := h.sameMap.trans (sameMap_setReg16 _ _ _)
  quiet := h.quiet.trans (quiet_setReg16 _ _ _)
  frame := h.frame.trans ((frame_setReg16_of_bank h.bank r v).mono hregs (by simp) (by simp) (by simp))

/-- A word of memory that no push reached reads as before. -/
theorem Pushed.extWord (h : Pushed vs regs s u) {n : Nat} (hn : vs.length ≤ n) {a : PhysAddr} (h0 : a ∉ s.pushBytes n)
    (h1 : a + 1 ∉ s.pushBytes n) : u.extWord a = s.extWord a := by
  have hsub := s.pushBytes_mono hn
  rw [State.extWord, State.extWord, h.frame.ext _ fun e => h0 (hsub e), h.frame.ext _ fun e => h1 (hsub e)]

end

/-! ### PUSH R -/

theorem pushAll_spec {s : State} (h : s.roomFor 8 = true) : ∃ t, pushAll s = .ok ((), t) ∧
    Pushed [s.reg16 .aw, s.reg16 .cw, s.reg16 .dw, s.reg16 .bw, s.reg16 .sp, s.reg16 .bp, s.reg16 .ix, s.reg16 .iy]
      (wordSize.keys s .sp) s t := by
  have hsub := List.Subset.refl (wordSize.keys s .sp)
  obtain ⟨t1, e1, p1, r1⟩ := (Pushed.nil _ s).push16 hsub h (by decide) (by decide) (s.reg16 .aw)
  obtain ⟨t2, e2, p2, r2⟩ := p1.push16 hsub h (by simp) (by decide) (s.reg16 .cw)
  obtain ⟨t3, e3, p3, r3⟩ := p2.push16 hsub h (by simp) (by decide) (s.reg16 .dw)
  obtain ⟨t4, e4, p4, r4⟩ := p3.push16 hsub h (by simp) (by decide) (s.reg16 .bw)
  obtain ⟨t5, e5, p5, r5⟩ := p4.push16 hsub h (by simp) (by decide) (s.reg16 .sp)
  obtain ⟨t6, e6, p6, r6⟩ := p5.push16 hsub h (by simp) (by decide) (s.reg16 .bp)
  obtain ⟨t7, e7, p7, r7⟩ := p6.push16 hsub h (by simp) (by decide) (s.reg16 .ix)
  obtain ⟨t8, e8, p8, r8⟩ := p7.push16 hsub h (by simp) (by decide) (s.reg16 .iy)
  refine ⟨t8, ?_, p8⟩
  have push (r : Reg16) {u v : State} (e : push16 (u.reg16 r) u = .ok ((), v)) : pushReg r u = .ok ((), v) := by
    rw [pushReg, M.bind_reads, e]
  have k2 {r : Reg16} (hr : r ≠ .sp) : t2.reg16 r = s.reg16 r := (r2 r hr).trans (r1 r hr)
  have k4 {r : Reg16} (hr : r ≠ .sp) : t4.reg16 r = s.reg16 r := (r4 r hr).trans ((r3 r hr).trans (k2 hr))
  have k5 {r : Reg16} (hr : r ≠ .sp) : t5.reg16 r = s.reg16 r := (r5 r hr).trans (k4 hr)
  have k6 {r : Reg16} (hr : r ≠ .sp) : t6.reg16 r = s.reg16 r := (r6 r hr).trans (k5 hr)
  have k7 {r : Reg16} (hr : r ≠ .sp) : t7.reg16 r = s.reg16 r := (r7 r hr).trans (k6 hr)
  rw [← r1 .cw (by decide)] at e2
  rw [← k2 (r := .dw) (by decide)] at e3
  rw [← k2 (r := .bw) (by decide), ← r3 .bw (by decide)] at e4
  rw [← k5 (r := .bp) (by decide)] at e6
  rw [← k6 (r := .ix) (by decide)] at e7
  rw [← k7 (r := .iy) (by decide)] at e8
  rw [pushAll, M.bind_reads, M.bind_of_ok (push .aw e1), M.bind_of_ok (push .cw e2), M.bind_of_ok (push .dw e3),
    M.bind_of_ok (push .bw e4), M.bind_of_ok e5, M.bind_of_ok (push .bp e6), M.bind_of_ok (push .ix e7), push .iy e8]

/-! ### POP R -/

theorem Popped.setReg16 {k : Nat} {regs : List Nat} {s u : State} (h : Popped k regs s u) {r : Reg16} (hr : r ≠ .sp)
    (hregs : wordSize.keys s r ⊆ regs) (v : Word) : Popped k regs s (u.setReg16 r v) where
  sp := (State.reg16_setReg16_other _ _ hr).trans h.sp
  sreg q := (State.sreg_setReg16 _ _ _ _).trans (h.sreg q)
  ext := h.ext
  psw := h.psw
  pc := h.pc
  events := h.events
  sameMap := h.sameMap.trans (sameMap_setReg16 _ _ _)
  quiet := h.quiet.trans (quiet_setReg16 _ _ _)
  frame := h.frame.trans ((frame_setReg16_of_bank h.bank r v).mono hregs (by simp) (by simp) (by simp))

/-- A register popped in a chain of pops; of the others only SP changes. -/
theorem Popped.popReg {k : Nat} {regs : List Nat} {s u : State} (h : Popped k regs s u) (hsp : wordSize.keys s .sp ⊆ regs)
    {r : Reg16} (hr : r ≠ .sp) (hregs : wordSize.keys s r ⊆ regs) (hm : s.memWordAt (s.above k) = true) :
    ∃ t, popReg r u = .ok ((), t) ∧ Popped (k + 2) regs s t ∧ t.reg16 r = s.extWord (s.above k) ∧
      ∀ q, q ≠ .sp → q ≠ r → t.reg16 q = u.reg16 q := by
  obtain ⟨t, e, p, keep⟩ := h.pop16 hsp hm
  refine ⟨t.setReg16 r (s.extWord (s.above k)), ?_, p.setReg16 hr hregs _, State.reg16_setReg16_same _ _ _, fun q hq hqr =>
    (State.reg16_setReg16_other _ _ (Ne.symm hqr)).trans (keep q hq)⟩
  rw [Sys2Proof.Machine.popReg, M.bind_of_ok e]
  rfl

/-- The cells of the eight registers. -/
def allRegKeys (s : State) : List Nat := [Reg16.aw, .cw, .dw, .bw, .sp, .bp, .ix, .iy].flatMap (wordSize.keys s)

theorem keys_subset_all (s : State) (r : Reg16) : wordSize.keys s r ⊆ allRegKeys s := by
  intro k hk
  have hr : r ∈ [Reg16.aw, .cw, .dw, .bw, .sp, .bp, .ix, .iy] := by cases r <;> decide
  exact List.mem_flatMap.2 ⟨r, hr, hk⟩

theorem popAll_spec {s : State} (h : s.holdsWords 8 = true) : ∃ t, popAll s = .ok ((), t) ∧ Popped 16 (allRegKeys s) s t ∧
    t.reg16 .iy = s.extWord (s.above 0) ∧ t.reg16 .ix = s.extWord (s.above 2) ∧ t.reg16 .bp = s.extWord (s.above 4) ∧
    t.reg16 .bw = s.extWord (s.above 8) ∧ t.reg16 .dw = s.extWord (s.above 10) ∧ t.reg16 .cw = s.extWord (s.above 12) ∧
    t.reg16 .aw = s.extWord (s.above 14) := by
  have hsp := keys_subset_all s .sp
  obtain ⟨t1, e1, p1, v1, k1⟩ := (Popped.refl _ s).popReg hsp (r := .iy) (by decide) (keys_subset_all s _) (s.holdsWords_get h (i := 0) (by decide))
  obtain ⟨t2, e2, p2, v2, k2⟩ := p1.popReg hsp (r := .ix) (by decide) (keys_subset_all s _) (s.holdsWords_get h (i := 1) (by decide))
  obtain ⟨t3, e3, p3, v3, k3⟩ := p2.popReg hsp (r := .bp) (by decide) (keys_subset_all s _) (s.holdsWords_get h (i := 2) (by decide))
  obtain ⟨t4, e4, p4, k4⟩ := p3.pop16 hsp (s.holdsWords_get h (i := 3) (by decide))
  obtain ⟨t5, e5, p5, v5, k5⟩ := p4.popReg hsp (r := .bw) (by decide) (keys_subset_all s _) (s.holdsWords_get h (i := 4) (by decide))
  obtain ⟨t6, e6, p6, v6, k6⟩ := p5.popReg hsp (r := .dw) (by decide) (keys_subset_all s _) (s.holdsWords_get h (i := 5) (by decide))
  obtain ⟨t7, e7, p7, v7, k7⟩ := p6.popReg hsp (r := .cw) (by decide) (keys_subset_all s _) (s.holdsWords_get h (i := 6) (by decide))
  obtain ⟨t8, e8, p8, v8, k8⟩ := p7.popReg hsp (r := .aw) (by decide) (keys_subset_all s _) (s.holdsWords_get h (i := 7) (by decide))
  have late {q : Reg16} (h1 : q ≠ .sp) (h2 : q ≠ .bw) (h3 : q ≠ .dw) (h4 : q ≠ .cw) (h5 : q ≠ .aw) : t8.reg16 q = t3.reg16 q := by
    rw [k8 q h1 h5, k7 q h1 h4, k6 q h1 h3, k5 q h1 h2, k4 q h1]
  refine ⟨t8, ?_, p8, ?_, ?_, ?_, ?_, ?_, ?_, v8⟩
  · rw [popAll, M.bind_of_ok e1, M.bind_of_ok e2, M.bind_of_ok e3, M.bind_of_ok e4, M.bind_of_ok e5, M.bind_of_ok e6,
      M.bind_of_ok e7, e8]
  · rw [late (by decide) (by decide) (by decide) (by decide) (by decide), k3 _ (by decide) (by decide), k2 _ (by decide) (by decide), v1]
  · rw [late (by decide) (by decide) (by decide) (by decide) (by decide), k3 _ (by decide) (by decide), v2]
  · rw [late (by decide) (by decide) (by decide) (by decide) (by decide), v3]
  · rw [k8 _ (by decide) (by decide), k7 _ (by decide) (by decide), k6 _ (by decide) (by decide), v5]
  · rw [k8 _ (by decide) (by decide), k7 _ (by decide) (by decide), v6]
  · rw [k8 _ (by decide) (by decide), v7]

/-! ### PREPARE -/

/-- The address of the frame pointer copied at place `k`. -/
def State.framePointer (s : State) (bp : Word) (k : Nat) : PhysAddr := phys (s.sreg .ss) (bp - BitVec.ofNat 16 (2 * k))

/-- The copied frame pointers are pushed in order; one that no push reaches is copied as it was before. -/
theorem copyFramePointers_spec {regs : List Nat} {s : State} (hsp : wordSize.keys s .sp ⊆ regs) (hbp : wordSize.keys s .bp ⊆ regs)
    {N : Nat} (hroom : s.roomFor N = true) (hN : N ≤ 0x2000) (n : Nat) {vs : List Word} {u : State} (h : Pushed vs regs s u)
    (hlen : vs.length + n ≤ N) (hm : ∀ k, 1 ≤ k → k ≤ n → s.memWordAt (s.framePointer (u.reg16 .bp) k) = true) :
    ∃ t ws, copyFramePointers n u = .ok ((), t) ∧ Pushed (vs ++ ws) regs s t ∧ ws.length = n ∧
      ∀ k, k < n → s.framePointer (u.reg16 .bp) (k + 1) ∉ s.pushBytes N → s.framePointer (u.reg16 .bp) (k + 1) + 1 ∉ s.pushBytes N →
        ws[k]? = some (s.extWord (s.framePointer (u.reg16 .bp) (k + 1))) := by
  induction n generalizing vs u with
  | zero => exact ⟨u, [], rfl, by simpa using h, rfl, fun k hk => absurd hk (Nat.not_lt_zero k)⟩
  | succ n ih =>
    have h1 : Pushed vs regs s (u.setReg16 .bp (u.reg16 .bp - 2)) := h.setReg16 (by decide) hbp _
    have hbp1 : (u.setReg16 .bp (u.reg16 .bp - 2)).reg16 .bp = u.reg16 .bp - 2 := State.reg16_setReg16_same _ _ _
    have haddr : phys ((u.setReg16 .bp (u.reg16 .bp - 2)).sreg .ss) (u.reg16 .bp - 2) = s.framePointer (u.reg16 .bp) 1 := by
      rw [h1.sreg]; rfl
    have hread := readWord_mem (s := u.setReg16 .bp (u.reg16 .bp - 2)) (a := s.framePointer (u.reg16 .bp) 1) (by
      rw [h1.sameMap.memWordAt]; exact hm 1 (by decide) (by omega))
    obtain ⟨u2, e2, p2, keep2⟩ := h1.push16 hsp hroom (by omega) hN
      ((u.setReg16 .bp (u.reg16 .bp - 2)).extWord (s.framePointer (u.reg16 .bp) 1))
    have hbp2 : u2.reg16 .bp = u.reg16 .bp - 2 := (keep2 .bp (by decide)).trans hbp1
    have hshift (k : Nat) : s.framePointer (u2.reg16 .bp) k = s.framePointer (u.reg16 .bp) (k + 1) := by
      rw [State.framePointer, State.framePointer, hbp2, BitVec.sub_sub, Nat.mul_add, Nat.add_comm (2 * k), BitVec.ofNat_add]
      rfl
    obtain ⟨t, ws, e3, p3, hws, hcopy⟩ := ih p2 (by simp; omega) fun k h1 h2 => by
      rw [hshift]; exact hm (k + 1) (by omega) (by omega)
    refine ⟨t, (u.setReg16 .bp (u.reg16 .bp - 2)).extWord (s.framePointer (u.reg16 .bp) 1) :: ws, ?_, by simpa using p3,
      by simp [hws], fun k hk h0 h1' => ?_⟩
    · rw [copyFramePointers, M.bind_update, M.bind_reads, M.bind_reads, hbp1, readW, haddr, M.bind_of_ok hread, M.bind_of_ok e2, e3]
    · cases k with
      | zero => exact congrArg some (h1.extWord (by omega) h0 h1')
      | succ k =>
        rw [List.getElem?_cons_succ]
        rw [← hshift (k + 1)] at h0 h1' ⊢
        exact hcopy k (by omega) h0 h1'

/-- How many words PREPARE pushes at a level. -/
def prepareWords (n : Nat) : Nat := if n = 0 then 1 else n + 1

theorem prepareLevel_lt (level : Byte) : prepareLevel level < 256 := by
  have h := level.isLt
  unfold prepareLevel
  split_ifs <;> omega

/-- The words PREPARE pushes, before BP and SP are set. -/
theorem prepareFrame_spec {s : State} (size : Word) (level : Byte) (hroom : s.roomFor (prepareWords (prepareLevel level)) = true)
    (hm : ∀ k, 1 ≤ k → k < prepareLevel level → s.memWordAt (s.framePointer (s.reg16 .bp) k) = true) :
    ∃ ws u, prepareFrame size level s =
        .ok ((), (u.setReg16 .bp (s.reg16 .sp - 2)).setReg16 .sp ((u.setReg16 .bp (s.reg16 .sp - 2)).reg16 .sp - size)) ∧
      Pushed (s.reg16 .bp :: ws) (wordSize.keys s .sp ++ wordSize.keys s .bp) s u ∧
      ws.length + 1 = prepareWords (prepareLevel level) ∧
      (prepareLevel level ≠ 0 → ws[prepareLevel level - 1]? = some (s.reg16 .sp - 2)) ∧
      ∀ k, 1 ≤ k → k < prepareLevel level → s.framePointer (s.reg16 .bp) k ∉ s.pushBytes (prepareWords (prepareLevel level)) →
        s.framePointer (s.reg16 .bp) k + 1 ∉ s.pushBytes (prepareWords (prepareLevel level)) →
        ws[k - 1]? = some (s.extWord (s.framePointer (s.reg16 .bp) k)) := by
  have hlt := prepareLevel_lt level
  have hsub : wordSize.keys s .sp ⊆ wordSize.keys s .sp ++ wordSize.keys s .bp := List.subset_append_left _ _
  have hsubBp : wordSize.keys s .bp ⊆ wordSize.keys s .sp ++ wordSize.keys s .bp := List.subset_append_right _ _
  have hN : prepareWords (prepareLevel level) ≤ 0x2000 := by unfold prepareWords; split_ifs <;> omega
  obtain ⟨u1, e1, p1, keep1⟩ := (Pushed.nil _ s).push16 hsub hroom (by unfold prepareWords; split_ifs <;> simp) hN (s.reg16 .bp)
  have hsp1 : u1.reg16 .sp = s.reg16 .sp - 2 := p1.sp
  have hpush : pushReg .bp s = .ok ((), u1) := by rw [pushReg, M.bind_reads, e1]
  have hbp1 : u1.reg16 .bp = s.reg16 .bp := keep1 .bp (by decide)
  by_cases h0 : prepareLevel level = 0
  · refine ⟨[], u1, ?_, p1, by rw [h0]; rfl, fun h => absurd h0 h, fun k _ hk => absurd hk (by omega)⟩
    rw [prepareFrame, M.bind_of_ok hpush, M.bind_reads, hsp1, if_pos h0]
    rfl
  · have hwords : prepareWords (prepareLevel level) = prepareLevel level + 1 := if_neg h0
    obtain ⟨u2, ws, e2, p2, hws, hcopy⟩ := copyFramePointers_spec hsub hsubBp hroom hN (prepareLevel level - 1) p1
      (by simp; omega) fun k h1 h2 => by rw [hbp1]; exact hm k h1 (by omega)
    obtain ⟨u3, e3, p3, -⟩ := p2.push16 hsub hroom (by simp; omega) hN (s.reg16 .sp - 2)
    refine ⟨ws ++ [s.reg16 .sp - 2], u3, ?_, by simpa using p3, by simp; omega, fun _ => ?_, fun k h1 hk ha ha1 => ?_⟩
    · rw [prepareFrame, M.bind_of_ok hpush, M.bind_reads, hsp1, if_neg h0, M.bind_of_ok e2, M.bind_of_ok e3]
      rfl
    · rw [List.getElem?_append_right (by omega), hws, Nat.sub_self]
      rfl
    · rw [List.getElem?_append_left (by omega)]
      have h := hcopy (k - 1) (by omega)
      rw [hbp1, Nat.sub_add_cancel h1] at h
      exact h ha ha1

/-- Settles O57. -/
theorem registerFrames : Obligations.RegisterFrames := by
  refine ⟨fun s h => ?_, fun s h => ?_, fun size level s => ?_⟩
  · obtain ⟨t, e, p⟩ := pushAll_spec h
    exact ⟨t, act_of_ok e, p.words 0 _ rfl, p.words 1 _ rfl, p.words 2 _ rfl, p.words 3 _ rfl, p.words 4 _ rfl, p.words 5 _ rfl,
      p.words 6 _ rfl, p.words 7 _ rfl, p.sp, p.pc, p.events, p.quiet, p.frame⟩
  · obtain ⟨t, e, p, hiy, hix, hbp, hbw, hdw, hcw, haw⟩ := popAll_spec h
    exact ⟨t, act_of_ok e, hiy, hix, hbp, hbw, hdw, hcw, haw, p.sp, p.pc, p.events, p.quiet, p.frame⟩
  · intro _ _ hroom hm
    obtain ⟨ws, u, e, p, hlen, hlast, hcopy⟩ := prepareFrame_spec size level hroom hm
    have hbp := p.setReg16 (r := .bp) (by decide) (List.subset_append_right _ _) (s.reg16 .sp - 2)
    have hwords : (s.reg16 .bp :: ws).length = prepareWords (prepareLevel level) := hlen
    refine ⟨_, act_of_ok e, p.words 0 _ rfl, fun h0 => ?_, fun k h1 hk ha ha1 => ?_, ?_, ?_, hbp.pc, hbp.events,
      hbp.quiet.trans (quiet_setReg16 _ _ _), ?_⟩
    · have hne : prepareLevel level ≠ 0 := h0
      have hw : prepareWords (prepareLevel level) = prepareLevel level - 1 + 1 + 1 := by
        rw [prepareWords, if_neg hne]; omega
      have h := p.words (prepareLevel level - 1 + 1) (s.reg16 .sp - 2) (by rw [List.getElem?_cons_succ]; exact hlast hne)
      rw [← hw] at h
      exact h
    · have h := p.words (k - 1 + 1) _ (by rw [List.getElem?_cons_succ]; exact hcopy k h1 hk ha ha1)
      rw [Nat.sub_add_cancel h1] at h
      exact h
    · rw [State.reg16_setReg16_other _ _ (by decide), State.reg16_setReg16_same]
    · rw [State.reg16_setReg16_same, hbp.sp, hwords]
      rfl
    · have f := hbp.frame
      rw [hwords] at f
      exact f.trans ((frame_setReg16_of_bank hbp.bank .sp _).mono (List.subset_append_left _ _) (by simp) (by simp) (by simp))

end Sys2Proof.Machine


namespace Sys2Proof.Machine

-- Declarations are checked one after another, which keeps the memory of a compile bounded.
set_option Elab.async false

/-! ## Fetching, and what is due at a boundary (O32, O33) -/

/-! ### Fetching -/

theorem reservedFetch_eq (a : PhysAddr) :
    reservedFetch a = (decide (0xFFF00 ≤ a.toNat ∧ a.toNat ≤ 0xFFFEF) || decide (0xFFFFC ≤ a.toNat)) := by
  simp [reservedFetch, BitVec.le_def]

/-- The byte picked is the one in memory or one of the old ones. -/
theorem pickByte_mem (new : Byte) (old : List Byte) (free : Word) : pickByte new old free = new ∨ pickByte new old free ∈ old := by
  cases old with
  | nil => exact .inl rfl
  | cons b old =>
    have hlt : free.toNat % ((b :: old).length + 1) < (new :: b :: old).length := Nat.mod_lt _ (Nat.succ_pos _)
    have hmem : pickByte new (b :: old) free ∈ new :: b :: old := by
      rw [pickByte, List.getD_eq_getElem _ _ hlt]
      exact List.getElem_mem hlt
    exact List.mem_cons.1 hmem

theorem State.mem_oldBytes {s : State} {a : PhysAddr} {b : Byte} (h : b ∈ s.oldBytes a) : (a.toNat, b) ∈ s.queueOld := by
  obtain ⟨c, hc, rfl⟩ := List.mem_map.1 h
  obtain ⟨hmem, heq⟩ := List.mem_filter.1 hc
  rwa [← eq_of_beq heq]

theorem fetchByte_of_reserved {s : State} {k : Nat} (h : reservedFetch (s.fetchAddr k) = true) :
    s.fetchByte k = .error (.fault .reservedFetch) := if_pos h

theorem fetchByte_of_unmapped {s : State} {k : Nat} (h : reservedFetch (s.fetchAddr k) = false) (hk : s.kindAt (s.fetchAddr k) = none) :
    s.fetchByte k = .error (.fault .unmappedFetch) := by
  rw [State.fetchByte, if_neg (by simp [h]), hk]

theorem fetchByte_of_mapped {s : State} {k : Nat} (h : reservedFetch (s.fetchAddr k) = false) (hk : s.kindAt (s.fetchAddr k) ≠ none) :
    s.fetchByte k = .ok (pickByte (s.ext.read (s.fetchAddr k).toNat) (s.oldBytes (s.fetchAddr k)) (Config.freeWord (s.draws + k))) := by
  obtain ⟨kind, hkind⟩ := Option.ne_none_iff_exists'.1 hk
  rw [State.fetchByte, if_neg (by simp [h]), hkind]

/-- Settles O32. -/
theorem fetchReadsExternalMemory : Obligations.FetchReadsExternalMemory := by
  intro s k
  refine ⟨fun hhigh hk => ?_, ?_⟩
  · rw [State.fetchAddr, if_pos (.inl ⟨hhigh, hk⟩), BitVec.ofNat_add, BitVec.ofNat_toNat, BitVec.setWidth_eq]
  · intro a reserved
    have hr : reservedFetch a = reserved := reservedFetch_eq a
    refine ⟨fun h => fetchByte_of_reserved (hr.trans h), fun h hk => fetchByte_of_unmapped (hr.trans h) hk, fun h hk hold => ?_,
      fun h hk => ⟨_, fetchByte_of_mapped (hr.trans h) hk, ?_⟩⟩
    · rw [fetchByte_of_mapped (hr.trans h) hk, show s.oldBytes (s.fetchAddr k) = [] from hold]
      rfl
    · exact (pickByte_mem _ _ _).imp_right State.mem_oldBytes

/-! ### The order at a boundary -/

theorem State.afterPrefix_eq_true {s : State} (hpre : s.pre ≠ Prefixes.none) (hres : s.resume = none) : s.afterPrefix = true := by
  simp [State.afterPrefix, hpre, hres]

theorem State.afterPrefix_eq_false {s : State} (h : s.pre = Prefixes.none ∨ s.resume ≠ none) : s.afterPrefix = false := by
  rcases h with h | h
  · simp [State.afterPrefix, h]
  · simp [State.afterPrefix, Option.isNone_eq_false_iff.2 (Option.isSome_iff_ne_none.2 h)]

/-- The single-step trap is due, if no boundary is protected (R503, log 17). -/
def State.trapDue (s : State) : Bool := s.trace && (s.resume.isNone || Config.stepTrapBetweenIterations)

theorem State.trapDue_eq_true {s : State} (ht : s.trace = true) (h : s.resume = none ∨ Config.stepTrapBetweenIterations = true) :
    s.trapDue = true := by
  rcases h with h | h <;> simp [State.trapDue, ht, h]

theorem State.trapDue_eq_false {s : State}
    (h : s.trace = false ∨ (s.resume ≠ none ∧ Config.stepTrapBetweenIterations = false)) : s.trapDue = false := by
  rcases h with h | ⟨h1, h2⟩
  · simp [State.trapDue, h]
  · simp [State.trapDue, Option.isNone_eq_false_iff.2 (Option.isSome_iff_ne_none.2 h1), h2]

section
variable {s : State} (hpin : s.resetPin = false)
include hpin

theorem boundary_of_stopped (hrun : s.run = .stopped) : s.boundary = if s.nmi then .wake else .asleep := by
  simp [State.boundary, hpin, hrun]

theorem boundary_of_halted_nmi (hrun : s.run = .halted) (hnmi : s.nmi = true) : s.boundary = .wake := by
  simp [State.boundary, hpin, hrun, hnmi]

theorem boundary_of_halted_idle (hrun : s.run = .halted) (hnmi : s.nmi = false) (hirq : s.irq = none) : s.boundary = .asleep := by
  simp [State.boundary, hpin, hrun, hnmi, hirq]

theorem boundary_of_halted_macroService (hrun : s.run = .halted) (hnmi : s.nmi = false) (hirq : s.irq = some .macroService) :
    s.boundary = if s.flag .ie then .request .macroService else .asleep := by
  simp [State.boundary, hpin, hrun, hnmi, hirq]

theorem boundary_of_halted_request {r : IrqRequest} (hrun : s.run = .halted) (hnmi : s.nmi = false) (hirq : s.irq = some r)
    (hr : r ≠ .macroService) : s.boundary = if s.flag .ie || Config.haltEndsWithoutIe then .wake else .asleep := by
  cases r with
  | macroService => exact absurd rfl hr
  | vectored v => rw [State.boundary, if_neg (by simp [hpin]), hrun]; dsimp only; rw [if_neg (by simp [hnmi]), hirq]
  | bankSwitch n => rw [State.boundary, if_neg (by simp [hpin]), hrun]; dsimp only; rw [if_neg (by simp [hnmi]), hirq]

variable (hrun : s.run = .running)
include hrun

theorem boundary_after_prefix (hpre : s.afterPrefix = true) : s.boundary = .execute := by
  simp [State.boundary, hpin, hrun, hpre]

theorem boundary_protected (hhold : s.hold = true) : s.boundary = .execute := by
  simp [State.boundary, hpin, hrun, hhold]

variable (hpre : s.afterPrefix = false)
include hpre

theorem boundary_trap (hhold : s.hold = false) (htrap : s.trapDue = true) : s.boundary = .singleStep := by
  rw [State.trapDue] at htrap
  simp only [State.boundary, hpin, hrun, hpre, hhold, htrap, if_true, Bool.false_eq_true, if_false]

variable (htrap : s.trapDue = false)
include htrap

theorem boundary_nmi (hhold : s.hold = false) (hnmi : s.nmi = true) : s.boundary = .nmi := by
  rw [State.trapDue] at htrap
  simp only [State.boundary, hpin, hrun, hpre, hhold, htrap, hnmi, if_true, Bool.false_eq_true, if_false]

theorem boundary_quiet (hnmi : s.nmi = false) (h : s.irq = none ∨ s.flag .ie = false) : s.boundary = .execute := by
  rw [State.trapDue] at htrap
  simp only [State.boundary, hpin, hrun, hpre, htrap, hnmi, Bool.false_eq_true, if_false, ite_eq_left_iff]
  intro _
  rcases h with h | h
  · rw [h]
  · rw [h]
    cases s.irq <;> rfl

theorem boundary_request (hhold : s.hold = false) (hnmi : s.nmi = false) (hie : s.flag .ie = true) {r : IrqRequest}
    (hirq : s.irq = some r) : s.boundary = .request r := by
  rw [State.trapDue] at htrap
  simp only [State.boundary, hpin, hrun, hpre, hhold, htrap, hnmi, hirq, hie, if_true, Bool.false_eq_true, if_false]

end

/-! ### What a response does -/

theorem step_of_boundary {s : State} : (s.boundary = .reset → step s = .next s.warmReset) ∧
    (s.boundary = .asleep → step s = .next s) ∧ (s.boundary = .wake → step s = .next (s.withRun .running)) ∧
    (s.boundary = .singleStep → step s = act takeSingleStep s) ∧ (s.boundary = .nmi → step s = act takeNmi s) ∧
    (∀ r, s.boundary = .request r → step s = act (takeRequest r) s) := by
  refine ⟨?_, ?_, ?_, ?_, ?_, ?_⟩ <;> intros <;> simp only [step, cycle, *]

theorem act_enter {x : M Unit} {s u : State} (h : x s = .ok ((), u)) : act (enter x) s = .next u.settle :=
  act_of_ok (by rw [enter, M.bind_of_ok h]; rfl)

theorem act_takeVectored (v : Byte) (s : State) :
    act (takeRequest (.vectored v)) s = act (enter (raise v s.nextOffset)) { s with irq := none } :=
  (act_bind_update _ _ _).trans (act_bind_reads _ _ _)

theorem act_takeBankSwitch (n : BitVec 3) (s : State) :
    act (takeRequest (.bankSwitch n)) s = act (enter (bankEntry n s.nextOffset)) { s with irq := none } :=
  (act_bind_update _ _ _).trans (act_bind_reads _ _ _)

theorem act_takeMacroService (s : State) :
    act (takeRequest .macroService) s = .next (State.serviced { s with irq := none }) := rfl

theorem act_enter_bankEntry_current (ret : Word) (s : State) :
    act (enter (bankEntry s.bank ret)) s = .refused .switchToCurrentBank :=
  act_of_refused (bind_of_error (bind_of_error (switchTo_current ret s rfl)))

/-- An entry on plain memory, taken at a boundary. -/
theorem act_enter_raise {v : Byte} {ret : Word} {s : State} (h : s.entryOk v = true) :
    ∃ u, Entered v ret s u ∧ act (enter (raise v ret)) s = .next u.settle :=
  have ⟨u, hu, he⟩ := vectoredEntry v ret s h
  ⟨u, he, act_enter hu⟩

/-- Settles O33, by what is due in each case. -/
theorem boundaryOrder : Obligations.BoundaryOrder := by
  refine ⟨fun s hpin => ?_, fun s hpin hrun => ?_, fun s hpin hrun => ⟨fun hnmi => ?_, fun hnmi hirq => ?_,
    fun hnmi hirq => ⟨fun hie => ?_, fun hie => ?_⟩, fun r hnmi hirq hr => ?_⟩,
    fun s hpin hrun => ⟨fun hpre hres => ?_, fun hset => ?_⟩,
    fun s => ?_⟩ <;>
  obtain ⟨onReset, onAsleep, onWake, onTrap, onNmi, onRequest⟩ := @step_of_boundary s
  · exact onReset (by simp [State.boundary, hpin])
  · have hb := boundary_of_stopped hpin hrun
    split_ifs at hb ⊢
    · exact onWake hb
    · exact onAsleep hb
  · exact onWake (boundary_of_halted_nmi hpin hrun hnmi)
  · exact onAsleep (boundary_of_halted_idle hpin hrun hnmi hirq)
  · have hb := boundary_of_halted_macroService hpin hrun hnmi hirq
    rw [if_pos hie] at hb
    exact ⟨_, (State.serviced_spec _).1, (onRequest _ hb).trans (act_takeMacroService s)⟩
  · have hb := boundary_of_halted_macroService hpin hrun hnmi hirq
    rw [if_neg (by simp [hie])] at hb
    exact onAsleep hb
  · have hb := boundary_of_halted_request hpin hrun hnmi hirq hr
    by_cases h : (s.flag .ie || Config.haltEndsWithoutIe) = true
    · rw [if_pos h] at hb ⊢
      exact onWake hb
    · rw [if_neg h] at hb ⊢
      exact onAsleep hb
  · exact boundary_after_prefix hpin hrun (State.afterPrefix_eq_true hpre hres)
  · intro noTrap
    have hpre := State.afterPrefix_eq_false hset
    refine ⟨boundary_protected hpin hrun, fun hhold ht hres hok => ?_, fun hno hhold hnmi hok => ?_, fun hno hnmi hirq => ?_,
      fun hno hhold hnmi hie => ⟨fun v hirq hok => ?_, fun n hirq hn => ?_, fun hirq => ?_, fun hirq => ?_⟩⟩
    · rw [onTrap (boundary_trap hpin hrun hpre hhold (State.trapDue_eq_true ht hres)), act_takeSingleStep]
      exact act_enter_raise hok
    · rw [onNmi (boundary_nmi hpin hrun hpre (State.trapDue_eq_false hno) hhold hnmi), act_takeNmi]
      exact act_enter_raise (s := { s with nmi := false }) hok
    · exact boundary_quiet hpin hrun hpre (State.trapDue_eq_false hno) hnmi hirq
    all_goals rw [onRequest _ (boundary_request hpin hrun hpre (State.trapDue_eq_false hno) hhold hnmi hie hirq)]
    · rw [act_takeVectored]
      exact act_enter_raise (s := { s with irq := none }) hok
    · obtain ⟨u, hu, hs, h1, h2, -, -⟩ := bankEntry_spec s.nextOffset { s with irq := none } hn
      exact ⟨u, hs, h1, h2, (act_takeBankSwitch n s).trans (act_enter hu)⟩
    · exact (act_takeBankSwitch s.bank s).trans (act_enter_bankEntry_current _ { s with irq := none })
    · exact ⟨_, (State.serviced_spec _).1, act_takeMacroService s⟩
  · cases hres : s.resume <;> simp [State.nextOffset, hres]

end Sys2Proof.Machine


namespace Sys2Proof.Machine

-- Declarations are checked one after another, which keeps the memory of a compile bounded.
set_option Elab.async false

/-! ## Input, output and the elements of the block instructions (O46, O50) -/

/-! ### The I/O space -/

theorem ioReadByte_of_mapped {port : Word} {s : State} (h : s.portMapped port = true) : ∃ v,
    ioReadByte port s = .ok (v, (s.withDraws (s.draws + 1)).record (.ioRead port v)) := by
  refine ⟨(Config.freeWord s.draws).extractLsb' 0 8, ?_⟩
  rw [ioReadByte, M.bind_reads, if_pos h]
  rfl

theorem ioReadByte_of_unmapped {port : Word} {s : State} (h : s.portMapped port = false) :
    ioReadByte port s = .error (.fault .unmappedPort) := by
  rw [ioReadByte, M.bind_reads, if_neg (by simp [h])]
  rfl

theorem ioWriteByte_of_mapped {port : Word} {s : State} (h : s.portMapped port = true) (v : Byte) :
    ioWriteByte port v s = .ok ((), s.record (.ioWrite port v)) := by
  rw [ioWriteByte, M.bind_reads, if_pos h]
  rfl

theorem ioWriteByte_of_unmapped {port : Word} {s : State} (h : s.portMapped port = false) (v : Byte) :
    ioWriteByte port v s = .error (.fault .unmappedPort) := by
  rw [ioWriteByte, M.bind_reads, if_neg (by simp [h])]
  rfl

/-- The ports reached change nothing but the record of events and the free values. -/
def PortOnly (s t : State) : Prop := ∃ e n, t = { s with events := e, draws := n }

theorem PortOnly.trans {s t u : State} (h : PortOnly s t) (g : PortOnly t u) : PortOnly s u := by
  obtain ⟨e, n, rfl⟩ := h
  obtain ⟨e', n', rfl⟩ := g
  exact ⟨e', n', rfl⟩

theorem PortOnly.readOnly {s t : State} (h : PortOnly s t) : ReadOnly s t := by
  obtain ⟨e, n, rfl⟩ := h
  exact ⟨s.sfr, e, n, rfl⟩

theorem PortOnly.frame {s t : State} (h : PortOnly s t) : Frame s t [] 0 [] [] := by
  obtain ⟨e, n, rfl⟩ := h
  constructor <;> intros <;> rfl

theorem ioReadByte_portOnly {port : Word} {s t : State} {v : Byte} (h : ioReadByte port s = .ok (v, t)) : PortOnly s t := by
  cases hp : s.portMapped port with
  | true =>
    obtain ⟨w, hw⟩ := ioReadByte_of_mapped hp
    rw [h] at hw
    cases hw
    exact ⟨_, _, rfl⟩
  | false => rw [ioReadByte_of_unmapped hp] at h; cases h

theorem ioWriteByte_portOnly {port : Word} {v : Byte} {s t : State} (h : ioWriteByte port v s = .ok ((), t)) : PortOnly s t := by
  cases hp : s.portMapped port with
  | true => rw [ioWriteByte_of_mapped hp] at h; cases h; exact ⟨_, _, rfl⟩
  | false => rw [ioWriteByte_of_unmapped hp] at h; cases h

theorem portsOk_two {s : State} {port : Word} (h : s.portsOk 2 port = true) :
    s.portMapped port = true ∧ s.portMapped (port + 1) = true := by
  simpa [State.portsOk] using h

theorem ioReadWord_of_mapped {port : Word} {s : State} (h : s.portsOk 2 port = true) : ∃ lo hi, ioReadWord port s =
    .ok (hi ++ lo, ((s.withDraws (s.draws + 2)).record (.ioRead port lo)).record (.ioRead (port + 1) hi)) := by
  obtain ⟨h0, h1⟩ := portsOk_two h
  obtain ⟨lo, hlo⟩ := ioReadByte_of_mapped h0
  obtain ⟨hi, hhi⟩ := ioReadByte_of_mapped (s := (s.withDraws (s.draws + 1)).record (.ioRead port lo)) (port := port + 1) h1
  exact ⟨lo, hi, by rw [ioReadWord, M.bind_of_ok hlo, M.bind_of_ok hhi]; rfl⟩

theorem ioWriteWord_of_mapped {port : Word} {s : State} (h : s.portsOk 2 port = true) (v : Word) : ioWriteWord port v s =
    .ok ((), (s.record (.ioWrite port (v.extractLsb' 0 8))).record (.ioWrite (port + 1) (v.extractLsb' 8 8))) := by
  obtain ⟨h0, h1⟩ := portsOk_two h
  rw [ioWriteWord, M.bind_of_ok (ioWriteByte_of_mapped h0 _)]
  exact ioWriteByte_of_mapped (s := s.record _) h1 _

theorem ioReadWord_portOnly {port v : Word} {s t : State} (h : ioReadWord port s = .ok (v, t)) : PortOnly s t := by
  obtain ⟨_, _, h1, h⟩ := M.bind_ok.1 h
  obtain ⟨_, _, h2, h3⟩ := M.bind_ok.1 h
  cases h3
  exact (ioReadByte_portOnly h1).trans (ioReadByte_portOnly h2)

theorem ioWriteWord_portOnly {port v : Word} {s t : State} (h : ioWriteWord port v s = .ok ((), t)) : PortOnly s t := by
  obtain ⟨_, _, h1, h2⟩ := M.bind_ok.1 h
  exact (ioWriteByte_portOnly h1).trans (ioWriteByte_portOnly h2)

/-! ### Elements of either size -/

/-- The state with an index register stepped past one element (R235). -/
def State.advanced (s : State) (r : Reg16) (n : Word) : State := s.setReg16 r (s.stepIndex n (s.reg16 r))

theorem State.reg16_advanced_other (s : State) {r q : Reg16} (n : Word) (h : r ≠ q) : (s.advanced r n).reg16 q = s.reg16 q :=
  s.reg16_setReg16_other _ h

theorem stepIndex_setStatus (s : State) (status n x : Word) : (s.setStatus maskStatus status).stepIndex n x = s.stepIndex n x := by
  have hdir : (s.setStatus maskStatus status).flag .dir = s.flag .dir := by
    show (merge s.psw maskStatus status).getLsbD 10 = _
    rw [getLsbD_merge _ _ _ (by decide)]
    rfl
  unfold State.stepIndex
  rw [hdir]

theorem stepIndex_readOnly {s t : State} (h : ReadOnly s t) (n x : Word) : t.stepIndex n x = s.stepIndex n x := by
  unfold State.stepIndex
  rw [h.flag]

section
variable {w : Nat} {ρ : Type}

/-- What the byte and the word operations have in common for the block instructions: the ports, PC, and that the accumulator
is neither index register. -/
structure Size.Element (z : Size w ρ) : Prop where
  ioRead_of_ok : ∀ {port s}, s.portsOk z.ops.bytes port = true → ∃ v u, z.ops.ioRead port s = .ok (v, u)
  ioWrite_of_ok : ∀ {port s} v, s.portsOk z.ops.bytes port = true → ∃ u, z.ops.ioWrite port v s = .ok ((), u)
  ioRead_portOnly : ∀ {port s v u}, z.ops.ioRead port s = .ok (v, u) → PortOnly s u
  ioWrite_portOnly : ∀ {port s v u}, z.ops.ioWrite port v s = .ok ((), u) → PortOnly s u
  writeMem_pc : ∀ {seg off v s t}, z.ops.writeMem seg off v s = .ok ((), t) → t.pc = s.pc
  setReg_pc : ∀ s r v, (z.ops.setReg s r v).pc = s.pc
  setReg_flag : ∀ s r v f, (z.ops.setReg s r v).flag f = s.flag f
  ix_setAcc : ∀ s v, (z.ops.setReg s z.ops.acc v).reg16 .ix = s.reg16 .ix

theorem byteSize_element : byteSize.Element where
  ioRead_of_ok h := have ⟨v, hv⟩ := ioReadByte_of_mapped (Bool.and_eq_true_iff.1 h).1; ⟨v, _, hv⟩
  ioWrite_of_ok v h := ⟨_, ioWriteByte_of_mapped (Bool.and_eq_true_iff.1 h).1 v⟩
  ioRead_portOnly := ioReadByte_portOnly
  ioWrite_portOnly := ioWriteByte_portOnly
  writeMem_pc h := writeByte_pc h
  setReg_pc _ _ _ := rfl
  setReg_flag _ _ _ _ := rfl
  ix_setAcc s v := s.bankWord_setBankByte_other v (by decide) (by decide) (.inr (by decide))

theorem wordSize_element : wordSize.Element where
  ioRead_of_ok h := have ⟨_, _, hv⟩ := ioReadWord_of_mapped h; ⟨_, _, hv⟩
  ioWrite_of_ok v h := ⟨_, ioWriteWord_of_mapped h v⟩
  ioRead_portOnly := ioReadWord_portOnly
  ioWrite_portOnly := ioWriteWord_portOnly
  writeMem_pc h := writeWord_pc h
  setReg_pc _ _ _ := rfl
  setReg_flag _ _ _ _ := rfl
  ix_setAcc s v := s.reg16_setReg16_other v (by decide)

variable {z : Size w ρ}

theorem readMem_of_ok (hz : z.Lawful) {seg off : Word} {s : State} (h : z.okAt s (phys seg off) = true) :
    ∃ v t, z.ops.readMem seg off s = .ok (v, t) ∧ ReadOnly s t :=
  readPlace_of_ok hz (p := .mem seg off) h

theorem writeMem_of_ok (hz : z.Lawful) {seg off : Word} {s : State} (h : z.okAt s (phys seg off) = true) (v : BitVec w) :
    ∃ t, z.ops.writeMem seg off v s = .ok ((), t) :=
  writePlace_of_ok hz (p := .mem seg off) h v

theorem readMem_frame (hz : z.Lawful) {seg off : Word} {s t : State} {v : BitVec w} (h : z.ops.readMem seg off s = .ok (v, t)) :
    ReadOnly s t ∧ Frame s t [] 0 (z.span (phys seg off)) [] :=
  readPlace_frame hz (p := .mem seg off) h

theorem writeMem_frame (hz : z.Lawful) {seg off : Word} {s t : State} {v : BitVec w} (h : z.ops.writeMem seg off v s = .ok ((), t)) :
    Quiet s t ∧ Frame s t [] 0 [] (z.span (phys seg off)) :=
  writePlace_frame hz (p := .mem seg off) h

/-! ### When one element is over, and in which state -/

section
variable (hz : z.Lawful) {s t' : State}
include hz

theorem moveElement_ok : moveElement z.ops s = .ok ((), t') ↔ ∃ v u, z.ops.readMem (s.segValue .ds0) (s.reg16 .ix) s = .ok (v, u) ∧
    ∃ t, z.ops.writeMem (s.sreg .ds1) (s.reg16 .iy) v u = .ok ((), t) ∧
      t' = (t.advanced .ix z.ops.bytes).advanced .iy z.ops.bytes := by
  rw [moveElement, sourceSeg, M.bind_reads, M.bind_reads, M.bind_ok]
  refine exists_congr fun v => exists_congr fun u => and_congr_right fun h => ?_
  have ro := (readMem_frame hz h).1
  rw [M.bind_reads, M.bind_reads, M.bind_ok, ro.sreg, ro.reg16]
  exact ⟨fun ⟨_, t, h1, h2⟩ => ⟨t, h1, by cases h2; rfl⟩, fun ⟨t, h1, h2⟩ => ⟨(), t, h1, by rw [h2]; rfl⟩⟩

theorem compareElements_ok : compareElements z.ops s = .ok ((), t') ↔
    ∃ a u, z.ops.readMem (s.segValue .ds0) (s.reg16 .ix) s = .ok (a, u) ∧
    ∃ b t, z.ops.readMem (s.sreg .ds1) (s.reg16 .iy) u = .ok (b, t) ∧
      t' = ((t.setStatus maskStatus (subStatus a b false)).advanced .ix z.ops.bytes).advanced .iy z.ops.bytes := by
  rw [compareElements, sourceSeg, M.bind_reads, M.bind_reads, M.bind_ok]
  refine exists_congr fun a => exists_congr fun u => and_congr_right fun h => ?_
  have ro := (readMem_frame hz h).1
  rw [M.bind_reads, M.bind_reads, M.bind_ok, ro.sreg, ro.reg16]
  refine exists_congr fun b => exists_congr fun t => and_congr_right fun _ => ⟨fun h2 => ?_, fun h2 => ?_⟩
  · cases h2; rfl
  · rw [h2]; rfl

theorem compareAcc_ok : compareAcc z.ops s = .ok ((), t') ↔ ∃ b t, z.ops.readMem (s.sreg .ds1) (s.reg16 .iy) s = .ok (b, t) ∧
    t' = (t.setStatus maskStatus (subStatus (z.ops.getReg s z.ops.acc) b false)).advanced .iy z.ops.bytes := by
  rw [compareAcc, M.bind_reads, M.bind_reads, M.bind_ok]
  refine exists_congr fun b => exists_congr fun t => and_congr_right fun h => ?_
  rw [getReg, M.bind_reads, hz.getReg_readOnly (readMem_frame hz h).1]
  refine ⟨fun h2 => ?_, fun h2 => ?_⟩
  · cases h2; rfl
  · rw [h2]; rfl

omit hz in
theorem loadElement_ok : loadElement z.ops s = .ok ((), t') ↔ ∃ v t, z.ops.readMem (s.segValue .ds0) (s.reg16 .ix) s = .ok (v, t) ∧
    t' = (z.ops.setReg t z.ops.acc v).advanced .ix z.ops.bytes := by
  rw [loadElement, sourceSeg, M.bind_reads, M.bind_reads, M.bind_ok]
  refine exists_congr fun v => exists_congr fun t => and_congr_right fun h => ⟨fun h2 => ?_, fun h2 => ?_⟩
  · cases h2; rfl
  · rw [h2]; rfl

omit hz in
theorem storeElement_ok : storeElement z.ops s = .ok ((), t') ↔
    ∃ t, z.ops.writeMem (s.sreg .ds1) (s.reg16 .iy) (z.ops.getReg s z.ops.acc) s = .ok ((), t) ∧
      t' = t.advanced .iy z.ops.bytes := by
  rw [storeElement, M.bind_reads, getReg, M.bind_reads, M.bind_reads, M.bind_ok]
  exact ⟨fun ⟨_, t, h1, h2⟩ => ⟨t, h1, by cases h2; rfl⟩, fun ⟨t, h1, h2⟩ => ⟨(), t, h1, by rw [h2]; rfl⟩⟩

theorem outputElement_ok : outputElement z.ops s = .ok ((), t') ↔
    ∃ v u, z.ops.readMem (s.segValue .ds0) (s.reg16 .ix) s = .ok (v, u) ∧
    ∃ t, z.ops.ioWrite (s.reg16 .dw) v u = .ok ((), t) ∧ t' = t.advanced .ix z.ops.bytes := by
  rw [outputElement, sourceSeg, M.bind_reads, M.bind_reads, M.bind_ok]
  refine exists_congr fun v => exists_congr fun u => and_congr_right fun h => ?_
  rw [M.bind_reads, M.bind_ok, (readMem_frame hz h).1.reg16]
  exact ⟨fun ⟨_, t, h1, h2⟩ => ⟨t, h1, by cases h2; rfl⟩, fun ⟨t, h1, h2⟩ => ⟨(), t, h1, by rw [h2]; rfl⟩⟩

end

theorem inputElement_ok (he : z.Element) {s t' : State} : inputElement z.ops s = .ok ((), t') ↔
    ∃ v u, z.ops.ioRead (s.reg16 .dw) s = .ok (v, u) ∧
    ∃ t, z.ops.writeMem (s.sreg .ds1) (s.reg16 .iy) v u = .ok ((), t) ∧ t' = t.advanced .iy z.ops.bytes := by
  rw [inputElement, M.bind_reads, M.bind_ok]
  refine exists_congr fun v => exists_congr fun u => and_congr_right fun h => ?_
  have ro := (he.ioRead_portOnly h).readOnly
  rw [M.bind_reads, M.bind_reads, M.bind_ok, ro.sreg, ro.reg16]
  exact ⟨fun ⟨_, t, h1, h2⟩ => ⟨t, h1, by cases h2; rfl⟩, fun ⟨t, h1, h2⟩ => ⟨(), t, h1, by rw [h2]; rfl⟩⟩

/-! ### Elements that are not repeated -/

section
variable (hz : z.Lawful) (he : z.Element) {i : Instr} {s : State}
include hz

theorem moveEnds_of_exec (hi : exec i s = act (moveElement z.ops) s) (hs : z.okAt s (phys (s.segValue .ds0) (s.reg16 .ix)) = true)
    (hd : z.okAt s (phys (s.sreg .ds1) (s.reg16 .iy)) = true) : z.MoveEnds i s := by
  obtain ⟨v, u, h1, ro⟩ := readMem_of_ok hz hs
  obtain ⟨t, h2⟩ := writeMem_of_ok hz ((hz.okAt_map ro.sameMap _).trans hd) v
  refine ⟨v, u, t, h1, h2, ?_⟩
  rw [hi, act_eq_next, moveElement_ok hz]
  refine ⟨v, u, h1, t, h2, ?_⟩
  rw [State.advanced, State.reg16_advanced_other t z.ops.bytes (by decide : Reg16.ix ≠ .iy)]
  rfl

theorem compareEnds_of_exec (hi : exec i s = act (compareElements z.ops) s)
    (hs : z.okAt s (phys (s.segValue .ds0) (s.reg16 .ix)) = true) (hd : z.okAt s (phys (s.sreg .ds1) (s.reg16 .iy)) = true) :
    z.CompareEnds i s := by
  obtain ⟨a, u, h1, ro⟩ := readMem_of_ok hz hs
  obtain ⟨b, t, h2, ro2⟩ := readMem_of_ok hz ((hz.okAt_map ro.sameMap _).trans hd)
  refine ⟨a, u, b, t, h1, h2, ?_⟩
  rw [hi, act_eq_next, compareElements_ok hz]
  refine ⟨a, u, h1, b, t, h2, ?_⟩
  have rt := ro.trans ro2
  rw [State.advanced, State.reg16_advanced_other _ z.ops.bytes (by decide : Reg16.ix ≠ .iy), State.advanced, reg16_setStatus,
    reg16_setStatus, stepIndex_setStatus, stepIndex_readOnly rt, rt.reg16, rt.reg16]
  congr 1
  exact (((stepIndex_setStatus t _ _ _).trans (stepIndex_readOnly rt _ _)).symm)

theorem scanEnds_of_exec (hi : exec i s = act (compareAcc z.ops) s) (hd : z.okAt s (phys (s.sreg .ds1) (s.reg16 .iy)) = true) :
    z.ScanEnds i s := by
  obtain ⟨b, t, h1, ro⟩ := readMem_of_ok hz hd
  refine ⟨b, t, h1, ?_⟩
  rw [hi, act_eq_next, compareAcc_ok hz]
  refine ⟨b, t, h1, ?_⟩
  rw [State.advanced, reg16_setStatus, stepIndex_setStatus, stepIndex_readOnly ro, ro.reg16]

theorem storeEnds_of_exec (hi : exec i s = act (storeElement z.ops) s) (hd : z.okAt s (phys (s.sreg .ds1) (s.reg16 .iy)) = true) :
    z.StoreEnds i s := by
  obtain ⟨t, h1⟩ := writeMem_of_ok hz hd (z.ops.getReg s z.ops.acc)
  exact ⟨t, h1, by rw [hi, act_eq_next, storeElement_ok]; exact ⟨t, h1, rfl⟩⟩

include he

theorem loadEnds_of_element (hi : exec i s = act (loadElement z.ops) s)
    (hs : z.okAt s (phys (s.segValue .ds0) (s.reg16 .ix)) = true) : z.LoadEnds i s := by
  obtain ⟨v, t, h1, ro⟩ := readMem_of_ok hz hs
  refine ⟨v, t, h1, ?_⟩
  rw [hi, act_eq_next, loadElement_ok]
  refine ⟨v, t, h1, ?_⟩
  have hstep : (z.ops.setReg t z.ops.acc v).stepIndex z.ops.bytes (s.reg16 .ix) = s.stepIndex z.ops.bytes (s.reg16 .ix) := by
    unfold State.stepIndex
    rw [he.setReg_flag, ro.flag]
  rw [State.advanced, he.ix_setAcc, ro.reg16, hstep]

theorem inputEnds_of_exec (hi : exec i s = act (inputElement z.ops) s) (hp : s.portsOk z.ops.bytes (s.reg16 .dw) = true)
    (hd : z.okAt s (phys (s.sreg .ds1) (s.reg16 .iy)) = true) : z.InputEnds i s := by
  obtain ⟨v, u, h1⟩ := he.ioRead_of_ok hp
  obtain ⟨t, h2⟩ := writeMem_of_ok hz ((hz.okAt_map (he.ioRead_portOnly h1).readOnly.sameMap _).trans hd) v
  exact ⟨v, u, t, h1, h2, by rw [hi, act_eq_next, inputElement_ok he]; exact ⟨v, u, h1, t, h2, rfl⟩⟩

theorem outputEnds_of_exec (hi : exec i s = act (outputElement z.ops) s)
    (hs : z.okAt s (phys (s.segValue .ds0) (s.reg16 .ix)) = true) (hp : s.portsOk z.ops.bytes (s.reg16 .dw) = true) :
    z.OutputEnds i s := by
  obtain ⟨v, u, h1, ro⟩ := readMem_of_ok hz hs
  have hpu : u.portsOk z.ops.bytes (s.reg16 .dw) = true := by
    obtain ⟨_, _, _, rfl⟩ := ro
    exact hp
  obtain ⟨t, h2⟩ := he.ioWrite_of_ok v hpu
  refine ⟨v, u, t, h1, h2, ?_⟩
  rw [hi, act_eq_next, outputElement_ok hz]
  refine ⟨v, u, h1, t, h2, ?_⟩
  have rt := ro.trans (he.ioWrite_portOnly h2).readOnly
  rw [State.advanced, stepIndex_readOnly rt, rt.reg16]

end

end

/-! ### The block instructions -/

/-- One element of a block instruction. -/
def BlockOp.body : BlockOp → M Unit
  | .movbkb => moveElement byteOp
  | .movbkw => moveElement wordOp
  | .cmpbkb => compareElements byteOp
  | .cmpbkw => compareElements wordOp
  | .cmpmb => compareAcc byteOp
  | .cmpmw => compareAcc wordOp
  | .ldmb => loadElement byteOp
  | .ldmw => loadElement wordOp
  | .stmb => storeElement byteOp
  | .stmw => storeElement wordOp
  | .inmb => inputElement byteOp
  | .inmw => inputElement wordOp
  | .outmb => outputElement byteOp
  | .outmw => outputElement wordOp

theorem exec_block (b : BlockOp) (s : State) : exec b.toInstr s = act (repeated b b.body) s := by
  cases b <;> rfl

theorem act_ifIoAllowed (body : M Unit) (s : State) :
    act (ifIoAllowed body) s = act (if s.flag .ibrk = true then body else ioTrap) s := act_bind_reads _ _ _

theorem repeated_once {b : BlockOp} {body : M Unit} {s : State} (h : s.pre.rep = none) :
    repeated b body s = (if b.isIo then ifIoAllowed body else body) s := by
  rw [repeated, M.bind_reads, h]

/-- Not repeated, and where it does not trap, a block instruction is one element. -/
theorem exec_block_once {b : BlockOp} {s : State} (h : s.pre.rep = none) (hio : b.isIo = true → s.flag .ibrk = true) :
    exec b.toInstr s = act b.body s := by
  have hact : exec b.toInstr s = act (if b.isIo then ifIoAllowed b.body else b.body) s := by
    rw [exec_block, act, repeated_once h, act]
  rw [hact]
  by_cases hb : b.isIo = true
  · rw [if_pos hb, act_ifIoAllowed, if_pos (hio hb)]
  · rw [if_neg hb]

/-- Settles O46. -/
theorem blockElements : Obligations.BlockElements := by
  have once (b : BlockOp) {s : State} (h : s.pre.rep = none) (hb : b.isIo = false) : exec b.toInstr s = act b.body s :=
    exec_block_once h (by simp [hb])
  have onceIo (b : BlockOp) {s : State} (h : s.pre.rep = none) (hi : s.flag .ibrk = true) : exec b.toInstr s = act b.body s :=
    exec_block_once h fun _ => hi
  refine ⟨fun s hr hs => ⟨?_, fun hd => ⟨?_, ?_⟩, fun hi hp => ?_⟩, fun s hr hd => ⟨?_, ?_, fun hi hp => ?_⟩,
    fun s hr hs => ⟨?_, fun hd => ⟨?_, ?_⟩, fun hi hp => ?_⟩, fun s hr hd => ⟨?_, ?_, fun hi hp => ?_⟩⟩
  · exact loadEnds_of_element byteSize_lawful byteSize_element (once .ldmb hr rfl) hs
  · exact moveEnds_of_exec byteSize_lawful (once .movbkb hr rfl) hs hd
  · exact compareEnds_of_exec byteSize_lawful (once .cmpbkb hr rfl) hs hd
  · exact outputEnds_of_exec byteSize_lawful byteSize_element (onceIo .outmb hr hi) hs hp
  · exact scanEnds_of_exec byteSize_lawful (once .cmpmb hr rfl) hd
  · exact storeEnds_of_exec byteSize_lawful (once .stmb hr rfl) hd
  · exact inputEnds_of_exec byteSize_lawful byteSize_element (onceIo .inmb hr hi) hp hd
  · exact loadEnds_of_element wordSize_lawful wordSize_element (once .ldmw hr rfl) hs
  · exact moveEnds_of_exec wordSize_lawful (once .movbkw hr rfl) hs hd
  · exact compareEnds_of_exec wordSize_lawful (once .cmpbkw hr rfl) hs hd
  · exact outputEnds_of_exec wordSize_lawful wordSize_element (onceIo .outmw hr hi) hs hp
  · exact scanEnds_of_exec wordSize_lawful (once .cmpmw hr rfl) hd
  · exact storeEnds_of_exec wordSize_lawful (once .stmw hr rfl) hd
  · exact inputEnds_of_exec wordSize_lawful wordSize_element (onceIo .inmw hr hi) hp hd

/-! ### IN, OUT and the I/O trap -/

/-- An entry on plain memory is no event. -/
theorem entered_quietly {i : Instr} {s u : State} {v : Byte} {ret : Word} (hi : exec i s = act (raise v ret) u)
    (h : u.entryOk v = true) : ∃ t, exec i s = .next t ∧ t.events = u.events ∧ Entered v ret u t := by
  obtain ⟨t, ht, he⟩ := vectoredEntry v ret u h
  obtain ⟨x, saved, hr⟩ := raise_completes h ret
  have hev : t.events = u.events := by
    rw [ht] at hr
    cases hr
    exact saved.events
  exact ⟨t, by rw [hi]; exact act_of_ok ht, hev, he⟩

theorem act_ioTrap (s : State) : act ioTrap s = act (raise 19 (if Config.ioTrapSavesNext then s.pc else s.start)) s := by
  rw [ioTrap, trapPc, act_bind_reads]

theorem act_repeated_ioTrap {b : BlockOp} {s : State} (hb : b.isIo = true) (hi : s.flag .ibrk = false)
    (hrep : s.pre.rep = none ∨ s.pre.rep = some .rep ∨ s.pre.rep = some .repne) (hcw : s.pre.rep ≠ none → s.reg16 .cw ≠ 0) :
    act (repeated b b.body) s = act ioTrap s := by
  have trapped (p : Rep) (hp : s.pre.rep = some p) (hc : p.comparesOnly = false) : repeated b b.body s = ioTrap s := by
    have ht : s.repeatedIoTraps b = true := by
      have hne : (s.reg16 .cw != 0) = true := bne_iff_ne.2 (hcw (by simp [hp]))
      rw [State.repeatedIoTraps, hb, hi, hne]
      rfl
    rw [repeated, M.bind_reads, hp]
    show (if (p.comparesOnly && !b.compares) = true then _ else _ : M Unit) s = _
    rw [hc, Bool.false_and, if_neg Bool.false_ne_true, M.bind_reads, if_pos ht]
  rcases hrep with h | h | h
  · have hact : act (repeated b b.body) s = act (ifIoAllowed b.body) s := by
      rw [act, repeated_once h, if_pos hb, act]
    rw [hact, act_ifIoAllowed, if_neg (by simp [hi])]
  · rw [act, trapped .rep h rfl, act]
  · rw [act, trapped .repne h rfl, act]

/-- The same with the port in DW. -/
theorem act_ifIoAllowed_dw (f : Word → M Unit) (s : State) : act (ifIoAllowed (reads (fun s => s.reg16 .dw) >>= f)) s =
    act (if s.flag .ibrk = true then f (s.reg16 .dw) else ioTrap) s := by
  rw [act_ifIoAllowed]
  by_cases h : s.flag .ibrk = true
  · rw [if_pos h, if_pos h, act_bind_reads]
  · rw [if_neg h, if_neg h]

section
variable {i : Instr} {port : Word} {s : State}

theorem exec_inputByte (hi : (∃ imm : Byte, i = .inAlImm8 imm ∧ port = imm.setWidth 16) ∨ (i = .inAlDw ∧ port = s.reg16 .dw)) :
    exec i s = act (if s.flag .ibrk = true then input byteOp port else ioTrap) s := by
  rcases hi with ⟨imm, rfl, rfl⟩ | ⟨rfl, rfl⟩
  · exact act_ifIoAllowed _ _
  · exact act_ifIoAllowed_dw (input byteOp) s

theorem exec_inputWord (hi : (∃ imm : Byte, i = .inAwImm8 imm ∧ port = imm.setWidth 16) ∨ (i = .inAwDw ∧ port = s.reg16 .dw)) :
    exec i s = act (if s.flag .ibrk = true then input wordOp port else ioTrap) s := by
  rcases hi with ⟨imm, rfl, rfl⟩ | ⟨rfl, rfl⟩
  · exact act_ifIoAllowed _ _
  · exact act_ifIoAllowed_dw (input wordOp) s

theorem exec_outputByte (hi : (∃ imm : Byte, i = .outImm8Al imm ∧ port = imm.setWidth 16) ∨ (i = .outDwAl ∧ port = s.reg16 .dw)) :
    exec i s = act (if s.flag .ibrk = true then output byteOp port else ioTrap) s := by
  rcases hi with ⟨imm, rfl, rfl⟩ | ⟨rfl, rfl⟩
  · exact act_ifIoAllowed _ _
  · exact act_ifIoAllowed_dw (output byteOp) s

theorem exec_outputWord (hi : (∃ imm : Byte, i = .outImm8Aw imm ∧ port = imm.setWidth 16) ∨ (i = .outDwAw ∧ port = s.reg16 .dw)) :
    exec i s = act (if s.flag .ibrk = true then output wordOp port else ioTrap) s := by
  rcases hi with ⟨imm, rfl, rfl⟩ | ⟨rfl, rfl⟩
  · exact act_ifIoAllowed _ _
  · exact act_ifIoAllowed_dw (output wordOp) s

end

/-- Settles O50. -/
theorem inputOutput : Obligations.InputOutput := by
  refine ⟨fun s hb => ⟨fun i port hi hp => ?_, fun i port hi hp => ?_, fun i port hi hp => ?_, fun i port hi hp => ?_⟩,
    fun i s hb hok hi => ?_⟩
  · obtain ⟨v, hv⟩ := ioReadByte_of_mapped (s := s) (port := port) (by simpa [State.portsOk] using hp)
    refine ⟨v, s.draws + 1, Nat.le_succ _, ?_⟩
    rw [exec_inputByte hi, if_pos hb, act_eq_next]
    exact M.bind_of_ok hv
  · obtain ⟨lo, h, hv⟩ := ioReadWord_of_mapped hp
    refine ⟨lo, h, s.draws + 2, Nat.le_add_right _ _, ?_⟩
    rw [exec_inputWord hi, if_pos hb, act_eq_next]
    exact M.bind_of_ok hv
  · rw [exec_outputByte hi, if_pos hb, act_eq_next]
    exact ioWriteByte_of_mapped (by simpa [State.portsOk] using hp) _
  · rw [exec_outputWord hi, if_pos hb, act_eq_next]
    have hw := ioWriteWord_of_mapped hp (s.reg16 .aw)
    rw [reg16_aw_eq, BitVec.extractLsb'_append_eq_right, BitVec.extractLsb'_append_eq_left] at hw
    exact hw
  · have trap : exec i s = act ioTrap s := by
      have hn : ¬ s.flag .ibrk = true := by simp [hb]
      rcases hi with ⟨imm, rfl | rfl | rfl | rfl⟩ | rfl | rfl | rfl | rfl | ⟨b, hio, rfl, hrep, hcw⟩
      · rw [exec_inputByte (.inl ⟨imm, rfl, rfl⟩), if_neg hn]
      · rw [exec_inputWord (.inl ⟨imm, rfl, rfl⟩), if_neg hn]
      · rw [exec_outputByte (.inl ⟨imm, rfl, rfl⟩), if_neg hn]
      · rw [exec_outputWord (.inl ⟨imm, rfl, rfl⟩), if_neg hn]
      · rw [exec_inputByte (.inr ⟨rfl, rfl⟩), if_neg hn]
      · rw [exec_inputWord (.inr ⟨rfl, rfl⟩), if_neg hn]
      · rw [exec_outputByte (.inr ⟨rfl, rfl⟩), if_neg hn]
      · rw [exec_outputWord (.inr ⟨rfl, rfl⟩), if_neg hn]
      · rw [exec_block, act_repeated_ioTrap hio hb hrep hcw]
    exact entered_quietly (trap.trans (act_ioTrap s)) hok

end Sys2Proof.Machine


namespace Sys2Proof.Machine

-- Declarations are checked one after another, which keeps the memory of a compile bounded.
set_option Elab.async false

/-! ## The block instructions under the repeat prefixes (O47 to O49) -/

/-! ### What a part of an instruction may change -/

/-- PC and what is due at the next boundary are as before, and the rest within a frame. -/
structure Confined (s t : State) (regs : List Nat) (mask : Word) (loaded stored : List PhysAddr) : Prop where
  pc : t.pc = s.pc
  quiet : Quiet s t
  frame : Frame s t regs mask loaded stored

section
variable {s t u : State} {regs r1 r2 : List Nat} {mask m1 m2 : Word} {loaded l1 l2 stored s1 s2 : List PhysAddr}

theorem Confined.then (h : Confined s t r1 m1 l1 s1) (g : Confined t u r2 m2 l2 s2) (hr1 : r1 ⊆ regs := by simp)
    (hr2 : r2 ⊆ regs := by simp) (hm1 : m1 &&& mask = m1 := by simp) (hm2 : m2 &&& mask = m2 := by simp)
    (hl1 : l1 ⊆ loaded := by simp) (hl2 : l2 ⊆ loaded := by simp) (hs1 : s1 ⊆ stored := by simp)
    (hs2 : s2 ⊆ stored := by simp) : Confined s u regs mask loaded stored :=
  ⟨g.pc.trans h.pc, h.quiet.trans g.quiet, h.frame.then g.frame hr1 hr2 hm1 hm2 hl1 hl2 hs1 hs2⟩

theorem ReadOnly.confined (h : ReadOnly s t) (f : Frame s t [] 0 loaded []) : Confined s t [] 0 loaded [] := ⟨h.pc, h.quiet, f⟩

theorem PortOnly.confined (h : PortOnly s t) : Confined s t [] 0 [] [] := h.readOnly.confined h.frame

theorem confined_setStatus (s : State) (mask status : Word) : Confined s (s.setStatus mask status) [] mask [] [] :=
  ⟨rfl, quiet_setStatus _ _ _, frame_setStatus _ _ _⟩

/-- A word register written after what left the bank field alone. -/
theorem Confined.setReg16 (h : Confined s t regs mask loaded stored) (hm : mask &&& 0x7000 = 0) (r : Reg16) (v : Word) :
    Confined s (t.setReg16 r v) (regs ++ bankKeys s.bank (offReg16 r)) mask loaded stored :=
  h.then ⟨rfl, quiet_setReg16 _ _ _, frame_setReg16_of_bank (h.frame.bank hm) r v⟩

theorem Confined.advanced (h : Confined s t regs mask loaded stored) (hm : mask &&& 0x7000 = 0) (r : Reg16) (n : Word) :
    Confined s (t.advanced r n) (regs ++ bankKeys s.bank (offReg16 r)) mask loaded stored := h.setReg16 hm r _

end

/-! ### What one element changes -/

section
variable {w : Nat} {ρ : Type} {z : Size w ρ} (hz : z.Lawful) (he : z.Element) {s t : State}
include hz

theorem compareElements_confined (h : compareElements z.ops s = .ok ((), t)) :
    Confined s t (bankKeys s.bank (offReg16 .ix) ++ bankKeys s.bank (offReg16 .iy)) maskStatus (z.sourceBytes s ++ z.destBytes s) [] := by
  obtain ⟨a, u, h1, b, u2, h2, rfl⟩ := (compareElements_ok hz).1 h
  obtain ⟨r1, f1⟩ := readMem_frame hz h1
  obtain ⟨r2, f2⟩ := readMem_frame hz h2
  have read : Confined s u2 [] 0 (z.sourceBytes s ++ z.destBytes s) [] :=
    (r1.confined f1).then (r2.confined f2) (hl1 := List.subset_append_left _ _) (hl2 := List.subset_append_right _ _)
  have flags : Confined s (u2.setStatus maskStatus (subStatus a b false)) [] maskStatus (z.sourceBytes s ++ z.destBytes s) [] :=
    read.then (confined_setStatus _ _ _)
  exact (flags.advanced (by decide) .ix _).advanced (by decide) .iy _

theorem compareAcc_confined (h : compareAcc z.ops s = .ok ((), t)) :
    Confined s t (bankKeys s.bank (offReg16 .iy)) maskStatus (z.destBytes s) [] := by
  obtain ⟨b, u, h1, rfl⟩ := (compareAcc_ok hz).1 h
  obtain ⟨r1, f1⟩ := readMem_frame hz h1
  have flags : Confined s (u.setStatus maskStatus (subStatus (z.ops.getReg s z.ops.acc) b false)) [] maskStatus (z.destBytes s) [] :=
    (r1.confined f1).then (confined_setStatus _ _ _) (hl1 := List.Subset.refl _)
  exact flags.advanced (by decide) .iy _

include he

theorem moveElement_confined (h : moveElement z.ops s = .ok ((), t)) :
    Confined s t (bankKeys s.bank (offReg16 .ix) ++ bankKeys s.bank (offReg16 .iy)) 0 (z.sourceBytes s) (z.destBytes s) := by
  obtain ⟨v, u, h1, u2, h2, rfl⟩ := (moveElement_ok hz).1 h
  obtain ⟨r1, f1⟩ := readMem_frame hz h1
  obtain ⟨q2, f2⟩ := writeMem_frame hz h2
  have moved : Confined s u2 [] 0 (z.sourceBytes s) (z.destBytes s) :=
    (r1.confined f1).then ⟨he.writeMem_pc h2, q2, f2⟩ (hl1 := List.Subset.refl _) (hs2 := List.Subset.refl _)
  exact (moved.advanced (by decide) .ix _).advanced (by decide) .iy _

theorem loadElement_confined (h : loadElement z.ops s = .ok ((), t)) :
    Confined s t (z.keys s z.ops.acc ++ bankKeys s.bank (offReg16 .ix)) 0 (z.sourceBytes s) [] := by
  obtain ⟨v, u, h1, rfl⟩ := loadElement_ok.1 h
  obtain ⟨r1, f1⟩ := readMem_frame hz h1
  have acc := hz.setReg_frame u z.ops.acc v
  rw [hz.keys_bank r1.bank] at acc
  have loaded : Confined s (z.ops.setReg u z.ops.acc v) (z.keys s z.ops.acc) 0 (z.sourceBytes s) [] :=
    (r1.confined f1).then ⟨he.setReg_pc _ _ _, hz.setReg_quiet _ _ _, acc⟩ (hr2 := List.Subset.refl _) (hl1 := List.Subset.refl _)
  exact loaded.advanced (by decide) .ix _

theorem storeElement_confined (h : storeElement z.ops s = .ok ((), t)) :
    Confined s t (bankKeys s.bank (offReg16 .iy)) 0 [] (z.destBytes s) := by
  obtain ⟨u, h1, rfl⟩ := storeElement_ok.1 h
  obtain ⟨q, f⟩ := writeMem_frame hz h1
  have stored : Confined s u [] 0 [] (z.destBytes s) := ⟨he.writeMem_pc h1, q, f⟩
  exact stored.advanced (by decide) .iy _

theorem inputElement_confined (h : inputElement z.ops s = .ok ((), t)) :
    Confined s t (bankKeys s.bank (offReg16 .iy)) 0 [] (z.destBytes s) := by
  obtain ⟨v, u, h1, u2, h2, rfl⟩ := (inputElement_ok he).1 h
  obtain ⟨q, f⟩ := writeMem_frame hz h2
  have stored : Confined s u2 [] 0 [] (z.destBytes s) :=
    (he.ioRead_portOnly h1).confined.then ⟨he.writeMem_pc h2, q, f⟩ (hs2 := List.Subset.refl _)
  exact stored.advanced (by decide) .iy _

theorem outputElement_confined (h : outputElement z.ops s = .ok ((), t)) :
    Confined s t (bankKeys s.bank (offReg16 .ix)) 0 (z.sourceBytes s) [] := by
  obtain ⟨v, u, h1, u2, h2, rfl⟩ := (outputElement_ok hz).1 h
  obtain ⟨r1, f1⟩ := readMem_frame hz h1
  have sent : Confined s u2 [] 0 (z.sourceBytes s) [] :=
    (r1.confined f1).then (he.ioWrite_portOnly h2).confined (hl1 := List.Subset.refl _)
  exact sent.advanced (by decide) .ix _

end

/-- The register cells an element writes. -/
def BlockOp.regs (s : State) : BlockOp → List Nat
  | .movbkb | .movbkw | .cmpbkb | .cmpbkw => bankKeys s.bank (offReg16 .ix) ++ bankKeys s.bank (offReg16 .iy)
  | .cmpmb | .cmpmw | .stmb | .stmw | .inmb | .inmw => bankKeys s.bank (offReg16 .iy)
  | .ldmb => byteSize.keys s .al ++ bankKeys s.bank (offReg16 .ix)
  | .ldmw => wordSize.keys s .aw ++ bankKeys s.bank (offReg16 .ix)
  | .outmb | .outmw => bankKeys s.bank (offReg16 .ix)

/-- The flags it writes. -/
def BlockOp.mask : BlockOp → Word
  | .cmpbkb | .cmpbkw | .cmpmb | .cmpmw => maskStatus
  | _ => 0

/-- The bytes it loads. -/
def BlockOp.loads (s : State) : BlockOp → List PhysAddr
  | .movbkb | .ldmb | .outmb => byteSize.sourceBytes s
  | .movbkw | .ldmw | .outmw => wordSize.sourceBytes s
  | .cmpbkb => byteSize.sourceBytes s ++ byteSize.destBytes s
  | .cmpbkw => wordSize.sourceBytes s ++ wordSize.destBytes s
  | .cmpmb => byteSize.destBytes s
  | .cmpmw => wordSize.destBytes s
  | .stmb | .stmw | .inmb | .inmw => []

/-- The bytes it stores to. -/
def BlockOp.stores (s : State) : BlockOp → List PhysAddr
  | .movbkb | .stmb | .inmb => byteSize.destBytes s
  | .movbkw | .stmw | .inmw => wordSize.destBytes s
  | _ => []

theorem body_confined {b : BlockOp} {s t : State} (h : b.body s = .ok ((), t)) :
    Confined s t (b.regs s) b.mask (b.loads s) (b.stores s) := by
  cases b with
  | movbkb => exact moveElement_confined byteSize_lawful byteSize_element h
  | movbkw => exact moveElement_confined wordSize_lawful wordSize_element h
  | cmpbkb => exact compareElements_confined byteSize_lawful h
  | cmpbkw => exact compareElements_confined wordSize_lawful h
  | cmpmb => exact compareAcc_confined byteSize_lawful h
  | cmpmw => exact compareAcc_confined wordSize_lawful h
  | ldmb => exact loadElement_confined byteSize_lawful byteSize_element h
  | ldmw => exact loadElement_confined wordSize_lawful wordSize_element h
  | stmb => exact storeElement_confined byteSize_lawful byteSize_element h
  | stmw => exact storeElement_confined wordSize_lawful wordSize_element h
  | inmb => exact inputElement_confined byteSize_lawful byteSize_element h
  | inmw => exact inputElement_confined wordSize_lawful wordSize_element h
  | outmb => exact outputElement_confined byteSize_lawful byteSize_element h
  | outmw => exact outputElement_confined wordSize_lawful wordSize_element h

theorem BlockOp.mask_bank (b : BlockOp) : b.mask &&& 0x7000 = 0 := by cases b <;> decide

/-! ### One iteration (R234) -/

/-- The state after a repeated element: CW counted down, and the instruction to be resumed or over. -/
def State.counted (s : State) (b : BlockOp) (p : Rep) : State :=
  let t := s.setReg16 .cw (s.reg16 .cw - 1)
  t.withResume (if (b.compares && t.repExits p) || t.reg16 .cw == 0 then none else some (.block b))

section
variable {b : BlockOp} {p : Rep} {s : State} (hp : s.pre.rep = some p)
include hp

theorem exec_block_refused (hc : p.comparesOnly = true) (hb : b.compares = false) :
    exec b.toInstr s = .refused .repcOnNonCompare := by
  rw [exec_block]
  refine act_of_refused ?_
  rw [repeated, M.bind_reads, hp]
  dsimp only
  rw [hc, hb]
  rfl

variable (hc : p.comparesOnly = false ∨ b.compares = true) (hio : b.isIo = true → s.flag .ibrk = true)
include hc hio

/-- Nothing refuses the instruction and it does not trap. -/
theorem repeated_allowed : repeated b b.body s = (if s.reg16 .cw == 0 then update fun s => s.withResume none
    else b.body >>= fun _ => update fun s => s.counted b p) s := by
  have hok : (p.comparesOnly && !b.compares) = false := by
    rcases hc with h | h <;> simp [h]
  have hno : s.repeatedIoTraps b = false := by
    rw [State.repeatedIoTraps]
    by_cases h : b.isIo = true
    · simp [hio h]
    · simp [h]
  rw [repeated, M.bind_reads, hp]
  dsimp only
  rw [hok, if_neg Bool.false_ne_true, M.bind_reads, hno, if_neg Bool.false_ne_true, M.bind_reads]
  rfl

theorem exec_block_done (hcw : s.reg16 .cw = 0) : exec b.toInstr s = .next (s.withResume none) := by
  rw [exec_block, act_eq_next, repeated_allowed hp hc hio, hcw]
  rfl

theorem exec_block_iteration (hcw : s.reg16 .cw ≠ 0) :
    exec b.toInstr s = act (b.body >>= fun _ => update fun s => s.counted b p) s := by
  rw [exec_block, act, repeated_allowed hp hc hio, if_neg (by simpa using hcw), act]

end

/-- What a block instruction leaves, repeated or not, where it does not trap. -/
theorem exec_block_frame {b : BlockOp} {s t : State} (hio : b.isIo = true → s.flag .ibrk = true) (h : exec b.toInstr s = .next t) :
    t.pc = s.pc ∧ t.run = s.run ∧ t.hold = s.hold ∧ t.trace = s.trace ∧ t.pre = s.pre ∧ (s.pre.rep = none → t.resume = s.resume) ∧
      Frame s t (b.regs s ++ countKeys s) b.mask (b.loads s) (b.stores s) := by
  cases hrep : s.pre.rep with
  | none =>
    rw [exec_block_once hrep hio, act_eq_next] at h
    have c := body_confined h
    rw [countKeys, if_pos hrep, List.append_nil]
    exact ⟨c.pc, c.quiet.run, c.quiet.hold, c.quiet.trace, c.quiet.pre, fun _ => c.quiet.resume, c.frame⟩
  | some p =>
    by_cases hc : p.comparesOnly = false ∨ b.compares = true
    · by_cases hcw : s.reg16 .cw = 0
      · rw [exec_block_done hrep hc hio hcw] at h
        cases h
        exact ⟨rfl, rfl, rfl, rfl, rfl, fun e => by simp at e, by constructor <;> intros <;> rfl⟩
      · rw [exec_block_iteration hrep hc hio hcw, act_eq_next] at h
        obtain ⟨_, u, h1, h2⟩ := M.bind_ok.1 h
        cases h2
        have c := (body_confined h1).setReg16 b.mask_bank .cw (u.reg16 .cw - 1)
        rw [countKeys, if_neg (by simp [hrep])]
        refine ⟨c.pc, c.quiet.run, c.quiet.hold, c.quiet.trace, c.quiet.pre, fun e => by simp at e, c.frame.trans ?_⟩
        constructor <;> intros <;> rfl
    · obtain ⟨hpc, hbc⟩ := not_or.1 hc
      rw [exec_block_refused hrep (Bool.eq_true_of_not_eq_false hpc) (Bool.eq_false_of_not_eq_true hbc)] at h
      cases h

/-- Settles O47. -/
theorem blockFrame : Obligations.BlockFrame := by
  intro b s t hio h
  obtain ⟨hpc, hrun, hhold, htrace, hpre, hres, hframe⟩ := exec_block_frame hio h
  refine ⟨hpc, hrun, hhold, htrace, hpre, hres, ?_⟩
  cases b <;> exact hframe

/-! ### The repeat prefixes change nothing of an element -/

/-- The state with another, or none, of the repeat prefixes. -/
def State.withRep (s : State) (r : Option Rep) : State := s.withPre { s.pre with rep := r }

/-- A computation that does not look at the repeat prefixes: with another one it does the same. -/
def RepBlind {α : Type} (x : M α) : Prop := ∀ s r a t, x s = .ok (a, t) → x (s.withRep r) = .ok (a, t.withRep r)

namespace RepBlind

section
variable {α β : Type}

theorem bind {x : M α} {f : α → M β} (hx : RepBlind x) (hf : ∀ a, RepBlind (f a)) : RepBlind (x >>= f) := by
  intro s r b t h
  obtain ⟨a, u, h1, h2⟩ := M.bind_ok.1 h
  rw [M.bind_of_ok (hx s r a u h1)]
  exact hf a u r b t h2

theorem pure (a : α) : RepBlind (pure a) := by
  intro s r b t h
  cases h
  rfl

theorem faults (f : Fault) : RepBlind (faults f : M α) := by
  intro s r b t h
  cases h

theorem reads {f : State → α} (h : ∀ s r, f (s.withRep r) = f s) : RepBlind (reads f) := by
  intro s r b t hr
  cases hr
  rw [M.reads_apply, h]

theorem update {f : State → State} (h : ∀ s r, f (s.withRep r) = (f s).withRep r) : RepBlind (update f) := by
  intro s r b t hr
  cases hr
  rw [M.update_apply, h]

theorem draw : RepBlind draw := by
  intro s r b t h
  cases h
  rfl

theorem ite {c : Prop} [Decidable c] {x y : M α} (hx : RepBlind x) (hy : RepBlind y) : RepBlind (if c then x else y) := by
  split
  · exact hx
  · exact hy

end

theorem drawByte : RepBlind drawByte := draw.bind fun _ => pure _

theorem readPeripheral (o : Byte) : RepBlind (readPeripheral o) :=
  drawByte.bind fun _ => (update fun _ _ => rfl).bind fun _ => pure _

theorem readSfr (o : Byte) : RepBlind (readSfr o) := by
  refine ite (reads fun _ _ => rfl) (ite (reads fun _ _ => rfl) (ite (drawByte.bind fun _ => reads fun _ _ => rfl)
    (ite (drawByte.bind fun _ => (update fun _ _ => rfl).bind fun _ => pure _) ?_)))
  cases sfrByteKind o with
  | wordOnly => exact faults _
  | reserved => exact drawByte
  | register access =>
    cases access with
    | writeOnly => exact drawByte
    | readOnly => exact readPeripheral o
    | readWrite => exact readPeripheral o

theorem writeSfr (o v : Byte) : RepBlind (writeSfr o v) := by
  refine ite (update fun _ _ => rfl) (ite (update fun _ _ => rfl) (ite (update fun _ _ => rfl) (ite (update fun _ _ => rfl) ?_)))
  cases sfrByteKind o with
  | wordOnly => exact faults _
  | reserved => exact pure _
  | register access =>
    cases access with
    | writeOnly => exact update fun _ _ => rfl
    | readOnly => exact pure _
    | readWrite => exact update fun _ _ => rfl

theorem readExt (a : PhysAddr) : RepBlind (readExt a) := by
  intro s r b t h
  unfold Machine.readExt at h ⊢
  split at h
  · cases h
  · next hr =>
    rw [if_neg hr]
    cases hk : s.kindAt a with
    | none => rw [hk] at h; cases h
    | some k => rw [hk] at h; cases h; rw [show (s.withRep r).kindAt a = _ from hk]; rfl

theorem writeExt (a : PhysAddr) (v : Byte) : RepBlind (writeExt a v) := by
  intro s r b t h
  unfold Machine.writeExt at h ⊢
  split at h
  · cases h
  · next hr =>
    rw [if_neg hr]
    cases hk : s.kindAt a with
    | none => rw [hk] at h; cases h
    | some k =>
      rw [hk] at h
      rw [show (s.withRep r).kindAt a = _ from hk]
      cases k <;> cases h <;> rfl

theorem readByte (a : PhysAddr) : RepBlind (readByte a) := by
  refine (reads fun _ _ => rfl).bind fun g => ?_
  cases g with
  | idbReg => exact reads fun _ _ => rfl
  | sfr o => exact readSfr o
  | iram o => exact reads fun _ _ => rfl
  | ext => exact readExt a

theorem writeByte (a : PhysAddr) (v : Byte) : RepBlind (writeByte a v) := by
  refine (reads fun _ _ => rfl).bind fun g => ?_
  cases g with
  | idbReg => exact update fun _ _ => rfl
  | sfr o => exact writeSfr o v
  | iram o => exact update fun _ _ => rfl
  | ext => exact writeExt a v

theorem readWord (a : PhysAddr) : RepBlind (readWord a) :=
  (reads fun _ _ => rfl).bind fun _ => ite (draw.bind fun _ => (update fun _ _ => rfl).bind fun _ => pure _)
    ((readByte a).bind fun _ => (readByte (a + 1)).bind fun _ => pure _)

theorem writeWord (a : PhysAddr) (v : Word) : RepBlind (writeWord a v) :=
  (reads fun _ _ => rfl).bind fun _ => ite (update fun _ _ => rfl) ((writeByte a _).bind fun _ => writeByte (a + 1) _)

theorem ioReadByte (port : Word) : RepBlind (ioReadByte port) :=
  (reads fun _ _ => rfl).bind fun _ => ite (drawByte.bind fun _ => (update fun _ _ => rfl).bind fun _ => pure _) (faults _)

theorem ioWriteByte (port : Word) (v : Byte) : RepBlind (ioWriteByte port v) :=
  (reads fun _ _ => rfl).bind fun _ => ite (update fun _ _ => rfl) (faults _)

theorem ioReadWord (port : Word) : RepBlind (ioReadWord port) :=
  (ioReadByte port).bind fun _ => (ioReadByte (port + 1)).bind fun _ => pure _

theorem ioWriteWord (port v : Word) : RepBlind (ioWriteWord port v) :=
  (ioWriteByte port _).bind fun _ => ioWriteByte (port + 1) _

theorem advance (r : Reg16) (n : Word) : RepBlind (advance r n) := update fun _ _ => rfl

end RepBlind

section
variable {w : Nat} {ρ : Type}

/-- The operations of a size do not look at the repeat prefixes. -/
structure Size.Blind (z : Size w ρ) : Prop where
  readMem : ∀ seg off, RepBlind (z.ops.readMem seg off)
  writeMem : ∀ seg off v, RepBlind (z.ops.writeMem seg off v)
  ioRead : ∀ port, RepBlind (z.ops.ioRead port)
  ioWrite : ∀ port v, RepBlind (z.ops.ioWrite port v)
  getReg : ∀ r, RepBlind (getReg z.ops r)
  setReg : ∀ r v, RepBlind (setReg z.ops r v)

theorem byteSize_blind : byteSize.Blind where
  readMem _ _ := .readByte _
  writeMem _ _ v := .writeByte _ v
  ioRead := .ioReadByte
  ioWrite := .ioWriteByte
  getReg _ := .reads fun _ _ => rfl
  setReg _ _ := .update fun _ _ => rfl

theorem wordSize_blind : wordSize.Blind where
  readMem _ _ := .readWord _
  writeMem _ _ v := .writeWord _ v
  ioRead := .ioReadWord
  ioWrite := .ioWriteWord
  getReg _ := .reads fun _ _ => rfl
  setReg _ _ := .update fun _ _ => rfl

variable {z : Size w ρ} (hb : z.Blind)
include hb

theorem repBlind_moveElement : RepBlind (moveElement z.ops) :=
  .bind (.reads fun _ _ => rfl) fun _ => .bind (.reads fun _ _ => rfl) fun _ => (hb.readMem _ _).bind fun _ =>
    .bind (.reads fun _ _ => rfl) fun _ => .bind (.reads fun _ _ => rfl) fun _ => (hb.writeMem _ _ _).bind fun _ =>
    (RepBlind.advance _ _).bind fun _ => .advance _ _

theorem repBlind_compareElements : RepBlind (compareElements z.ops) :=
  .bind (.reads fun _ _ => rfl) fun _ => .bind (.reads fun _ _ => rfl) fun _ => (hb.readMem _ _).bind fun _ =>
    .bind (.reads fun _ _ => rfl) fun _ => .bind (.reads fun _ _ => rfl) fun _ => (hb.readMem _ _).bind fun _ =>
    .bind (.update fun _ _ => rfl) fun _ => (RepBlind.advance _ _).bind fun _ => .advance _ _

theorem repBlind_compareAcc : RepBlind (compareAcc z.ops) :=
  .bind (.reads fun _ _ => rfl) fun _ => .bind (.reads fun _ _ => rfl) fun _ => (hb.readMem _ _).bind fun _ =>
    (hb.getReg _).bind fun _ => .bind (.update fun _ _ => rfl) fun _ => .advance _ _

theorem repBlind_loadElement : RepBlind (loadElement z.ops) :=
  .bind (.reads fun _ _ => rfl) fun _ => .bind (.reads fun _ _ => rfl) fun _ => (hb.readMem _ _).bind fun _ =>
    (hb.setReg _ _).bind fun _ => .advance _ _

theorem repBlind_storeElement : RepBlind (storeElement z.ops) :=
  .bind (.reads fun _ _ => rfl) fun _ => (hb.getReg _).bind fun _ => .bind (.reads fun _ _ => rfl) fun _ =>
    (hb.writeMem _ _ _).bind fun _ => .advance _ _

theorem repBlind_inputElement : RepBlind (inputElement z.ops) :=
  .bind (.reads fun _ _ => rfl) fun _ => (hb.ioRead _).bind fun _ => .bind (.reads fun _ _ => rfl) fun _ =>
    .bind (.reads fun _ _ => rfl) fun _ => (hb.writeMem _ _ _).bind fun _ => .advance _ _

theorem repBlind_outputElement : RepBlind (outputElement z.ops) :=
  .bind (.reads fun _ _ => rfl) fun _ => .bind (.reads fun _ _ => rfl) fun _ => (hb.readMem _ _).bind fun _ =>
    .bind (.reads fun _ _ => rfl) fun _ => (hb.ioWrite _ _).bind fun _ => .advance _ _

end

theorem repBlind_body (b : BlockOp) : RepBlind b.body := by
  cases b with
  | movbkb => exact repBlind_moveElement byteSize_blind
  | movbkw => exact repBlind_moveElement wordSize_blind
  | cmpbkb => exact repBlind_compareElements byteSize_blind
  | cmpbkw => exact repBlind_compareElements wordSize_blind
  | cmpmb => exact repBlind_compareAcc byteSize_blind
  | cmpmw => exact repBlind_compareAcc wordSize_blind
  | ldmb => exact repBlind_loadElement byteSize_blind
  | ldmw => exact repBlind_loadElement wordSize_blind
  | stmb => exact repBlind_storeElement byteSize_blind
  | stmw => exact repBlind_storeElement wordSize_blind
  | inmb => exact repBlind_inputElement byteSize_blind
  | inmw => exact repBlind_inputElement wordSize_blind
  | outmb => exact repBlind_outputElement byteSize_blind
  | outmw => exact repBlind_outputElement wordSize_blind

/-- What an element does alone it does repeated. -/
theorem body_under_prefix {b : BlockOp} {s u : State} (h : b.body (s.withPre { s.pre with rep := none }) = .ok ((), u)) :
    b.body s = .ok ((), u.withPre s.pre) := by
  have hpre : u.pre = { s.pre with rep := none } := (body_confined h).quiet.pre
  have hb := repBlind_body b _ s.pre.rep _ _ h
  rwa [State.withRep, State.withRep, hpre] at hb

/-- Settles O48. -/
theorem repeatedBlock : Obligations.RepeatedBlock := by
  intro b p s hp
  refine ⟨fun ⟨hc, hb⟩ => exec_block_refused hp hc hb, fun hc hio => ⟨exec_block_done hp hc hio, fun u hcw hu => ⟨_, rfl, ?_⟩⟩⟩
  rw [exec_block_once (s := s.withPre { s.pre with rep := none }) rfl hio, act_eq_next] at hu
  rw [exec_block_iteration hp hc hio hcw, act_bind_of_ok (body_under_prefix hu)]
  refine congrArg (fun r => Host.Outcome.next (State.withResume _ r)) ?_
  have hexit (t : State) : (b.compares && t.repExits p || t.reg16 .cw == 0) = true ↔
      t.reg16 .cw = 0 ∨ (b.compares && t.repExits p) = true := by
    rw [Bool.or_eq_true, beq_iff_eq, or_comm]
  cases p <;> exact if_congr (hexit _) rfl rfl

end Sys2Proof.Machine


namespace Sys2Proof.Machine

-- Declarations are checked one after another, which keeps the memory of a compile bounded.
set_option Elab.async false

/-! ## REP STMB fills (O49) -/

theorem State.reg8_setReg16_other (s : State) {r : Reg16} {q : Reg8} (v : Word) (h : offReg8 q ≠ offReg16 r)
    (h1 : offReg8 q ≠ offReg16 r + 1) : (s.setReg16 r v).reg8 q = s.reg8 q :=
  State.bankByte_setBankWord_other s v (offReg16_range r).2 (offReg8_range q).2 (by omega)

/-- About to resume REP STMB, with nothing to interrupt it. -/
structure Filling (s : State) : Prop where
  resume : s.resume = some (.block .stmb)
  rep : s.pre.rep = some .rep ∨ s.pre.rep = some .repne
  resetPin : s.resetPin = false
  run : s.run = .running
  nmi : s.nmi = false
  irq : s.irq = none
  trace : s.trace = false
  brk : s.flag .brk = false
  dir : s.flag .dir = false

/-- What one iteration of it leaves. -/
structure FilledOne (s u : State) : Prop where
  cw : u.reg16 .cw = s.reg16 .cw - 1
  iy : u.reg16 .iy = s.reg16 .iy + 1
  al : u.reg8 .al = s.reg8 .al
  ds1 : u.sreg .ds1 = s.sreg .ds1
  pc : u.pc = s.pc
  psw : u.psw = s.psw
  ext : u.ext = s.ext.write (phys (s.sreg .ds1) (s.reg16 .iy)).toNat (s.reg8 .al)
  last : s.reg16 .cw - 1 = 0 → u.resume = none ∧ u.pre = Prefixes.none
  more : s.reg16 .cw - 1 ≠ 0 → Filling u ∧ SameMap s u

/-- The state after one byte is stored, IY stepped and CW counted down. -/
def State.filledByte (s : State) : State :=
  let t := (s.storeExt (phys (s.sreg .ds1) (s.reg16 .iy)) (s.reg8 .al)).setReg16 .iy (s.reg16 .iy + 1)
  t.setReg16 .cw (s.reg16 .cw - 1)

theorem filledByte_cw (s : State) : s.filledByte.reg16 .cw = s.reg16 .cw - 1 := State.reg16_setReg16_same _ _ _

theorem filledByte_iy (s : State) : s.filledByte.reg16 .iy = s.reg16 .iy + 1 :=
  (State.reg16_setReg16_other _ _ (by decide)).trans (State.reg16_setReg16_same _ _ _)

theorem filledByte_al (s : State) : s.filledByte.reg8 .al = s.reg8 .al :=
  (State.reg8_setReg16_other _ _ (by decide) (by decide)).trans (State.reg8_setReg16_other _ _ (by decide) (by decide))

theorem filledByte_ds1 (s : State) : s.filledByte.sreg .ds1 = s.sreg .ds1 :=
  (State.sreg_setReg16 _ _ _ _).trans (State.sreg_setReg16 _ _ _ _)

theorem filledByte_psw (s : State) : s.filledByte.psw = s.psw := by simp [State.filledByte]

theorem filledByte_pc (s : State) : s.filledByte.pc = s.pc := by simp [State.filledByte]

theorem sameMap_filledByte (s : State) : SameMap s s.filledByte :=
  ((sameMap_storeExt _ _ _).trans (sameMap_setReg16 _ _ _)).trans (sameMap_setReg16 _ _ _)

theorem quiet_filledByte (s : State) : Quiet s s.filledByte :=
  ((quiet_storeExt _ _ _).trans (quiet_setReg16 _ _ _)).trans (quiet_setReg16 _ _ _)

/-- What may interrupt the next iteration stays as it is. -/
theorem filledByte_pins (s : State) : s.filledByte.resetPin = s.resetPin ∧ s.filledByte.nmi = s.nmi ∧ s.filledByte.irq = s.irq := by
  simp [State.filledByte]

/-- STMB repeated, upward into plain RAM. -/
theorem exec_stmb_fills {p : Rep} {s : State} (hp : s.pre.rep = some p) (hc : p.comparesOnly = false) (hdir : s.flag .dir = false)
    (hcw : s.reg16 .cw ≠ 0) (hram : s.ramAt (phys (s.sreg .ds1) (s.reg16 .iy)) = true) :
    exec .stmb s = .next (s.filledByte.withResume (if s.reg16 .cw - 1 = 0 then none else some (.block .stmb))) := by
  have hbody : BlockOp.stmb.body s = .ok ((), (s.storeExt (phys (s.sreg .ds1) (s.reg16 .iy)) (s.reg8 .al)).setReg16 .iy (s.reg16 .iy + 1)) := by
    refine (storeElement_ok (z := byteSize) (s := s)).2 ⟨_, writeByte_ram hram _, ?_⟩
    rw [State.advanced, State.stepIndex, show (s.storeExt _ _).flag .dir = false from hdir, if_neg Bool.false_ne_true]
    rfl
  rw [show exec .stmb s = _ from exec_block_iteration (b := .stmb) hp (.inl hc) (fun h => by cases h) hcw, act_bind_of_ok hbody, act_eq_next]
  have hcount : ((s.storeExt (phys (s.sreg .ds1) (s.reg16 .iy)) (s.reg8 .al)).setReg16 .iy (s.reg16 .iy + 1)).reg16 .cw = s.reg16 .cw :=
    State.reg16_setReg16_other _ _ (by decide)
  rw [M.update_apply, State.counted, hcount]
  rw [show (State.setReg16 _ .cw (s.reg16 .cw - 1)).reg16 .cw = s.reg16 .cw - 1 from State.reg16_setReg16_same _ _ _]
  refine congrArg (fun r => Except.ok ((), State.withResume _ r)) ?_
  exact if_congr (by simp [BlockOp.compares]) rfl rfl

/-- What is seen of an iteration does not depend on how the step began and ended. -/
theorem filledOne_of_eq {s b u : State} (hb : s.beginAgain = b) (hiram : u.iram = b.filledByte.iram) (hpsw : u.psw = b.filledByte.psw)
    (hpc : u.pc = b.filledByte.pc) (hext : u.ext = b.filledByte.ext)
    (hlast : s.reg16 .cw - 1 = 0 → u.resume = none ∧ u.pre = Prefixes.none)
    (hmore : s.reg16 .cw - 1 ≠ 0 → Filling u ∧ SameMap s u) : FilledOne s u := by
  subst hb
  exact
    { cw := (State.reg16_congr hiram hpsw _).trans (filledByte_cw s.beginAgain)
      iy := (State.reg16_congr hiram hpsw _).trans (filledByte_iy s.beginAgain)
      al := (State.reg8_congr hiram hpsw _).trans (filledByte_al s.beginAgain)
      ds1 := (State.sreg_congr hiram hpsw _).trans (filledByte_ds1 s.beginAgain)
      pc := hpc.trans (filledByte_pc s.beginAgain)
      psw := hpsw.trans (filledByte_psw s.beginAgain)
      ext := hext
      last := hlast
      more := hmore }

/-- One step is one iteration. -/
theorem step_fills {s : State} (h : Filling s) (hcw : s.reg16 .cw ≠ 0)
    (hram : s.ramAt (phys (s.sreg .ds1) (s.reg16 .iy)) = true) : ∃ u, step s = .next u ∧ FilledOne s u := by
  obtain ⟨p, hp, hc⟩ : ∃ p, s.pre.rep = some p ∧ p.comparesOnly = false := by
    rcases h.rep with hp | hp
    · exact ⟨.rep, hp, rfl⟩
    · exact ⟨.repne, hp, rfl⟩
  have hb : s.boundary = .execute := boundary_quiet h.resetPin h.run (State.afterPrefix_eq_false (.inr (by simp [h.resume])))
    (State.trapDue_eq_false (.inl h.trace)) h.nmi (.inl h.irq)
  have hx := exec_stmb_fills (s := s.beginAgain) hp hc h.dir hcw hram
  have runs (t : State) (ht : exec .stmb s.beginAgain = .next t) : step s = .next (s.finish .stmb t) := by
    rw [step_of_execute hb, execute_of_resume h.resume]
    exact (runInstr_spec s .stmb _).1 t ht
  generalize hbegin : s.beginAgain = b at hx runs
  by_cases hlast : s.reg16 .cw - 1 = 0
  · rw [if_pos (by rw [← hbegin]; exact hlast)] at hx
    obtain ⟨-, ends, -, -⟩ := finish_spec s .stmb (b.filledByte.withResume none)
    have hstep := runs _ hx
    rw [ends rfl rfl] at hstep
    exact ⟨_, hstep, filledOne_of_eq hbegin rfl rfl rfl rfl (fun _ => ⟨rfl, rfl⟩) fun hne => absurd hlast hne⟩
  · rw [if_neg (by rw [← hbegin]; exact hlast)] at hx
    obtain ⟨-, -, goesOn, -⟩ := finish_spec s .stmb (b.filledByte.withResume (some (.block .stmb)))
    have hstep := runs _ hx
    rw [goesOn rfl _ rfl] at hstep
    refine ⟨_, hstep, filledOne_of_eq hbegin rfl rfl rfl rfl (fun he => absurd he hlast) fun _ => ?_⟩
    obtain ⟨hpin, hnmi, hirq⟩ := filledByte_pins b
    have q := quiet_filledByte b
    have m := sameMap_filledByte b
    have hflag (f : Flag) : b.filledByte.flag f = b.flag f := by rw [State.flag, filledByte_psw]; rfl
    subst hbegin
    have hrep (r : Rep) (hr : s.pre.rep = some r) : s.beginAgain.filledByte.pre.rep = some r := by rw [q.pre]; exact hr
    exact ⟨⟨rfl, h.rep.imp (hrep _) (hrep _), hpin.trans h.resetPin, q.run.trans h.run, hnmi.trans h.nmi, hirq.trans h.irq,
      q.trace.trans h.brk, (hflag .brk).trans h.brk, (hflag .dir).trans h.dir⟩, m.area, m.prc, m.memmap⟩

/-- The address of the byte `k` places after the one at DS1:IY. -/
def State.fillAddr (s : State) (k : Nat) : PhysAddr := phys (s.sreg .ds1) (s.reg16 .iy + BitVec.ofNat 16 k)

/-- What `n` iterations, the last ones, leave. -/
structure Filled (n : Nat) (s t : State) : Prop where
  resume : t.resume = none
  pre : t.pre = Prefixes.none
  cw : t.reg16 .cw = 0
  iy : t.reg16 .iy = s.reg16 .iy + BitVec.ofNat 16 n
  pc : t.pc = s.pc
  psw : t.psw = s.psw
  bytes : ∀ k, k < n → t.ext.read (s.fillAddr k).toNat = s.reg8 .al
  others : ∀ a : PhysAddr, (∀ k, k < n → a ≠ s.fillAddr k) → t.ext.read a.toNat = s.ext.read a.toNat

theorem State.fillAddr_zero (s : State) : s.fillAddr 0 = phys (s.sreg .ds1) (s.reg16 .iy) := by
  rw [State.fillAddr, BitVec.add_zero]

theorem offset_succ (x : Word) (k : Nat) : x + 1 + BitVec.ofNat 16 k = x + BitVec.ofNat 16 (k + 1) := by
  rw [BitVec.add_assoc, Nat.add_comm k 1, BitVec.ofNat_add]
  rfl

theorem FilledOne.fillAddr {s u : State} (f : FilledOne s u) (k : Nat) : u.fillAddr k = s.fillAddr (k + 1) := by
  rw [State.fillAddr, f.ds1, f.iy, offset_succ]
  rfl

/-- `n + 1` steps fill that many bytes: the first one, and then the others. -/
theorem runs_fill (n : Nat) : ∀ s : State, Filling s → (s.reg16 .cw).toNat = n + 1 →
    (∀ k, k < n + 1 → s.ramAt (s.fillAddr k) = true) → ∃ t, Runs (n + 1) s t ∧ Filled (n + 1) s t := by
  induction n with
  | zero =>
    intro s h hcw hram
    have hone : s.reg16 .cw = 1 := BitVec.eq_of_toNat_eq hcw
    obtain ⟨u, hstep, f⟩ := step_fills h (by rw [hone]; decide) (s.fillAddr_zero ▸ hram 0 (Nat.succ_pos 0))
    obtain ⟨hres, hpre⟩ := f.last (by rw [hone]; rfl)
    refine ⟨u, ⟨u, hstep, rfl⟩, hres, hpre, by rw [f.cw, hone]; rfl, f.iy, f.pc, f.psw, fun k hk => ?_, fun a ha => ?_⟩
    · rw [Nat.lt_one_iff.1 hk, s.fillAddr_zero, f.ext, Memory.read_write_same]
    · have hne := ha 0 (Nat.succ_pos 0)
      rw [s.fillAddr_zero] at hne
      rw [f.ext, Memory.read_write_other _ _ fun e => hne (BitVec.eq_of_toNat_eq e.symm)]
  | succ n ih =>
    intro s h hcw hram
    have hcw0 : s.reg16 .cw ≠ 0 := fun e => by rw [e] at hcw; cases hcw
    obtain ⟨u, hstep, f⟩ := step_fills h hcw0 (s.fillAddr_zero ▸ hram 0 (Nat.succ_pos _))
    have hcwu : (s.reg16 .cw - 1).toNat = n + 1 := by
      rw [BitVec.toNat_sub_of_le (by rw [BitVec.le_def, hcw]; exact Nat.le_add_left 1 (n + 1)), hcw]
      rfl
    obtain ⟨hf, hmap⟩ := f.more fun e => by rw [e] at hcwu; cases hcwu
    obtain ⟨t, hruns, g⟩ := ih u hf (by rw [f.cw, hcwu]) fun k hk => by
      rw [f.fillAddr, hmap.ramAt]
      exact hram (k + 1) (Nat.succ_lt_succ hk)
    have hfirst (a : PhysAddr) (ha : ∀ k, k < n + 1 → a ≠ s.fillAddr (k + 1)) :
        t.ext.read a.toNat = (s.ext.write (s.fillAddr 0).toNat (s.reg8 .al)).read a.toNat := by
      rw [s.fillAddr_zero, ← f.ext]
      exact g.others a fun k hk => by rw [f.fillAddr]; exact ha k hk
    refine ⟨t, ⟨u, hstep, hruns⟩, g.resume, g.pre, g.cw, ?_, g.pc.trans f.pc, g.psw.trans f.psw, fun k hk => ?_, fun a ha => ?_⟩
    · rw [g.iy, f.iy, offset_succ]
    · by_cases hlater : ∃ j, j < n + 1 ∧ s.fillAddr k = s.fillAddr (j + 1)
      · obtain ⟨j, hj, e⟩ := hlater
        rw [e, ← f.fillAddr, g.bytes j hj, f.al]
      · have hk0 : k = 0 := by
          cases k with
          | zero => rfl
          | succ j => exact absurd ⟨j, Nat.lt_of_succ_lt_succ hk, rfl⟩ hlater
        rw [hfirst _ fun j hj e => hlater ⟨j, hj, e⟩, hk0, Memory.read_write_same]
    · rw [hfirst a fun k hk => ha (k + 1) (Nat.succ_lt_succ hk),
        Memory.read_write_other _ _ fun e => ha 0 (Nat.succ_pos _) (BitVec.eq_of_toNat_eq e.symm)]

/-- Settles O49, by induction on the number of bytes. -/
theorem repeatedStoreFills : Obligations.RepeatedStoreFills := by
  intro n s hn hcw hres hrep hpin hrun hnmi hirq htrace hbrk hdir hram
  obtain ⟨m, rfl⟩ : ∃ m, n = m + 1 := ⟨n - 1, (Nat.sub_add_cancel hn).symm⟩
  obtain ⟨t, hruns, f⟩ := runs_fill m s ⟨hres, hrep, hpin, hrun, hnmi, hirq, htrace, hbrk, hdir⟩ hcw hram
  exact ⟨t, hruns, f.resume, f.pre, f.cw, f.iy, f.pc, f.psw, f.bytes, f.others⟩

end Sys2Proof.Machine


namespace Sys2Proof.Machine

-- Declarations are checked one after another, which keeps the memory of a compile bounded.
set_option Elab.async false

/-! ## Bit fields (O51) -/

/-- The first bit of the field, counted from the word at the index. -/
def State.fieldOff (s : State) (r : Reg8) : Nat := (s.reg8 r).toNat % 16

/-- The bits of the field. -/
def fieldLen (c : Byte) : Nat := c.toNat % 16 + 1

/-- The bytes of the words a field covers. -/
def fieldBytes (seg off16 : Word) (total : Nat) : List PhysAddr :=
  wordSize.span (phys seg off16) ++ (if 16 < total then wordSize.span (phys seg (off16 + 2)) else [])

/-! ### The words of a field -/

theorem ite_bind_eq {α β : Type} {c : Prop} [Decidable c] (x y : M α) (f : α → M β) :
    (if c then x >>= f else y >>= f) = (if c then x else y) >>= f := by
  split <;> rfl

theorem readHigh_ok {c : Prop} [Decidable c] {seg off hi : Word} {s t : State} :
    (if c then readW seg off else pure 0 : M Word) s = .ok (hi, t) ↔
      if c then readWord (phys seg off) s = .ok (hi, t) else hi = 0 ∧ t = s := by
  split
  · exact Iff.rfl
  · exact ⟨fun h => by cases h; exact ⟨rfl, rfl⟩, fun ⟨h1, h2⟩ => by rw [h1, h2]; rfl⟩

theorem writeHigh_ok {c : Prop} [Decidable c] {seg off v : Word} {s t : State} :
    (if c then writeW seg off v else pure () : M Unit) s = .ok ((), t) ↔
      if c then writeWord (phys seg off) v s = .ok ((), t) else t = s := by
  split
  · exact Iff.rfl
  · exact ⟨fun h => by cases h; rfl, fun h => by rw [h]; rfl⟩

theorem fieldReads_readOnly {seg off16 : Word} {total : Nat} {s t : State} {x : BitVec 32} (h : fieldReads seg off16 total s x t) :
    ReadOnly s t ∧ Frame s t [] 0 (fieldBytes seg off16 total) [] := by
  obtain ⟨lo, u, hi, h1, -, h2⟩ := h
  obtain ⟨r1, f1⟩ := readWord_frame h1
  rw [fieldBytes]
  by_cases hc : 16 < total
  · rw [if_pos hc] at h2 ⊢
    obtain ⟨r2, f2⟩ := readWord_frame h2
    exact ⟨r1.trans r2, f1.then f2 (hl1 := List.subset_append_left _ _) (hl2 := List.subset_append_right _ _)⟩
  · rw [if_neg hc] at h2 ⊢
    rw [h2.2]
    exact ⟨r1, f1.mono (List.Subset.refl _) (by simp) (List.subset_append_left _ _) (by simp)⟩

theorem fieldWrites_confined {seg off16 : Word} {total : Nat} {s t : State} {x : BitVec 32} (h : fieldWrites seg off16 total x s t) :
    Confined s t [] 0 [] (fieldBytes seg off16 total) := by
  obtain ⟨u, h1, h2⟩ := h
  obtain ⟨q1, f1⟩ := writeWord_frame h1
  have c1 : Confined s u [] 0 [] (wordSize.span (phys seg off16)) := ⟨writeWord_pc h1, q1, f1⟩
  rw [fieldBytes]
  by_cases hc : 16 < total
  · rw [if_pos hc] at h2 ⊢
    obtain ⟨q2, f2⟩ := writeWord_frame h2
    have c2 : Confined u t [] 0 [] (wordSize.span (phys seg (off16 + 2))) := ⟨writeWord_pc h2, q2, f2⟩
    exact c1.then c2 (hs1 := List.subset_append_left _ _) (hs2 := List.subset_append_right _ _)
  · rw [if_neg hc] at h2 ⊢
    rw [h2, List.append_nil]
    exact c1

/-- Words that can be accessed can be read. -/
theorem fieldReads_of_ok {seg off16 : Word} {total : Nat} {s : State} (h : s.wordOk (phys seg off16) = true)
    (h2 : 16 < total → s.wordOk (phys seg (off16 + 2)) = true) : ∃ x t, fieldReads seg off16 total s x t := by
  obtain ⟨lo, u, h1, ro⟩ := readWord_of_ok h
  by_cases hc : 16 < total
  · obtain ⟨hi, t, h3, -⟩ := readWord_of_ok ((ro.sameMap.wordOk _).trans (h2 hc))
    exact ⟨_, t, lo, u, hi, h1, rfl, by rw [if_pos hc]; exact h3⟩
  · exact ⟨_, u, lo, u, 0, h1, rfl, by rw [if_neg hc]; exact ⟨rfl, rfl⟩⟩

/-- Words in plain storage can be read and, without a change of what can be accessed, written. -/
theorem fieldReads_of_storage {seg off16 : Word} {total : Nat} {s : State} (h : s.storageWordAt (phys seg off16) = true)
    (h2 : 16 < total → s.storageWordAt (phys seg (off16 + 2)) = true) : ∃ x, fieldReads seg off16 total s x s := by
  by_cases hc : 16 < total
  · exact ⟨_, _, s, _, readWord_storage h, rfl, by rw [if_pos hc]; exact readWord_storage (h2 hc)⟩
  · exact ⟨_, _, s, 0, readWord_storage h, rfl, by rw [if_neg hc]; exact ⟨rfl, rfl⟩⟩

theorem fieldWrites_of_storage {seg off16 : Word} {total : Nat} {s : State} (h : s.storageWordAt (phys seg off16) = true)
    (h2 : 16 < total → s.storageWordAt (phys seg (off16 + 2)) = true) (x : BitVec 32) : ∃ t, fieldWrites seg off16 total x s t := by
  have h1 := writeWord_storage h (x.extractLsb' 0 16)
  by_cases hc : 16 < total
  · have m := (sameMap_storeByte s (phys seg off16) ((x.extractLsb' 0 16).extractLsb' 0 8)).trans
      (sameMap_storeByte _ (phys seg off16 + 1) ((x.extractLsb' 0 16).extractLsb' 8 8))
    exact ⟨_, _, h1, by rw [if_pos hc]; exact writeWord_storage ((m.storageWordAt _).trans (h2 hc)) _⟩
  · exact ⟨_, _, h1, by rw [if_neg hc]⟩

/-! ### What follows the field -/

theorem finishField_apply (index : Reg16) (r : Reg8) (total : Nat) (high : BitVec 4) (s : State) :
    finishField index r total high s = .ok ((), s.fieldDone index r total high (s.draws + 1) (Config.freeWord s.draws)) := by
  rw [finishField, M.bind_update, M.bind_update, State.fieldDone]
  by_cases h : 16 ≤ total
  · rw [if_pos h, if_pos h]; rfl
  · rw [if_neg h, if_neg h]; rfl

theorem fieldDone_confined (s : State) (index : Reg16) (r : Reg8) (total : Nat) (high : BitVec 4) (n : Nat) (flags : Word) :
    Confined s (s.fieldDone index r total high n flags) (byteSize.keys s r ++ wordSize.keys s index) maskStatus [] [] := by
  have reg : Confined s ((s.withDraws n).setReg8 r (high ++ BitVec.ofNat 4 total)) (byteSize.keys s r) 0 [] [] :=
    ⟨rfl, ⟨rfl, rfl, rfl, rfl, rfl⟩, (frame_withDraws s n).then (frame_setReg8 (s.withDraws n) r _) (hr2 := List.Subset.refl _)⟩
  rw [State.fieldDone]
  by_cases h : 16 ≤ total
  · rw [if_pos h]
    exact (reg.setReg16 (by decide) index _).then (confined_setStatus _ _ _) (hr1 := List.Subset.refl _)
  · rw [if_neg h]
    exact reg.then (confined_setStatus _ _ _) (hr1 := List.subset_append_left _ _)

/-! ### EXT -/

/-- The field of `len` bits from bit `off` of a double word. -/
def fieldValue (x : BitVec 32) (off len : Nat) : Word := BitVec.ofNat 16 (x.toNat / 2 ^ off % 2 ^ len)

theorem getLsbD_fieldValue (x : BitVec 32) (off len : Nat) {j : Nat} (hj : j < 16) :
    (fieldValue x off len).getLsbD j = (decide (j < len) && x.getLsbD (off + j)) := by
  rw [fieldValue, BitVec.getLsbD_ofNat, Nat.testBit_mod_two_pow, Nat.testBit_div_two_pow, decide_eq_true hj, Bool.true_and,
    BitVec.getLsbD, Nat.add_comm]

section
variable {i : Instr} {r : Reg8} {c : Byte} {s t : State}

theorem extractField_apply : extractField r c s = (readW (s.segValue .ds0) (s.reg16 .ix) >>= fun lo =>
    (if 16 < s.fieldOff r + fieldLen c then readW (s.segValue .ds0) (s.reg16 .ix + 2) else pure 0) >>= fun hi =>
    update (fun s' => s'.setReg16 .aw (fieldValue (hi ++ lo) (s.fieldOff r) (fieldLen c))) >>= fun _ =>
    finishField .ix r (s.fieldOff r + fieldLen c) 0) s := by
  rw [extractField, M.bind_reads, sourceSeg, M.bind_reads, M.bind_reads]
  exact congrFun (congrArg (readW _ _ >>= ·) (funext fun lo => ite_bind_eq _ _ _)) s

theorem extractField_ok : extractField r c s = .ok ((), t) ↔
    ∃ x u, fieldReads (s.segValue .ds0) (s.reg16 .ix) (s.fieldOff r + fieldLen c) s x u ∧
      t = (u.setReg16 .aw (fieldValue x (s.fieldOff r) (fieldLen c))).fieldDone .ix r (s.fieldOff r + fieldLen c) 0 (u.draws + 1)
        (Config.freeWord u.draws) := by
  rw [extractField_apply, M.bind_ok]
  constructor
  · rintro ⟨lo, v, h1, h⟩
    obtain ⟨hi, u, h2, h3⟩ := M.bind_ok.1 h
    rw [M.bind_update, finishField_apply] at h3
    cases h3
    exact ⟨_, u, ⟨lo, v, hi, h1, rfl, readHigh_ok.1 h2⟩, rfl⟩
  · rintro ⟨x, u, ⟨lo, v, hi, h1, rfl, h2⟩, rfl⟩
    exact ⟨lo, v, h1, by rw [M.bind_of_ok (readHigh_ok.2 h2), M.bind_update, finishField_apply]; rfl⟩

theorem exec_ext (hi : i = .extReg8Imm4 r c ∨ (∃ q, i = .extReg8Reg8 r q ∧ c = s.reg8 q)) : exec i s = act (extractField r c) s := by
  rcases hi with rfl | ⟨q, rfl, rfl⟩
  · rfl
  · exact act_bind_reads _ _ _

/-! ### INS -/

/-- The double word with a field replaced. -/
def fieldReplaced (x : BitVec 32) (off len : Nat) (v : Word) : BitVec 32 := merge x (fieldMask off len) (v.setWidth 32 <<< off)

theorem getLsbD_fieldReplaced (x : BitVec 32) {off len : Nat} (v : Word) {j : Nat} (hj : j < 32) :
    (fieldReplaced x off len v).getLsbD j = if off ≤ j ∧ j < off + len then v.getLsbD (j - off) else x.getLsbD j := by
  have hmask : (fieldMask off len).getLsbD j = (decide (off ≤ j) && decide (j - off < len)) := by
    rw [fieldMask, BitVec.getLsbD_ofNat, Nat.testBit_mul_two_pow, Nat.testBit_two_pow_sub_one, decide_eq_true hj, Bool.true_and]
  rw [fieldReplaced, getLsbD_merge _ _ _ hj, hmask]
  by_cases h : off ≤ j ∧ j < off + len
  · have hlen : j - off < len := by omega
    rw [if_pos h, decide_eq_true h.1, decide_eq_true hlen]
    simp [h.1, hj]
  · rw [if_neg h]
    rcases not_and_or.1 h with h1 | h1
    · simp [h1]
    · have hlen : ¬ j - off < len := by omega
      simp [hlen]

theorem insertField_apply : insertField r c s = (readW (s.sreg .ds1) (s.reg16 .iy) >>= fun lo =>
    (if 16 < s.fieldOff r + fieldLen c then readW (s.sreg .ds1) (s.reg16 .iy + 2) else pure 0) >>= fun hi =>
    reads (fun s' => s'.reg16 .aw) >>= fun aw =>
    writeW (s.sreg .ds1) (s.reg16 .iy) ((fieldReplaced (hi ++ lo) (s.fieldOff r) (fieldLen c) aw).extractLsb' 0 16) >>= fun _ =>
    (if 16 < s.fieldOff r + fieldLen c then writeW (s.sreg .ds1) (s.reg16 .iy + 2)
      ((fieldReplaced (hi ++ lo) (s.fieldOff r) (fieldLen c) aw).extractLsb' 16 16) else pure ()) >>= fun _ =>
    draw >>= fun free => finishField .iy r (s.fieldOff r + fieldLen c) (free.extractLsb' 0 4)) s := by
  rw [insertField, M.bind_reads, M.bind_reads, M.bind_reads]
  refine congrFun (congrArg (readW _ _ >>= ·) (funext fun lo => (ite_bind_eq _ _ _).trans ?_)) s
  refine congrArg (bind (m := M) _) (funext fun hi => ?_)
  refine congrArg (bind (m := M) _) (funext fun aw => ?_)
  exact congrArg (bind (m := M) _) (funext fun _ => ite_bind_eq _ (pure ()) _)

theorem insertField_ok : insertField r c s = .ok ((), t) ↔
    ∃ x u, fieldReads (s.sreg .ds1) (s.reg16 .iy) (s.fieldOff r + fieldLen c) s x u ∧
    ∃ v, fieldWrites (s.sreg .ds1) (s.reg16 .iy) (s.fieldOff r + fieldLen c)
        (fieldReplaced x (s.fieldOff r) (fieldLen c) (s.reg16 .aw)) u v ∧
      t = v.fieldDone .iy r (s.fieldOff r + fieldLen c) ((Config.freeWord v.draws).extractLsb' 0 4) (v.draws + 2)
        (Config.freeWord (v.draws + 1)) := by
  rw [insertField_apply, M.bind_ok]
  constructor
  · rintro ⟨lo, u1, h1, h⟩
    obtain ⟨hi, u, h2, h⟩ := M.bind_ok.1 h
    have hr : fieldReads (s.sreg .ds1) (s.reg16 .iy) (s.fieldOff r + fieldLen c) s (hi ++ lo) u :=
      ⟨lo, u1, hi, h1, rfl, readHigh_ok.1 h2⟩
    rw [M.bind_reads, (fieldReads_readOnly hr).1.reg16] at h
    obtain ⟨_, v1, h3, h⟩ := M.bind_ok.1 h
    obtain ⟨_, v, h4, h⟩ := M.bind_ok.1 h
    rw [M.bind_draw, finishField_apply] at h
    cases h
    exact ⟨_, u, hr, v, ⟨v1, h3, writeHigh_ok.1 h4⟩, rfl⟩
  · rintro ⟨x, u, hr, v, ⟨v1, h3, h4⟩, rfl⟩
    have haw := (fieldReads_readOnly hr).1.reg16 .aw
    obtain ⟨lo, u1, hi, h1, rfl, h2⟩ := hr
    refine ⟨lo, u1, h1, ?_⟩
    rw [M.bind_of_ok (readHigh_ok.2 h2), M.bind_reads, haw, M.bind_of_ok (show writeW _ _ _ u = _ from h3),
      M.bind_of_ok (writeHigh_ok.2 h4), M.bind_draw,
      finishField_apply]
    rfl

theorem exec_ins (hi : i = .insReg8Imm4 r c ∨ (∃ q, i = .insReg8Reg8 r q ∧ c = s.reg8 q)) : exec i s = act (insertField r c) s := by
  rcases hi with rfl | ⟨q, rfl, rfl⟩
  · rfl
  · exact act_bind_reads _ _ _

end

/-- Settles O51. -/
theorem bitFields : Obligations.BitFields := by
  refine ⟨fun i r c s hi => ⟨fun h1 h2 => ?_, fun t h => ?_⟩, fun i r c s hi => ⟨fun h1 h2 => ?_, fun t h => ?_⟩⟩
  · obtain ⟨x, u, hr⟩ := fieldReads_of_ok (total := s.fieldOff r + fieldLen c) h1 h2
    refine ⟨x, u, _, u.draws + 1, Config.freeWord u.draws, hr, Nat.le_succ u.draws,
      fun j hj => getLsbD_fieldValue x (s.fieldOff r) (fieldLen c) hj, ?_⟩
    rw [exec_ext hi, act_eq_next]
    exact extractField_ok.2 ⟨x, u, hr, rfl⟩
  · rw [exec_ext hi, act_eq_next] at h
    obtain ⟨x, u, hr, rfl⟩ := extractField_ok.1 h
    obtain ⟨ro, f⟩ := fieldReads_readOnly hr
    have loaded := (ro.confined f).setReg16 (by decide) .aw (fieldValue x (s.fieldOff r) (fieldLen c))
    have finished := fieldDone_confined (u.setReg16 .aw (fieldValue x (s.fieldOff r) (fieldLen c))) .ix r
      (s.fieldOff r + fieldLen c) 0 (u.draws + 1) (Config.freeWord u.draws)
    have hb : (u.setReg16 .aw (fieldValue x (s.fieldOff r) (fieldLen c))).bank = s.bank := ro.bank
    rw [byteSize_lawful.keys_bank hb, wordSize_lawful.keys_bank hb] at finished
    have whole : Confined s _ (wordSize.keys s .aw ++ byteSize.keys s r ++ wordSize.keys s .ix) maskStatus
        (fieldBytes (s.segValue .ds0) (s.reg16 .ix) (s.fieldOff r + fieldLen c)) [] :=
      loaded.then finished (hr1 := by rw [List.append_assoc]; exact List.subset_append_left _ _)
        (hr2 := by rw [List.append_assoc]; exact List.subset_append_right _ _) (hl1 := List.Subset.refl _)
    exact ⟨whole.pc, whole.quiet, whole.frame⟩
  · obtain ⟨x, hr⟩ := fieldReads_of_storage (total := s.fieldOff r + fieldLen c) h1 h2
    obtain ⟨v, hw⟩ := fieldWrites_of_storage (total := s.fieldOff r + fieldLen c) h1 h2
      (fieldReplaced x (s.fieldOff r) (fieldLen c) (s.reg16 .aw))
    refine ⟨x, s, _, v, (Config.freeWord v.draws).extractLsb' 0 4, v.draws + 2, Config.freeWord (v.draws + 1), hr,
      fun j hj => getLsbD_fieldReplaced x (s.reg16 .aw) hj, hw, Nat.le_add_right v.draws 2, ?_⟩
    rw [exec_ins hi, act_eq_next]
    exact insertField_ok.2 ⟨x, s, hr, v, hw, rfl⟩
  · rw [exec_ins hi, act_eq_next] at h
    obtain ⟨x, u, hr, v, hw, rfl⟩ := insertField_ok.1 h
    obtain ⟨ro, f⟩ := fieldReads_readOnly hr
    have written : Confined s v [] 0 (fieldBytes (s.sreg .ds1) (s.reg16 .iy) (s.fieldOff r + fieldLen c))
        (fieldBytes (s.sreg .ds1) (s.reg16 .iy) (s.fieldOff r + fieldLen c)) :=
      (ro.confined f).then (fieldWrites_confined hw) (hl1 := List.Subset.refl _) (hs2 := List.Subset.refl _)
    have finished := fieldDone_confined v .iy r (s.fieldOff r + fieldLen c) ((Config.freeWord v.draws).extractLsb' 0 4) (v.draws + 2)
      (Config.freeWord (v.draws + 1))
    have hb := written.frame.bank (by decide)
    rw [byteSize_lawful.keys_bank hb, wordSize_lawful.keys_bank hb] at finished
    have whole : Confined s _ (byteSize.keys s r ++ wordSize.keys s .iy) maskStatus
        (fieldBytes (s.sreg .ds1) (s.reg16 .iy) (s.fieldOff r + fieldLen c))
        (fieldBytes (s.sreg .ds1) (s.reg16 .iy) (s.fieldOff r + fieldLen c)) :=
      written.then finished (hr2 := List.Subset.refl _) (hl1 := List.Subset.refl _) (hs1 := List.Subset.refl _)
    exact ⟨whole.pc, whole.quiet, whole.frame⟩

end Sys2Proof.Machine


namespace Sys2Proof.Machine

-- Declarations are checked one after another, which keeps the memory of a compile bounded.
set_option Elab.async false

/-! ## Decimal strings (O52, O53) -/

/-! ### The bytes of a string -/

/-- The addresses of `n` bytes from `off` on. -/
def stringAddrs (seg off : Word) (n : Nat) : List PhysAddr := (List.range n).map fun k => phys seg (off + BitVec.ofNat 16 k)

theorem range_map_succ {α : Type} (f : Word → α) (off : Word) (n : Nat) :
    (List.range (n + 1)).map (fun k => f (off + BitVec.ofNat 16 k)) =
      f off :: (List.range n).map fun k => f (off + 1 + BitVec.ofNat 16 k) := by
  rw [List.range_succ_eq_map, List.map_cons, List.map_map, BitVec.add_zero]
  exact congrArg _ (List.map_congr_left fun k _ => congrArg f (offset_succ off k).symm)

theorem stringAddrs_succ (seg off : Word) (n : Nat) : stringAddrs seg off (n + 1) = phys seg off :: stringAddrs seg (off + 1) n :=
  range_map_succ (phys seg) off n

theorem mem_stringAddrs {seg off : Word} {n k : Nat} (h : k < n) : phys seg (off + BitVec.ofNat 16 k) ∈ stringAddrs seg off n :=
  List.mem_map_of_mem (List.mem_range.2 h)

theorem extBytes_succ (s : State) (seg off : Word) (n : Nat) :
    s.extBytes seg off (n + 1) = s.ext.read (phys seg off).toNat :: s.extBytes seg (off + 1) n :=
  range_map_succ (fun o => s.ext.read (phys seg o).toNat) off n

theorem extBytes_congr {s t : State} {seg off : Word} {n : Nat}
    (h : ∀ a ∈ stringAddrs seg off n, t.ext.read a.toNat = s.ext.read a.toNat) : t.extBytes seg off n = s.extBytes seg off n :=
  List.map_congr_left fun _ hk => h _ (List.mem_map_of_mem hk)

theorem length_extBytes (s : State) (seg off : Word) (n : Nat) : (s.extBytes seg off n).length = n := by
  rw [State.extBytes, List.length_map, List.length_range]

/-! ### One byte of the strings -/

/-- The store of ADD4S and SUB4S, which CMP4S leaves out. -/
def State.storeIf (s : State) (store : Bool) (a : PhysAddr) (v : Byte) : State := if store then s.storeExt a v else s

/-- Whether a byte of the destination string can be used. -/
def State.destAt (s : State) (store : Bool) (a : PhysAddr) : Bool := if store then s.ramAt a else s.memAt a

theorem State.memAt_of_destAt {s : State} {store : Bool} {a : PhysAddr} (h : s.destAt store a = true) : s.memAt a = true := by
  cases store with
  | true => exact State.memAt_of_ramAt h
  | false => exact h

theorem SameMap.destAt {s t : State} (h : SameMap s t) (store : Bool) (a : PhysAddr) : t.destAt store a = s.destAt store a := by
  rw [State.destAt, h.ramAt, h.memAt, State.destAt]

/-- What a part of a string operation changes: the bytes it stores to, and free values drawn. -/
structure Strung (s t : State) (stored : List PhysAddr) : Prop extends Confined s t [] 0 [] stored where
  events : t.events = s.events
  sameMap : SameMap s t

theorem Strung.refl (s : State) (stored : List PhysAddr) : Strung s s stored :=
  ⟨⟨rfl, .refl s, .refl s _ _ _ _⟩, rfl, .refl s⟩

theorem Strung.then {s t u : State} {a b c : List PhysAddr} (h : Strung s t a) (g : Strung t u b) (ha : a ⊆ c) (hb : b ⊆ c) :
    Strung s u c :=
  ⟨h.toConfined.then g.toConfined (hs1 := ha) (hs2 := hb), g.events.trans h.events, h.sameMap.trans g.sameMap⟩

theorem strung_withDraws (s : State) (n : Nat) : Strung s (s.withDraws n) [] :=
  ⟨⟨rfl, ⟨rfl, rfl, rfl, rfl, rfl⟩, frame_withDraws s n⟩, rfl, ⟨rfl, rfl, rfl⟩⟩

theorem strung_storeIf (s : State) (store : Bool) (a : PhysAddr) (v : Byte) : Strung s (s.storeIf store a v) (if store then [a] else []) := by
  cases store with
  | true => exact ⟨⟨rfl, quiet_storeExt s a v, frame_storeExt s a v⟩, rfl, sameMap_storeExt s a v⟩
  | false => exact .refl s _

theorem bcdByte_closed {f : Byte → Byte → Bool → Byte × Bool} {d x : Byte} (hd : isBcd d = true) (hx : isBcd x = true) (c : Bool)
    (s : State) : bcdByte f false d x c s = .ok (f d x c, s.withDraws s.draws) := by
  rw [bcdByte, if_neg (by simp [hd, hx])]
  rfl

theorem bcdByte_completes (f : Byte → Byte → Bool → Byte × Bool) (isOpen : Bool) (d x : Byte) (c : Bool) (s : State) :
    ∃ out m, bcdByte f isOpen d x c s = .ok (out, s.withDraws m) := by
  rw [bcdByte]
  by_cases h : (isOpen || !isBcd d || !isBcd x) = true
  · rw [if_pos h]
    exact ⟨_, _, rfl⟩
  · rw [if_neg h]
    exact ⟨_, s.draws, rfl⟩

section
variable {f : Byte → Byte → Bool → Byte × Bool} {store isOpen : Bool} {src dst : Word}

/-- The loop does one byte and goes on. -/
theorem bcdLoop_succ {n : Nat} {ix iy : Word} {c z : Bool} {s : State} {out : Byte × Bool} {m : Nat}
    (hs : s.memAt (phys src ix) = true) (hd : s.destAt store (phys dst iy) = true)
    (hout : bcdByte f isOpen (s.ext.read (phys dst iy).toNat) (s.ext.read (phys src ix).toNat) c s = .ok (out, s.withDraws m)) :
    bcdLoop f store isOpen src dst (n + 1) ix iy c z s = bcdLoop f store isOpen src dst n (ix + 1) (iy + 1) out.2 (z && out.1 == 0)
      ((s.withDraws m).storeIf store (phys dst iy) out.1) := by
  rw [bcdLoop, readB, M.bind_of_ok (readByte_mem hs), readB, M.bind_of_ok (readByte_mem (State.memAt_of_destAt hd)), M.bind_of_ok hout]
  cases store with
  | true => exact M.bind_of_ok (writeByte_ram (s := s.withDraws m) hd out.1)
  | false => rfl

/-- The loop completes on any bytes of plain memory and stores to the destination string alone. -/
theorem bcdLoop_completes (n : Nat) : ∀ (ix iy : Word) (c z : Bool) (s : State), (∀ a ∈ stringAddrs src ix n, s.memAt a = true) →
    (∀ a ∈ stringAddrs dst iy n, s.destAt store a = true) →
    ∃ out t, bcdLoop f store isOpen src dst n ix iy c z s = .ok (out, t) ∧ Strung s t (if store then stringAddrs dst iy n else []) := by
  induction n with
  | zero => exact fun ix iy c z s _ _ => ⟨_, s, rfl, .refl s _⟩
  | succ n ih =>
    intro ix iy c z s hs hd
    simp only [stringAddrs_succ, List.forall_mem_cons] at hs hd
    obtain ⟨out, m, hout⟩ := bcdByte_completes f isOpen (s.ext.read (phys dst iy).toNat) (s.ext.read (phys src ix).toNat) c s
    have first := (strung_withDraws s m).then (strung_storeIf _ store (phys dst iy) out.1) (List.nil_subset _) (List.Subset.refl _)
    obtain ⟨out', t, ht, rest⟩ := ih (ix + 1) (iy + 1) out.2 (z && out.1 == 0) _
      (fun a ha => (first.sameMap.memAt a).trans (hs.2 a ha)) (fun a ha => (first.sameMap.destAt store a).trans (hd.2 a ha))
    refine ⟨out', t, (bcdLoop_succ hs.1 hd.1 hout).trans ht, first.then rest ?_ ?_⟩ <;> cases store <;> simp [stringAddrs_succ]

/-! ### The instructions -/

theorem act_bcdString {s t : State} {out : Bool × Bool} (h : bcdLoop f store (bcdLengthOpen (s.reg8 .cl)) (s.segValue .ds0) (s.sreg .ds1)
      (if bcdLengthOpen (s.reg8 .cl) then (Config.bcdOpenLength (s.reg8 .cl)).val else (s.reg8 .cl).toNat / 2)
      (s.reg16 .ix) (s.reg16 .iy) false true s = .ok (out, t)) :
    act (bcdString f store) s = .next ((t.withDraws (t.draws + 1)).setStatus maskStatus (bcdStringStatus
      (if bcdLengthOpen (s.reg8 .cl) then flagOf (Config.freeWord t.draws) .cy else out.1)
      (if bcdLengthOpen (s.reg8 .cl) then flagOf (Config.freeWord t.draws) .z else out.2) (Config.freeWord t.draws))) := by
  rw [act_eq_next, bcdString, sourceSeg, M.bind_reads, M.bind_reads, M.bind_reads, M.bind_reads, M.bind_reads, M.bind_of_ok h,
    M.bind_draw]
  rfl

theorem confined_stringStatus {s t : State} {stored : List PhysAddr} (h : Strung s t stored) (n : Nat) (status : Word) :
    Confined s ((t.withDraws n).setStatus maskStatus status) [] maskStatus [] stored :=
  (h.then (strung_withDraws t n) (List.Subset.refl _) (List.nil_subset _)).toConfined.then (confined_setStatus _ _ _)
    (hs1 := List.Subset.refl _)

end

theorem bcdLengthOpen_iff (cl : Byte) : bcdLengthOpen cl = true ↔ cl = 0 ∨ cl.getLsbD 0 = true := by
  rw [bcdLengthOpen, Bool.or_eq_true, beq_iff_eq]

/-- A string operation on plain memory completes, whatever the bytes are. -/
theorem act_bcdString_completes (f : Byte → Byte → Bool → Byte × Bool) (store : Bool) {s : State} {n : Nat}
    (hn : (if bcdLengthOpen (s.reg8 .cl) then (Config.bcdOpenLength (s.reg8 .cl)).val else (s.reg8 .cl).toNat / 2) = n)
    (hs : ∀ a ∈ stringAddrs (s.segValue .ds0) (s.reg16 .ix) n, s.memAt a = true)
    (hd : ∀ a ∈ stringAddrs (s.sreg .ds1) (s.reg16 .iy) n, s.destAt store a = true) :
    ∃ t, act (bcdString f store) s = .next t ∧ t.pc = s.pc ∧ t.events = s.events ∧ Quiet s t ∧
      Frame s t [] maskStatus [] (if store then stringAddrs (s.sreg .ds1) (s.reg16 .iy) n else []) := by
  subst hn
  obtain ⟨out, t, ht, h⟩ := bcdLoop_completes (f := f) (isOpen := bcdLengthOpen (s.reg8 .cl)) _ _ _ false true s hs hd
  have c := confined_stringStatus h (t.draws + 1)
  exact ⟨_, act_bcdString ht, (c _).pc, h.events, (c _).quiet, (c _).frame⟩

/-- Settles O53. -/
theorem decimalStringFrame : Obligations.DecimalStringFrame := by
  intro s cl n srcBytes dstBytes
  have hn : (if bcdLengthOpen (s.reg8 .cl) then (Config.bcdOpenLength (s.reg8 .cl)).val else (s.reg8 .cl).toNat / 2) = n :=
    if_congr (bcdLengthOpen_iff _) rfl rfl
  refine ⟨fun h => ?_, fun hs hd => ⟨?_, ?_⟩⟩
  · exact act_bcdString_completes bcdSub false hn (fun a ha => h a (List.mem_append_left _ ha))
      (fun a ha => h a (List.mem_append_right _ ha))
  · exact act_bcdString_completes bcdAdd true hn hs hd
  · exact act_bcdString_completes bcdSub true hn hs hd

/-! ### Decimal digits (O52) -/

theorem isBcd_iff {x : Byte} : isBcd x = true ↔ x.toNat % 16 ≤ 9 ∧ x.toNat / 16 ≤ 9 := by
  rw [isBcd, Bool.and_eq_true, decide_eq_true_iff, decide_eq_true_iff]

theorem toNat_digits {hi lo : Nat} (hh : hi < 16) (hl : lo < 16) :
    (BitVec.ofNat 4 hi ++ BitVec.ofNat 4 lo : Byte).toNat = hi * 16 + lo := by
  rw [BitVec.toNat_append, ← Nat.shiftLeft_add_eq_or_of_lt (BitVec.ofNat 4 lo).isLt, Nat.shiftLeft_eq, BitVec.toNat_ofNat,
    BitVec.toNat_ofNat, Nat.mod_eq_of_lt hh, Nat.mod_eq_of_lt hl]

/-- A byte made of two decimal digits. -/
theorem digits_append {hi lo : Nat} (hh : hi ≤ 9) (hl : lo ≤ 9) : isBcd (BitVec.ofNat 4 hi ++ BitVec.ofNat 4 lo) = true ∧
    digitsOf (BitVec.ofNat 4 hi ++ BitVec.ofNat 4 lo) = hi * 10 + lo := by
  rw [isBcd_iff, digitsOf, toNat_digits (by omega) (by omega)]
  omega

theorem digitsOf_eq_zero {x : Byte} : digitsOf x = 0 ↔ x = 0 := by
  have h : x = 0 ↔ x.toNat = 0 := ⟨fun e => by rw [e]; rfl, fun e => BitVec.eq_of_toNat_eq e⟩
  rw [h, digitsOf]
  omega

/-- A sum of two digits and a carry, and its carry. -/
theorem digit_carry {m : Nat} (h : m ≤ 19) : (if decide (9 < m) then m - 10 else m) ≤ 9 ∧
    m = (if decide (9 < m) then m - 10 else m) + 10 * (decide (9 < m)).toNat := by
  by_cases hm : 9 < m
  · simp only [hm, decide_true, if_true, Bool.toNat_true]; omega
  · simp only [hm, decide_false, Bool.false_eq_true, if_false, Bool.toNat_false]; omega

/-- A digit less a digit and a borrow, and its borrow. -/
theorem digit_borrow {a b : Nat} (ha : a ≤ 9) (hb : b ≤ 10) : (if decide (a < b) then 10 else 0) + a - b ≤ 9 ∧
    a + 10 * (decide (a < b)).toNat = (if decide (a < b) then 10 else 0) + a - b + b := by
  by_cases h : a < b
  · simp only [h, decide_true, if_true, Bool.toNat_true]; omega
  · simp only [h, decide_false, Bool.false_eq_true, if_false, Bool.toNat_false]; omega

/-- `f` does decimal arithmetic on a byte: destination plus (`sign` 1) or minus (`sign` -1) source and carry. -/
def IsDecimal (sign : Int) (f : Byte → Byte → Bool → Byte × Bool) : Prop :=
  ∀ d x c, isBcd d = true → isBcd x = true → isBcd (f d x c).1 = true ∧
    (digitsOf d : Int) + sign * (digitsOf x + c.toNat) = digitsOf (f d x c).1 + sign * (100 * (f d x c).2.toNat)

theorem bcdAdd_isDecimal : IsDecimal 1 bcdAdd := by
  intro d x c hd hx
  have hc := c.toNat_le
  obtain ⟨hd0, hd1⟩ := isBcd_iff.1 hd
  obtain ⟨hx0, hx1⟩ := isBcd_iff.1 hx
  obtain ⟨hlo, elo⟩ := digit_carry (m := d.toNat % 16 + x.toNat % 16 + c.toNat) (by omega)
  have hk := (decide (9 < d.toNat % 16 + x.toNat % 16 + c.toNat)).toNat_le
  obtain ⟨hhi, ehi⟩ := digit_carry
    (m := d.toNat / 16 + x.toNat / 16 + (decide (9 < d.toNat % 16 + x.toNat % 16 + c.toNat)).toNat) (by omega)
  obtain ⟨hb, hv⟩ := digits_append hhi hlo
  refine ⟨hb, ?_⟩
  rw [show digitsOf (bcdAdd d x c).1 = _ from hv, digitsOf, digitsOf, bcdAdd]
  dsimp only
  omega

theorem bcdSub_isDecimal : IsDecimal (-1) bcdSub := by
  intro d x c hd hx
  have hc := c.toNat_le
  obtain ⟨hd0, hd1⟩ := isBcd_iff.1 hd
  obtain ⟨hx0, hx1⟩ := isBcd_iff.1 hx
  obtain ⟨hlo, elo⟩ := digit_borrow (a := d.toNat % 16) (b := x.toNat % 16 + c.toNat) hd0 (by omega)
  have hk := (decide (d.toNat % 16 < x.toNat % 16 + c.toNat)).toNat_le
  obtain ⟨hhi, ehi⟩ := digit_borrow (a := d.toNat / 16)
    (b := x.toNat / 16 + (decide (d.toNat % 16 < x.toNat % 16 + c.toNat)).toNat) hd1 (by omega)
  obtain ⟨hb, hv⟩ := digits_append hhi hlo
  refine ⟨hb, ?_⟩
  rw [show digitsOf (bcdSub d x c).1 = _ from hv, digitsOf, digitsOf, bcdSub]
  dsimp only
  omega

/-! ### Strings of decimal digits -/

theorem decimalOf_lt {l : List Byte} (h : ∀ x ∈ l, isBcd x = true) : decimalOf l < 100 ^ l.length := by
  induction l with
  | nil => exact Nat.one_pos
  | cons x l ih =>
    obtain ⟨hx, hl⟩ := List.forall_mem_cons.1 h
    have hlt := ih hl
    have hd : digitsOf x < 100 := by
      obtain ⟨h0, h1⟩ := isBcd_iff.1 hx
      rw [digitsOf]
      omega
    rw [decimalOf, List.length_cons, Nat.pow_succ]
    omega

/-- The bytes of one string are apart. -/
theorem phys_notMem_stringAddrs (seg off : Word) {n : Nat} (h : n < 0xFFFF) : phys seg off ∉ stringAddrs seg (off + 1) n := by
  intro hmem
  obtain ⟨k, hk, e⟩ := List.mem_map.1 hmem
  have hkn := List.mem_range.1 hk
  have ho := off.isLt
  have hs := seg.isLt
  have e' := congrArg BitVec.toNat e
  rw [offset_succ, phys_toNat, phys_toNat, BitVec.toNat_add, BitVec.toNat_ofNat] at e'
  omega

/-- What the loop leaves on decimal digits: `r` is the result, whether it is stored or not. -/
structure Summed (sign : Int) (store : Bool) (a b : List Byte) (c z : Bool) (dst iy : Word) (s : State) (out : Bool × Bool) (t : State)
    (r : List Byte) : Prop where
  strung : Strung s t (if store then stringAddrs dst iy r.length else [])
  length : r.length = a.length
  digits : ∀ x ∈ r, isBcd x = true
  value : (decimalOf a : Int) + sign * (decimalOf b + c.toNat) = decimalOf r + sign * (100 ^ r.length * out.1.toNat)
  zero : out.2 = (z && decide (decimalOf r = 0))
  stored : store = true → t.extBytes dst iy r.length = r

section
variable {sign : Int} {f : Byte → Byte → Bool → Byte × Bool} {store : Bool} {src dst : Word}

/-- The loop does decimal arithmetic, if no source byte is stored before it is read. -/
theorem bcdLoop_sums (hf : IsDecimal sign f) (n : Nat) : n < 0xFFFF → ∀ (ix iy : Word) (c z : Bool) (s : State),
    (∀ a ∈ stringAddrs src ix n, s.memAt a = true) → (∀ a ∈ stringAddrs dst iy n, s.destAt store a = true) →
    (∀ x ∈ s.extBytes src ix n, isBcd x = true) → (∀ x ∈ s.extBytes dst iy n, isBcd x = true) →
    (store = true → ∀ j k, j < k → k < n → phys dst (iy + BitVec.ofNat 16 j) ≠ phys src (ix + BitVec.ofNat 16 k)) →
    ∃ out t r, bcdLoop f store false src dst n ix iy c z s = .ok (out, t) ∧
      Summed sign store (s.extBytes dst iy n) (s.extBytes src ix n) c z dst iy s out t r := by
  induction n with
  | zero =>
    intro _ ix iy c z s _ _ _ _ _
    exact ⟨(c, z), s, [], rfl, .refl s _, rfl, by simp, by simp [State.extBytes, decimalOf], by simp [decimalOf], fun _ => rfl⟩
  | succ n ih =>
    intro hn ix iy c z s hs hd hbs hbd hover
    rw [extBytes_succ] at hbs hbd
    simp only [stringAddrs_succ, List.forall_mem_cons] at hs hd hbs hbd
    rw [extBytes_succ, extBytes_succ]
    generalize hx : s.ext.read (phys src ix).toNat = x at *
    generalize hy : s.ext.read (phys dst iy).toNat = y at *
    have hout : bcdByte f false (s.ext.read (phys dst iy).toNat) (s.ext.read (phys src ix).toNat) c s =
        .ok (f y x c, s.withDraws s.draws) := by rw [hx, hy]; exact bcdByte_closed hbd.1 hbs.1 c s
    obtain ⟨hdig, hval⟩ := hf y x c hbd.1 hbs.1
    generalize f y x c = out1 at *
    have first : Strung s (s.storeIf store (phys dst iy) out1.1) (if store then [phys dst iy] else []) := strung_storeIf _ _ _ _
    have kept (seg off : Word) (h : store = true → phys dst iy ∉ stringAddrs seg off n) :
        (s.storeIf store (phys dst iy) out1.1).extBytes seg off n = s.extBytes seg off n := by
      refine extBytes_congr fun a ha => first.frame.ext a ?_
      cases store with
      | true => exact fun e => h rfl (List.mem_singleton.1 e ▸ ha)
      | false => exact List.not_mem_nil
    have hsrc := kept src (ix + 1) fun hst hmem => by
      obtain ⟨k, hk, e⟩ := List.mem_map.1 hmem
      have hne := hover hst 0 (k + 1) (Nat.succ_pos k) (Nat.succ_lt_succ (List.mem_range.1 hk))
      rw [BitVec.add_zero, ← offset_succ] at hne
      exact hne e.symm
    have hapart : phys dst iy ∉ stringAddrs dst (iy + 1) n := phys_notMem_stringAddrs dst iy (Nat.lt_of_succ_lt hn)
    have hdst := kept dst (iy + 1) fun _ => hapart
    obtain ⟨out, t, r, ht, g⟩ := ih (Nat.lt_of_succ_lt hn) (ix + 1) (iy + 1) out1.2 (z && out1.1 == 0)
      (s.storeIf store (phys dst iy) out1.1) (fun a ha => (first.sameMap.memAt a).trans (hs.2 a ha))
      (fun a ha => (first.sameMap.destAt store a).trans (hd.2 a ha)) (by rw [hsrc]; exact hbs.2) (by rw [hdst]; exact hbd.2)
      (fun hst j k hj hk => by rw [offset_succ, offset_succ]; exact hover hst (j + 1) (k + 1) (Nat.succ_lt_succ hj) (Nat.succ_lt_succ hk))
    rw [hsrc, hdst] at g
    refine ⟨out, t, out1.1 :: r, (bcdLoop_succ hs.1 hd.1 hout).trans ht, ?_, ?_, ?_, ?_, ?_, fun hst => ?_⟩
    · refine first.then g.strung ?_ ?_ <;> cases store <;> simp [stringAddrs_succ]
    · rw [List.length_cons, List.length_cons, g.length]
    · exact List.forall_mem_cons.2 ⟨hdig, g.digits⟩
    · have hrest := g.value
      simp only [decimalOf, List.length_cons]
      push_cast
      linear_combination hval + 100 * hrest
    · have hzero : decide (decimalOf (out1.1 :: r) = 0) = (out1.1 == 0 && decide (decimalOf r = 0)) := by
        rw [Bool.eq_iff_iff, Bool.and_eq_true, beq_iff_eq, decide_eq_true_iff, decide_eq_true_iff, ← digitsOf_eq_zero, decimalOf]
        omega
      rw [g.zero, hzero, Bool.and_assoc]
    · subst hst
      have hlen : r.length = n := g.length.trans (length_extBytes s dst (iy + 1) n)
      have hhead : t.ext.read (phys dst iy).toNat = out1.1 := by
        rw [g.strung.frame.ext (phys dst iy) (by rw [if_pos rfl, hlen]; exact hapart)]
        exact Memory.read_write_same _ _ _
      rw [List.length_cons, extBytes_succ, hhead, g.stored rfl]

end

/-- What ADD4S, SUB4S or CMP4S leaves on decimal digits: `r` is the result, `c` its carry or borrow. -/
structure SumEnds (sign : Int) (store : Bool) (n : Nat) (s t : State) (r : List Byte) (c : Bool) : Prop where
  confined : Confined s t [] maskStatus [] (if store then stringAddrs (s.sreg .ds1) (s.reg16 .iy) n else [])
  cy : t.flag .cy = c
  z : t.flag .z = decide (decimalOf r = 0)
  digits : ∀ x ∈ r, isBcd x = true
  length : r.length = n
  value : (decimalOf (s.extBytes (s.sreg .ds1) (s.reg16 .iy) n) : Int) +
    sign * decimalOf (s.extBytes (s.segValue .ds0) (s.reg16 .ix) n) = decimalOf r + sign * (100 ^ n * c.toNat)
  stored : store = true → t.extBytes (s.sreg .ds1) (s.reg16 .iy) n = r

theorem act_bcdString_sums {sign : Int} {f : Byte → Byte → Bool → Byte × Bool} (hf : IsDecimal sign f) (store : Bool) {s : State}
    {n : Nat} (hcl : (s.reg8 .cl).toNat = 2 * n) (hn : 1 ≤ n)
    (hs : ∀ a ∈ stringAddrs (s.segValue .ds0) (s.reg16 .ix) n, s.memAt a = true)
    (hd : ∀ a ∈ stringAddrs (s.sreg .ds1) (s.reg16 .iy) n, s.destAt store a = true)
    (hbs : ∀ x ∈ s.extBytes (s.segValue .ds0) (s.reg16 .ix) n, isBcd x = true)
    (hbd : ∀ x ∈ s.extBytes (s.sreg .ds1) (s.reg16 .iy) n, isBcd x = true)
    (hover : store = true → ∀ j k, j < k → k < n →
      phys (s.sreg .ds1) (s.reg16 .iy + BitVec.ofNat 16 j) ≠ phys (s.segValue .ds0) (s.reg16 .ix + BitVec.ofNat 16 k)) :
    ∃ t r c, act (bcdString f store) s = .next t ∧ SumEnds sign store n s t r c := by
  have hlt := (s.reg8 .cl).isLt
  have hclosed : bcdLengthOpen (s.reg8 .cl) = false := by
    refine Bool.eq_false_of_not_eq_true fun h => ?_
    rcases (bcdLengthOpen_iff _).1 h with h0 | h0
    · rw [h0] at hcl
      have : (0 : Byte).toNat = 0 := rfl
      omega
    · rw [BitVec.getLsbD, Nat.testBit_zero, decide_eq_true_iff] at h0
      omega
  have hhalf : (s.reg8 .cl).toNat / 2 = n := by omega
  obtain ⟨out, t, r, ht, g⟩ := bcdLoop_sums (store := store) hf n (by omega) _ _ false true s hs hd hbs hbd hover
  have hlen : r.length = n := g.length.trans (length_extBytes _ _ _ _)
  have hact := act_bcdString (s := s) (t := t) (f := f) (store := store) (out := out) (by
    rw [hclosed, if_neg Bool.false_ne_true, hhalf]; exact ht)
  rw [hclosed, if_neg Bool.false_ne_true, if_neg Bool.false_ne_true] at hact
  refine ⟨_, r, out.1, hact, ?_, ?_, ?_, g.digits, hlen, ?_, fun hst => ?_⟩
  · rw [← hlen]
    exact confined_stringStatus g.strung _ _
  · exact (flag_setStatus_status _ _ (by decide)).trans (flagOf_statusWord_cy ..)
  · rw [flag_setStatus_status _ _ (by decide), bcdStringStatus, flagOf_statusWord_z, g.zero, Bool.true_and]
  · have hv := g.value
    rw [hlen] at hv
    simpa using hv
  · rw [← hlen]
    exact g.stored hst

/-- A sum below twice `p`, by its remainder and its carry. -/
theorem sum_carry {a b x p : Nat} {c : Bool} (hx : x < p) (h : (a : Int) + 1 * b = x + 1 * (p * c.toNat)) :
    x = (a + b) % p ∧ c = decide (p ≤ a + b) := by
  cases c with
  | false =>
    have e : a + b = x := by rw [Bool.toNat_false] at h; omega
    rw [e, Nat.mod_eq_of_lt hx]
    exact ⟨rfl, (decide_eq_false (by omega)).symm⟩
  | true =>
    have e : a + b = x + p := by rw [Bool.toNat_true] at h; omega
    rw [e, Nat.add_mod_right, Nat.mod_eq_of_lt hx]
    exact ⟨rfl, (decide_eq_true (by omega)).symm⟩

/-- A difference by its remainder and its borrow. -/
theorem difference_borrow {a b x p : Nat} {c : Bool} (hb : b < p) (hx : x < p)
    (h : (a : Int) + -1 * b = x + -1 * (p * c.toNat)) : x = (a + p - b) % p ∧ c = decide (a < b) ∧ (x = 0 ↔ a = b) := by
  cases c with
  | false =>
    have e : a + p - b = x + p := by rw [Bool.toNat_false] at h; omega
    rw [e, Nat.add_mod_right, Nat.mod_eq_of_lt hx]
    refine ⟨rfl, (decide_eq_false ?_).symm, ?_⟩ <;> omega
  | true =>
    have e : a + p - b = x := by rw [Bool.toNat_true] at h; omega
    rw [e, Nat.mod_eq_of_lt hx]
    refine ⟨rfl, (decide_eq_true ?_).symm, ?_⟩ <;> omega

/-- Settles O52. -/
theorem decimalStrings : Obligations.DecimalStrings := by
  intro s n hcl hn src dst ix iy a b hmem hdig
  have hbs : ∀ x ∈ s.extBytes src ix n, isBcd x = true := fun x hx => isBcd_iff.2 (hdig x (List.mem_append_left _ hx))
  have hbd : ∀ x ∈ s.extBytes dst iy n, isBcd x = true := fun x hx => isBcd_iff.2 (hdig x (List.mem_append_right _ hx))
  have hb : b < 100 ^ n := by rw [← length_extBytes s src ix n]; exact decimalOf_lt hbs
  have hs : ∀ x ∈ stringAddrs src ix n, s.memAt x = true := List.forall_mem_map.2 fun k hk => (hmem k (List.mem_range.1 hk)).1
  refine ⟨?_, fun hram hover => ⟨?_, ?_⟩⟩
  · have hd : ∀ x ∈ stringAddrs dst iy n, s.destAt false x = true := List.forall_mem_map.2 fun k hk => (hmem k (List.mem_range.1 hk)).2
    obtain ⟨t, r, c, ht, g⟩ := act_bcdString_sums bcdSub_isDecimal false hcl hn hs hd hbs hbd (fun h => by cases h)
    have hr : decimalOf r < 100 ^ n := by rw [← g.length]; exact decimalOf_lt g.digits
    obtain ⟨-, hcy, hz⟩ := difference_borrow hb hr (by exact_mod_cast g.value)
    exact ⟨t, ht, g.cy.trans hcy, g.z.trans (decide_eq_decide.2 hz), g.confined.pc, g.confined.quiet, g.confined.frame⟩
  all_goals
    have hd : ∀ x ∈ stringAddrs dst iy n, s.destAt true x = true := List.forall_mem_map.2 fun k hk => hram k (List.mem_range.1 hk)
  · obtain ⟨t, r, c, ht, g⟩ := act_bcdString_sums bcdAdd_isDecimal true hcl hn hs hd hbs hbd (fun _ => hover)
    have hr : decimalOf r < 100 ^ n := by rw [← g.length]; exact decimalOf_lt g.digits
    obtain ⟨hval, hcy⟩ := sum_carry hr (by exact_mod_cast g.value)
    refine ⟨t, ht, ?_, g.cy.trans hcy, ?_, ?_⟩
    · rw [g.stored rfl]; exact hval
    · rw [g.z, hval]
    · rw [g.stored rfl]; exact fun x hx => isBcd_iff.1 (g.digits x hx)
  · obtain ⟨t, r, c, ht, g⟩ := act_bcdString_sums bcdSub_isDecimal true hcl hn hs hd hbs hbd (fun _ => hover)
    have hr : decimalOf r < 100 ^ n := by rw [← g.length]; exact decimalOf_lt g.digits
    obtain ⟨hval, hcy, hz⟩ := difference_borrow hb hr (by exact_mod_cast g.value)
    refine ⟨t, ht, ?_, g.cy.trans hcy, g.z.trans (decide_eq_decide.2 hz), ?_⟩
    · rw [g.stored rfl]; exact hval
    · rw [g.stored rfl]; exact fun x hx => isBcd_iff.1 (g.digits x hx)

end Sys2Proof.Machine
